-- ==== Sys2Proof/Word.lean ====
section
/-! DEFINITION. Word.lean: the byte, the one machine word of the SC26's frames, loop messages and table entries. -/

namespace Sys2Proof

/-- One byte of a frame, a loop message or a table entry (spec/00, "Bits and bytes"). -/
abbrev Byte := BitVec 8

/-- A 29-bit cab bus identifier (section 1.1). -/
abbrev Ident := BitVec 29

end Sys2Proof
end

