-- ==== Sys2Proof/Syntax.lean ====
section
/-! DEFINITION. Syntax.lean: the commands of the block, one constructor per row of spec/opcode_table.json.

A row carries operands only where the event itself brings something from outside the part: a frame, a returning
round, the outcome of a write, an edge, a supply event, or the index of the record that the row is about. A setup
request carries none: it is the frame at the head of the receive queue (R4, R184). -/

namespace Sys2Proof

/-- A frame as the cab bus interface receives it (R1). -/
structure CanFrame where
  /-- a 29-bit identifier (an extended frame); otherwise an 11-bit one -/
  extended : Bool
  /-- a remote frame, which carries no data -/
  remote : Bool
  ident : Ident
  /-- the data bytes; the data length is their number -/
  data : List Byte
  deriving DecidableEq, Repr

/-- The four reset causes (R202), in the order that codes them 0 to 3 (chapter 13). -/
inductive ResetCause where
  | powerOn | supplyDip | restart | defaults
  deriving DecidableEq, Repr

/-- The two levels of the voltage watch (R101). -/
inductive WatchLevel where
  | low | cutoff
  deriving DecidableEq, Repr

/-- An edge on the panel wake line (R201). -/
inductive WakeEdge where
  | rising | falling
  deriving DecidableEq, Repr

/-- What start-up finds damaged in the store and the retention area: a copy or a check value that the supply or the
store itself has spoiled since it was written (R202, R203). -/
structure StoreDamage where
  retention : Bool
  copy0 : Bool
  copy1 : Bool
  mark : Bool
  deriving DecidableEq, Repr

/-- One constructor per row of spec/opcode_table.json, in the table's order. -/
inductive Instr where
  | frameReceived (f : CanFrame)
  | ingressMatch
  | setupNoTag
  | unknownRequest
  | idReq
  | selReq
  | wrpReq
  | rdpReq
  | savReq
  | saveComplete (ok : Bool)
  | defReq
  | lckReq
  | lockWriteComplete (ok : Bool)
  | clrReq
  | actReq
  | rfrReq
  | rstReq
  | restartTrigger
  | staReq
  | signalAgeTick
  | signalStale (n : Fin 32)
  | egressPass
  | egressCountdownExpiry
  | frameTransmitted
  | transmitError (busError : Bool)
  | busOff
  | busOffRecovery
  | priorityFrameAdmitted
  | transmitCycle
  | batteryBlindSet
  | loopFailedAssert
  | errorWindowEnd
  | commandStall (p : Fin 12)
  | receivedRound (bits : BitVec 121)
  | receivedCycleEnd
  | statusMessage
  | nodePresent (p : Fin 12)
  | nodeLost (p : Fin 12)
  | estimateWindowClose
  | levelAssert (l : WatchLevel)
  | levelClear (l : WatchLevel)
  | fullChargeEvent
  | budgetTick
  | surgeLimitExpiry
  | ignitionTimeout
  | purgeLimit
  | levelHoldExpiry
  | manualLimitExpiry
  | preheatWindowClose
  | minimumOnExpiry
  | minimumOffExpiry
  | surgeHoldExpiry
  | protectTimerExpiry
  | minuteTick
  | repeatTimerExpiry
  | noticeRepeat
  | quietTimerExpiry
  | standbyEntry
  | canWake
  | wakeLineEdge (e : WakeEdge)
  | reset (c : ResetCause)
  | startUp (d : StoreDamage)
  deriving DecidableEq, Repr

end Sys2Proof
end

