-- ==== Sys2Proof/Decode.lean ====
section
/-! DEFINITION. Decode.lean: the words of the opcode table. No row of this block's table gives bits ("fields": [] in
every row, n_rows_with_fixed 0 in spec/98_reader.md), so no word spells a command. -/

namespace Sys2Proof

/-- The command a table word spells: none, since no row has bits. -/
def decodeTableWord (_nbits _w : Nat) : Option Instr := none

end Sys2Proof
end

