-- ==== Sys2Proof/Config.lean ====
section
/-! DEFINITION. Config.lean: what an implementation of the SC26 fixes and the manual does not state. -/

namespace Sys2Proof.Config

/-- The revision byte of the ID response (R194, section 13.1 "5 revision"). The manual gives the field and no
value: a FREE VALUE with no body (assumption 13). -/
opaque revision : Byte

end Sys2Proof.Config
end

