-- ==== Sys2Proof/Machine/Bytes.lean ====
section
/-! DEFINITION. Machine/Bytes.lean: byte order, two's complement, bit fields, clamps and the CRC-32 (R5, R205, section 10.4). -/

namespace Sys2Proof.Machine

/-- The byte of value `n mod 256`. -/
def byte (n : Nat) : Byte := BitVec.ofNat 8 n

/-- Byte `k` of a list of bytes, 0 past its end. -/
def byteAt (b : List Byte) (k : Nat) : Nat := (b.getD k 0).toNat

/-- `n` in `w` bytes, least significant first (R205). -/
def le : Nat → Nat → List Byte
  | 0, _ => []
  | w + 1, n => byte n :: le w (n / 256)

/-- The number that bytes hold, least significant first (R205). -/
def unLe : List Byte → Nat
  | [] => 0
  | b :: bs => b.toNat + 256 * unLe bs

/-- The two's complement code of `i` in `bits` bits. -/
def twos (bits : Nat) (i : Int) : Nat := (i % ((2 : Int) ^ bits)).toNat

/-- The signed value that the code `n` of `bits` bits stands for. -/
def signed (bits n : Nat) : Int :=
  if n % 2 ^ bits < 2 ^ (bits - 1) then ((n % 2 ^ bits : Nat) : Int)
  else ((n % 2 ^ bits : Nat) : Int) - ((2 : Int) ^ bits)

/-- A signed number in `w` bytes, least significant first, two's complement (R205). -/
def leS (w : Nat) (i : Int) : List Byte := le w (twos (8 * w) i)

/-- An unknown value or an absent optional field of `w` bytes: all ones (R205). -/
def allOnes (w : Nat) : List Byte := List.replicate w (byte 255)

/-- `w` bytes from byte `k` on, as a number. -/
def leAt (b : List Byte) (k w : Nat) : Nat := unLe ((b.drop k).take w)

/-- `w` bytes from byte `k` on, as a signed number. -/
def leSAt (b : List Byte) (k w : Nat) : Int := signed (8 * w) (leAt b k w)

/-- Bit `n` of a number. -/
def bitAt (x n : Nat) : Bool := x / 2 ^ n % 2 == 1

/-- The `w`-bit field of a number from bit `lo` up. -/
def field (x lo w : Nat) : Nat := x / 2 ^ lo % 2 ^ w

/-- 1 for set, 0 for clear. -/
def bit (b : Bool) : Nat := if b then 1 else 0

/-- "Clamped to [a, b]" (spec/00, "Arithmetic"). -/
def clampI (lo hi x : Int) : Int := if x < lo then lo else if hi < x then hi else x

/-- A 16-bit count raised by 1, "saturates at 65535" (R2, R54, R170). -/
def sat16 (n : Nat) : Nat := if n < 65535 then n + 1 else 65535

/-- A value written to `w` bytes, absent ones as all ones (R205). -/
def leOpt (w : Nat) : Option Nat → List Byte
  | some n => le w n
  | none => allOnes w

/-- A signed value written to `w` bytes, absent ones as all ones (R205). -/
def leSOpt (w : Nat) : Option Int → List Byte
  | some i => leS w i
  | none => allOnes w

/-- Bytes padded with zeros, or cut, to exactly `n`. -/
def padTo : Nat → List Byte → List Byte
  | 0, _ => []
  | n + 1, [] => byte 0 :: padTo n []
  | n + 1, b :: bs => b :: padTo n bs

/-- One bit of the CRC-32: polynomial 0x04C11DB7, bits least significant first, so its mirror image 0xEDB88320. -/
def crcBit (c : BitVec 32) : BitVec 32 :=
  if c.getLsbD 0 then (c >>> 1) ^^^ 0xEDB88320#32 else c >>> 1

/-- One byte of the CRC-32. -/
def crcByte (c : BitVec 32) (b : Byte) : BitVec 32 :=
  crcBit (crcBit (crcBit (crcBit (crcBit (crcBit (crcBit (crcBit (c ^^^ b.setWidth 32))))))))

/-- The CRC-32 of section 10.4: an initial value of all ones and a final inversion. -/
def crc32 (bs : List Byte) : BitVec 32 := ~~~(bs.foldl crcByte 0xFFFFFFFF#32)

end Sys2Proof.Machine
end

