-- ==== Sys2Proof/Machine/Defaults.lean ====
section
/-! DEFINITION. Machine/Defaults.lean: the tables of section 10.2 as entries of bytes, and the defaults each chapter gives,
laid out as section 13.3 lays them out. -/

namespace Sys2Proof.Machine

/-- One table entry: its bytes in the order of section 13.3. -/
abbrev Entry := List Byte

/-- A table: its entries by index. -/
abbrev Table := List Entry

/-- The thirteen tables of section 10.2. -/
structure Tables where
  settings : Table
  ingress : Table
  egress : Table
  signalDefs : Table
  nodeMap : Table
  roster : Table
  palette : Table
  scenes : Table
  keys : Table
  profiles : Table
  derate : Table
  restVoltage : Table
  preheatLeads : Table
  deriving DecidableEq, Repr

/-- Table `n` of section 10.2, empty for a number above 12. -/
def Tables.get (t : Tables) : Nat → Table
  | 0 => t.settings
  | 1 => t.ingress
  | 2 => t.egress
  | 3 => t.signalDefs
  | 4 => t.nodeMap
  | 5 => t.roster
  | 6 => t.palette
  | 7 => t.scenes
  | 8 => t.keys
  | 9 => t.profiles
  | 10 => t.derate
  | 11 => t.restVoltage
  | 12 => t.preheatLeads
  | _ => []

/-- Table `n` replaced. -/
def Tables.put (t : Tables) (n : Nat) (x : Table) : Tables :=
  match n with
  | 0 => { t with settings := x }
  | 1 => { t with ingress := x }
  | 2 => { t with egress := x }
  | 3 => { t with signalDefs := x }
  | 4 => { t with nodeMap := x }
  | 5 => { t with roster := x }
  | 6 => { t with palette := x }
  | 7 => { t with scenes := x }
  | 8 => { t with keys := x }
  | 9 => { t with profiles := x }
  | 10 => { t with derate := x }
  | 11 => { t with restVoltage := x }
  | 12 => { t with preheatLeads := x }
  | _ => t

/-- Entry `i` of table `n`, empty outside the table. -/
def Tables.entry (t : Tables) (n i : Nat) : Entry := (t.get n).getD i []

/-- One entry replaced whole (R186). -/
def Tables.setEntry (t : Tables) (n i : Nat) (e : Entry) : Tables := t.put n ((t.get n).set i e)

/-- Entries of each table (section 10.2). -/
def tableEntries : Nat → Nat
  | 0 => 4
  | 1 => 48
  | 2 => 16
  | 3 => 32
  | 4 => 12
  | 5 => 16
  | 6 => 16
  | 7 => 64
  | 8 => 16
  | 9 => 4
  | 10 => 8
  | 11 => 8
  | 12 => 4
  | _ => 0

/-- Bytes of an entry of each table (section 10.2). -/
def entryBytes : Nat → Nat
  | 0 => 25
  | 1 => 25
  | 2 => 20
  | 3 => 10
  | 4 => 2
  | 5 => 10
  | 6 => 3
  | 7 => 5
  | 8 => 5
  | 9 => 20
  | 10 => 1
  | 11 => 3
  | 12 => 3
  | _ => 0

/-- Parts of five bytes an entry of each table is written and read in (section 10.2). -/
def tableParts (n : Nat) : Nat := (entryBytes n + 4) / 5

/-- A number in bytes followed by the rest of an entry: entries are written field by field. -/
def entryOf (size : Nat) (fields : List (List Byte)) : Entry := padTo size fields.flatten

/-- Settings entry 0: bus, loop and notices. Defaults of R45, R197 and chapter 10: identifiers 0x1C6A0100 and
0x1C6A0200, loss rule (3, 6), AUTO_REFRAME set, all classes enabled, wake mask EMERGENCY and HEATER_LOCKOUT, EITHER. -/
def defaultBusEntry : Entry :=
  entryOf 25 [le 4 0x1C6A0100, le 4 0x1C6A0200, le 1 1, le 1 2, le 2 0xFFFF, le 2 0x0003, le 1 3]

/-- Settings entry 1: energy (R87). -/
def defaultEnergyEntry : Entry :=
  entryOf 25 [le 2 45000, le 2 12000, le 1 8, le 1 3, le 2 600, le 1 10, le 1 5, le 1 2, le 2 1380, le 1 30]

/-- Settings entry 2: climate (section 6.2, section 7.2). -/
def defaultClimateEntry : Entry :=
  entryOf 25 [le 1 0, le 2 180, le 2 200, le 1 120, le 1 1, leS 2 30, le 1 20, le 1 20, le 1 80]

/-- Settings entry 3: lights and rest (R143, R164). -/
def defaultLightsEntry : Entry :=
  entryOf 25 [le 1 0x0F, le 2 12, le 1 15, le 1 40, le 1 64, le 1 160, le 1 16, le 2 60, le 1 4]

/-- An ingress entry that is not valid (R11, "every ingress entry is not valid"): all bytes 0. -/
def defaultIngressEntry : Entry := padTo 25 []

/-- An egress entry that is not valid (R18): all bytes 0. -/
def defaultEgressEntry : Entry := padTo 20 []

/-- A signal definition. -/
def signalDefEntry (lo hi : Int) (limit : Nat) : Entry := entryOf 10 [leS 4 lo, leS 4 hi, le 2 limit]

/-- The default signal definitions (R12, with the fixed ranges of R14). -/
def defaultSignalDefs : Table :=
  [signalDefEntry 0 3 50, signalDefEntry 0 1440 50, signalDefEntry 0 1439 50, signalDefEntry 0 65535 50,
   signalDefEntry (-500) 600 600, signalDefEntry 0 1 20, signalDefEntry 0 1 20, signalDefEntry (-500) 850 50]
  ++ List.replicate 24 (signalDefEntry (-2147483648) 2147483647 0)

/-- A node map entry. -/
def nodeEntry (kind first : Nat) : Entry := entryOf 2 [le 1 kind, le 1 first]

/-- The default node map (R37). -/
def defaultNodeMap : Table :=
  [nodeEntry 1 0, nodeEntry 2 0, nodeEntry 3 0, nodeEntry 4 0, nodeEntry 4 2, nodeEntry 4 4, nodeEntry 4 6,
   nodeEntry 5 0, nodeEntry 5 0, nodeEntry 6 0, nodeEntry 6 0, nodeEntry 0 0]

/-- A valid roster entry that is sheddable. -/
def rosterEntry (kind binding priority run surge limit : Nat) : Entry :=
  entryOf 10 [le 1 (1 + 2 * kind + 8), le 1 binding, le 1 priority, le 2 run, le 2 surge, le 1 limit]

/-- A roster entry that is not valid: all bytes 0. -/
def emptyRosterEntry : Entry := padTo 10 []

/-- The default roster (R58). -/
def defaultRoster : Table :=
  [rosterEntry 0 0 12 28 85 90, rosterEntry 1 0 10 45 120 5, rosterEntry 2 255 8 30 0 1,
   rosterEntry 3 0 3 60 0 1, rosterEntry 3 1 3 60 0 1, rosterEntry 3 2 3 60 0 1, rosterEntry 3 3 3 60 0 1]
  ++ List.replicate 9 emptyRosterEntry

/-- A tint. -/
def tintEntry (warm cool red : Nat) : Entry := [byte warm, byte cool, byte red]

/-- The default palette (R144). -/
def defaultPalette : Table :=
  [tintEntry 63 63 0, tintEntry 63 28 0, tintEntry 36 63 0] ++ List.replicate 12 (tintEntry 63 28 0) ++ [tintEntry 0 0 63]

/-- A scene entry. -/
def sceneEntry (incl : Bool) (tint level fade : Nat) : Entry :=
  entryOf 5 [le 1 (bit incl + 16 * tint), le 1 level, le 2 fade]

/-- A scene that includes all eight channels alike. -/
def sceneAll (tint level fade : Nat) : Table := List.replicate 8 (sceneEntry true tint level fade)

/-- A scene that includes channels 0 to 3 only. The fields of a channel that is not included are those of the row, since
R145 gives no others (assumption 15). -/
def sceneBunk (tint level fade : Nat) : Table :=
  List.replicate 4 (sceneEntry true tint level fade) ++ List.replicate 4 (sceneEntry false tint level fade)

/-- The default scenes (R145). -/
def defaultScenes : Table :=
  sceneAll 1 60 25 ++ sceneAll 1 140 25 ++ sceneBunk 0 220 12 ++ sceneAll 1 255 12
  ++ sceneAll 1 0 12 ++ sceneAll 1 0 12 ++ sceneAll 1 0 12 ++ sceneBunk 0 180 25

/-- A panel key entry. -/
def keyEntry (action : Nat) (constant : Int) : Entry := entryOf 5 [le 1 action, leS 4 constant]

/-- The default keys of one panel (R49): index 2k + x, x = 1 for a long press. MODEL'S CHOICE: the constants of ACK and LIGHTS_OFF, which take
no argument, are 0 (assumption 43). -/
def defaultPanelKeys : Table :=
  [keyEntry 3 5, keyEntry 1 1, keyEntry 3 (-5), keyEntry 1 0,
   keyEntry 9 32, keyEntry 9 (-32), keyEntry 11 0, keyEntry 8 0]

/-- The common fields of the default rest profiles (R163). -/
def profileEntry (required : Nat) (wakeAtComplete : Bool) : Entry :=
  entryOf 20 [le 2 required, le 2 60, le 2 30, le 2 10, le 2 30, le 2 15,
    le 1 (10 + 64 + 128 * bit wakeAtComplete), le 1 0x03, le 1 (0 + 16 * 15), le 1 255, le 1 0, le 1 (3 + 16 * 5),
    le 2 (6 + 7 * 8 + 3 * 64 + 2 * 512 + 4 * 4096)]

/-- The default rest profiles (R163). -/
def defaultProfiles : Table :=
  [profileEntry 660 true, profileEntry 540 true, profileEntry 180 true, profileEntry 540 false]

/-- The default derate table (R89). -/
def defaultDerate : Table := [[byte 50], [byte 60], [byte 70], [byte 80], [byte 88], [byte 95], [byte 100], [byte 100]]

/-- A rest-voltage point. -/
def restVoltageEntry (v p : Nat) : Entry := entryOf 3 [le 2 v, le 1 p]

/-- The default rest-voltage table (R104). -/
def defaultRestVoltage : Table :=
  [restVoltageEntry 1180 0, restVoltageEntry 1195 10, restVoltageEntry 1210 30, restVoltageEntry 1225 50,
   restVoltageEntry 1240 70, restVoltageEntry 1255 85, restVoltageEntry 1265 95, restVoltageEntry 1275 100]

/-- A preheat lead. -/
def leadEntry (threshold : Int) (lead : Nat) : Entry := entryOf 3 [leS 2 threshold, le 1 lead]

/-- The default preheat leads (R175). -/
def defaultPreheatLeads : Table :=
  [leadEntry (-200) 45, leadEntry (-50) 30, leadEntry 50 20, leadEntry 850 0]

/-- Every table at its defaults. -/
def defaultTables : Tables where
  settings := [defaultBusEntry, defaultEnergyEntry, defaultClimateEntry, defaultLightsEntry]
  ingress := List.replicate 48 defaultIngressEntry
  egress := List.replicate 16 defaultEgressEntry
  signalDefs := defaultSignalDefs
  nodeMap := defaultNodeMap
  roster := defaultRoster
  palette := defaultPalette
  scenes := defaultScenes
  keys := defaultPanelKeys ++ defaultPanelKeys
  profiles := defaultProfiles
  derate := defaultDerate
  restVoltage := defaultRestVoltage
  preheatLeads := defaultPreheatLeads

end Sys2Proof.Machine
end

