-- ==== Sys2Proof/Machine/State.lean ====
section
/-! DEFINITION. Machine/State.lean: the state of the SC26, block by block, as plain data, and the state after reset.

A timer is `none` while it is stopped and `some n` while it runs, n its whole seconds run so far. Records of a fixed
number are lists of that length, indexed from 0. -/

namespace Sys2Proof.Machine

/-- The manual gives the block no fault: a step never stops the machine with one. -/
inductive Fault where
  deriving DecidableEq, Repr

/-- The reasons a command has no meaning. -/
inductive Refusal where
  /-- Raised by exec's arm for a row that has no meaning yet; no row is left so. Safe. -/
  | notModelled (mnemonic : String)
  /-- Raised by FRAME_RECEIVED for an operand that is no CAN frame (more than 8 data bytes, a remote frame with data, a
  standard identifier above 11 bits): no such frame exists on a bus. Safe: the hardware never meets it. -/
  | illFormedFrame
  deriving DecidableEq, Repr

/-- Whether the part runs or is held between a reset and the end of its start-up (R202, R203). -/
inductive Phase where
  | held | running
  deriving DecidableEq, Repr

/-! ### Cab bus interface and signals (chapter 1) -/

/-- One place of the receive queue (R3). -/
structure RxFrame where
  ident : Ident
  data : List Byte
  deriving DecidableEq, Repr

/-- A frame for the cab bus; `restart` marks the answer to RST or DEF, whose leaving the restart awaits (R193). -/
structure TxFrame where
  ident : Ident
  data : List Byte
  restart : Bool
  deriving DecidableEq, Repr

/-- The two classes of the transmit queue (section 1.6). -/
inductive TxClass where
  | priority | egress
  deriving DecidableEq, Repr

/-- The six counts of R2, each 0..65535. -/
structure BusCounts where
  overrun : Nat
  unmatched : Nat
  short : Nat
  clamped : Nat
  dropped : Nat
  busOff : Nat
  deriving DecidableEq, Repr

/-- The cab bus interface with its two queues (R2, R3, R19, R20). -/
structure Bus where
  rxQueue : List RxFrame
  prioQueue : List TxFrame
  egressQueue : List TxFrame
  /-- the class whose oldest frame is being transmitted -/
  sending : Option TxClass
  busOff : Bool
  txErrors : Nat
  rxErrors : Nat
  counts : BusCounts
  deriving DecidableEq, Repr

/-- Signal quality (section 1.4). -/
inductive Quality where
  | none | fresh | stale
  deriving DecidableEq, Repr

/-- The live part of a signal record; age limit, min and max stand in table 3 (R12). -/
structure SignalRec where
  value : Int
  quality : Quality
  age : Nat
  changed : Bool
  deriving DecidableEq, Repr

/-- The egress scheduler (R15, R17): countdowns, last-queued payloads, and the entry at which a pass in progress stands,
its countdown having reached 0. -/
structure Egress where
  countdown : List Nat
  lastQueued : List (Option (List Byte))
  passAt : Option Nat
  deriving DecidableEq, Repr

/-! ### The berth loop (chapter 2) -/

/-- A command sent and not yet echoed (R35). -/
structure Unechoed where
  seq : Nat
  cycles : Nat
  deriving DecidableEq, Repr

/-- The transmit side of one position (R22, R35). -/
structure LoopPos where
  /-- the payload sent in the present cycle -/
  sent : List Byte
  /-- the eight bytes held for the present cycle -/
  message : List Byte
  seq : Nat
  /-- the next cycle raises the sequence whatever the payload -/
  raise : Bool
  unechoed : List Unechoed
  stall : Bool
  lastEcho : Option Nat
  deriving DecidableEq, Repr

/-- The transmit side of the loop and its failure watch (R21, R22, R31, R32). -/
structure LoopTx where
  pos : List LoopPos
  /-- number of the transmit round in progress, 0..7 -/
  round : Nat
  outOfSync : Nat
  failed : Bool
  windowCycles : Nat
  windowErrors : Nat
  lastWindow : Nat
  degraded : Bool
  /-- the round in progress at entry to STANDBY is still being sent (R21) -/
  finishing : Bool
  deriving DecidableEq, Repr

/-- Alignment states (section 2.2). -/
inductive RxState where
  | search | confirm | inSync | hold
  deriving DecidableEq, Repr

/-- The last eight bits received at one position, newest in bit 0 (R24). -/
structure Hist where
  count : Nat
  bits : BitVec 8
  deriving DecidableEq, Repr

/-- The candidate of SEARCH and CONFIRM: its position, the round number its rotation gave, and the phase (R24). -/
structure Candidate where
  position : Nat
  round : Nat
  phase : Nat
  deriving DecidableEq, Repr

/-- An alignment (R24). -/
structure Alignment where
  position : Nat
  phase : Nat
  deriving DecidableEq, Repr

/-- One position's message being assembled (R33): its bytes so far, whether a slot error fell on it, and whether a node map
commit has discarded it (R37). -/
structure Assembly where
  bytes : List Byte
  bad : Bool
  dropped : Bool
  deriving DecidableEq, Repr

/-- A complete message waiting for the tests of R34. -/
structure ReadyMsg where
  position : Nat
  bytes : List Byte
  bad : Bool
  dropped : Bool
  deriving DecidableEq, Repr

/-- The receive side of the loop (R24 to R30, R33). -/
structure LoopRx where
  state : RxState
  hist : List Hist
  candidate : Option Candidate
  confirmed : Nat
  mimicSeen : Bool
  /-- the last alignment, whose position is the measured loop delay (R29) -/
  last : Option Alignment
  /-- comparison record, newest last, true for an error -/
  record : List Bool
  /-- number of the received round in progress -/
  round : Nat
  /-- bits of the slot in progress, oldest first -/
  slotBits : List Bool
  slot : Nat
  assembling : Bool
  parts : List Assembly
  ready : List ReadyMsg
  /-- a counted cycle has completed and its end (R38, R43) is still to be taken -/
  endDue : Bool
  deriving DecidableEq, Repr

/-- Presence states (section 2.6). -/
inductive Presence where
  | unconfigured | seeking | present | lost | mismatch
  deriving DecidableEq, Repr

/-- The measurement fields a record holds, by kind (section 2.6); none for a record never received (R41). -/
inductive Measures where
  | none
  | battery (current : Int) (voltage : Nat) (temp : Int)
  | heater (intake : Int) (applied : Nat)
  | fridge (cabinet : Int)
  | light
  | panel (counters : List Nat) (cab : Int)
  | outlet
  deriving DecidableEq, Repr

/-- What the message of the last counted cycle was (R38, R39). -/
inductive CycleResult where
  | nothing | accepted | foreign
  deriving DecidableEq, Repr

/-- One node record (section 2.6). The two debounced fields of a kind are `heldA` and `heldB`. -/
structure NodeRec where
  presence : Presence
  count : Nat
  stale : Bool
  measures : Measures
  heldA : Option Nat
  heldB : Option Nat
  candA : Option Nat
  candB : Option Nat
  result : CycleResult
  deriving DecidableEq, Repr

/-! ### Panels and actions (chapter 3) -/

/-- The source of an action (R52). -/
inductive ActionSource where
  | panelKey | ingress | act
  deriving DecidableEq, Repr

/-- The dispatch record (R54). -/
structure DispatchRec where
  code : Nat
  argument : Option Int
  source : ActionSource
  taken : Bool
  deriving DecidableEq, Repr

/-- The panel dispatcher and the panel command fields its neighbours set (R47, R50, R54). -/
structure Panel where
  baselines : List (Option (List Nat))
  refused : Nat
  record : Option DispatchRec
  pattern : Nat
  strike : Nat
  display : Nat
  backlight : Nat
  deriving DecidableEq, Repr

/-! ### Load roster (chapter 4) -/

/-- Grant states (section 4.2). -/
inductive Grant where
  | idle | waiting | on | stopping | shedding | shed
  deriving DecidableEq, Repr

/-- Shed reasons (R59). -/
inductive ShedReason where
  | none | budget | emergency
  deriving DecidableEq, Repr

/-- Roster kinds (section 4.1). -/
inductive LoadKind where
  | heater | fridge | lights | outlet
  deriving DecidableEq, Repr

/-- The working copy of R80. -/
structure Working where
  priority : Nat
  run : Nat
  surge : Nat
  limit : Nat
  sheddable : Bool
  deriving DecidableEq, Repr

/-- The live part of a roster entry (R59). The duty estimate of a FRIDGE entry stands in the retention area; surge need,
protect request and surge place are read from their owners. -/
structure Live where
  grant : Grant
  want : Bool
  duty : Nat
  protect : Bool
  reason : ShedReason
  work : Working
  deriving DecidableEq, Repr

/-- The holder of the surge slot: its entry, the limit taken at the hand-over, and the seconds held (R75). -/
structure Holder where
  entry : Nat
  limit : Nat
  elapsed : Nat
  deriving DecidableEq, Repr

/-- A place of the surge queue: its entry and the order of its ask (R73, R77). -/
structure Place where
  entry : Nat
  asked : Nat
  deriving DecidableEq, Repr

/-- The load roster's live state (R59, R73, R78). -/
structure Roster where
  live : List Live
  holder : Option Holder
  queue : List Place
  asks : Nat
  outlets : List Bool
  deriving DecidableEq, Repr

/-! ### Energy accountant (chapter 5) -/

/-- Modes of a budget tick (R96). -/
inductive Mode where
  | cutoff | low | surplus | normal
  deriving DecidableEq, Repr

/-- One level of the voltage watch (R101). -/
structure Level where
  asserted : Bool
  assertCount : Nat
  clearCount : Nat
  deriving DecidableEq, Repr

/-- The figures of the latest tick (R95). -/
structure Figures where
  cu : Nat
  available : Nat
  horizon : Nat
  allowance : Nat
  draw : Nat
  deriving DecidableEq, Repr

/-- The energy accountant's state outside the retention area (chapter 5). -/
structure Energy where
  held : Option Int
  holdCount : Nat
  blind : Bool
  /-- the cycle just ended was blind and BATTERY_BLIND is still to be set (R84) -/
  blindDue : Bool
  /-- a battery message was accepted since the end of the previous transmit cycle -/
  heard : Bool
  history : List Int
  figures : Option Figures
  /-- a budget tick has come since the last reset or wake (R84) -/
  ticked : Bool
  mode : Mode
  low : Level
  cutoff : Level
  fullCount : Nat
  /-- the estimate window, with the transmit cycles it has run (R103) -/
  window : Option Nat
  deriving DecidableEq, Repr

/-! ### Heater and fridge (chapters 6 and 7) -/

/-- The heater mode (section 6.2); `manual l` is level l, 1..4. -/
inductive HeatMode where
  | off | auto | manual (level : Nat)
  deriving DecidableEq, Repr

/-- Heater controller states (section 6.6). -/
inductive HeaterState where
  | off | requesting | starting | running | stopping | retryWait | lockout
  deriving DecidableEq, Repr

/-- The heater controller (chapter 6). -/
structure Heater where
  state : HeaterState
  mode : HeatMode
  setPoint : Int
  thermo : Bool
  /-- end minute of the open preheat window -/
  window : Option Nat
  preheat : Bool
  /-- demand as last worked out (R115) -/
  demand : Bool
  /-- minute ticks counted in MANUAL (R110) -/
  manualCount : Option Nat
  /-- the count reached the limit at the last minute tick -/
  manualDue : Bool
  /-- the window's end minute was reached at the last minute tick -/
  windowDue : Bool
  /-- last commanded level, 1 if none since the reset (R108) -/
  level : Nat
  levelHold : Option Nat
  ignition : Option Nat
  purge : Option Nat
  startSeen : Bool
  ignitionTime : Option Nat
  purgeOutstanding : Bool
  /-- the outdoor reading as last formed (R112) -/
  outdoor : Option Int
  deriving DecidableEq, Repr

/-- Fridge controller states (section 7.3). -/
inductive FridgeState where
  | off | idleCold | want | held | cooling | fault
  deriving DecidableEq, Repr

/-- Causes of the fridge's FAULT (R138). -/
inductive FridgeCause where
  | nodeFault | nodeLost
  deriving DecidableEq, Repr

/-- The fridge controller (chapter 7). -/
structure Fridge where
  state : FridgeState
  on : Bool
  setPoint : Int
  /-- the mode of the latest tick it was told is SURPLUS (R131) -/
  surplus : Bool
  minOn : Option Nat
  minOff : Option Nat
  surgeHold : Option Nat
  protectTimer : Option Nat
  protectRequest : Bool
  cause : Option FridgeCause
  deriving DecidableEq, Repr

/-! ### Lights (chapter 8) -/

/-- A fade in flight (R146). -/
structure Fade where
  start : Nat
  target : Nat
  n : Nat
  k : Nat
  deriving DecidableEq, Repr

/-- A channel's output as the last cycle step composed it, with the case of R151 that did (0 before the first step). -/
structure Output where
  tint : Nat
  level : Nat
  warm : Nat
  cool : Nat
  red : Nat
  case : Nat
  deriving DecidableEq, Repr

/-- A channel record (section 8.1); the bunk flag is read from the light settings (R143). -/
structure Channel where
  level : Nat
  fade : Option Fade
  tint : Nat
  pending : Option Nat
  link : Option Nat
  fault : Nat
  out : Output
  deriving DecidableEq, Repr

/-- Phases of an overlay (section 8.6). -/
inductive OverlayPhase where
  | unshown | a | b
  deriving DecidableEq, Repr

/-- An overlay record (section 8.6). -/
structure Overlay where
  inUse : Bool
  kind : Nat
  index : Nat
  mask : Nat
  tintA : Nat
  levelA : Nat
  tintB : Nat
  levelB : Nat
  onCycles : Nat
  offCycles : Nat
  phase : OverlayPhase
  count : Nat
  deriving DecidableEq, Repr

/-- The light engine (chapter 8). `newer` is the index of the newer overlay record. -/
structure Lights where
  channels : List Channel
  overlays : List Overlay
  newer : Nat
  sunrise : Bool
  deriving DecidableEq, Repr

/-! ### Rest clock (chapter 9) -/

/-- Warning kinds in the order of section 9.4, which is also their order of urgency. -/
inductive WarnKind where
  | restShort | wake | restComplete | restLead | breakSoon | preheat | sunrise
  deriving DecidableEq, Repr

/-- A queue entry (section 9.4). -/
structure Warning where
  kind : WarnKind
  index : Nat
  due : Nat
  figure : Nat
  deriving DecidableEq, Repr

/-- Rest states (section 9.3). -/
inductive RestState where
  | none | resting | complete
  deriving DecidableEq, Repr

/-- The rest record (section 9.3). -/
structure RestRec where
  state : RestState
  start : Nat
  accumulated : Nat
  provisional : Nat
  required : Nat
  leadsServed : List Bool
  sunriseGiven : Bool
  lastClosed : Option (Nat × Nat)
  deriving DecidableEq, Repr

/-- The active warning (section 9.7). -/
structure Active where
  kind : WarnKind
  index : Nat
  figure : Nat
  /-- the short-by figure a REST_SHORT entry carries back into the queue -/
  entryFigure : Nat
  repeats : Nat
  deriving DecidableEq, Repr

/-- The preheat record (R176): the wake minute it was opened for, and its mark. -/
structure PreheatRec where
  wake : Nat
  isOpen : Bool
  deriving DecidableEq, Repr

/-- The rest clock's state outside the retention area. -/
structure Rest where
  /-- the wake minute last worked out (R174) -/
  wake : Option Nat
  breakServed : List Bool
  /-- the driver's activity as last heard was DRIVE -/
  driving : Bool
  dataStale : Bool
  repeatTimer : Option Nat
  /-- the repeat interval in force since the repeat timer was last started (R164) -/
  repeatLimit : Nat
  overflow : Nat
  /-- the first transmit cycle since start-up has ended, so sweeps are made (R171) -/
  sweeping : Bool
  deriving DecidableEq, Repr

/-! ### Setup channel, store, notices, power (chapters 10 and 11) -/

/-- The cursor (R187). -/
structure Cursor where
  table : Nat
  index : Nat
  auto : Bool
  deriving DecidableEq, Repr

/-- The staging (R188): the entry it belongs to and its parts 0, 1, … held so far. -/
structure Staging where
  table : Nat
  index : Nat
  parts : List (List Byte)
  deriving DecidableEq, Repr

/-- The read snapshot (R190). -/
structure ReadSnap where
  table : Nat
  index : Nat
  bytes : List Byte
  deriving DecidableEq, Repr

/-- The status snapshot (R195). -/
structure StatusSnap where
  item : Nat
  selector : Nat
  bytes : List Byte
  deriving DecidableEq, Repr

/-- Store states (section 10.4). -/
inductive StoreState where
  | idle | saving | lockWriting
  deriving DecidableEq, Repr

/-- Image states (R194, R203). -/
inductive ImageState where
  | loaded | defaults
  deriving DecidableEq, Repr

/-- One copy of the image (section 10.4). -/
structure ImageCopy where
  saveNumber : Nat
  tables : Tables
  crc : BitVec 32
  deriving DecidableEq, Repr

/-- The lock mark in the store: absent, present and valid, or present and not valid (R203). -/
inductive LockMark where
  | absent | valid | invalid
  deriving DecidableEq, Repr

/-- The non-volatile store (section 10.4): the two copies, none where a copy is absent or torn, which of them is the
current image, the lock mark, and the copy a save is writing. -/
structure Store where
  copies : List (Option ImageCopy)
  current : Option Nat
  mark : LockMark
  writing : Option ImageCopy
  deriving DecidableEq, Repr

/-- A restart that RST or DEF has arranged (R193). -/
structure RestartDue where
  cause : ResetCause
  answerLeft : Bool
  deriving DecidableEq, Repr

/-- The setup channel (chapter 10). -/
structure Setup where
  cursor : Option Cursor
  staging : Option Staging
  readSnap : Option ReadSnap
  statusSnap : Option StatusSnap
  /-- the response that waits for a place in the transmit queue (R19) -/
  waiting : Option TxFrame
  store : StoreState
  lock : Bool
  /-- unsaved marks of tables 0 to 12 -/
  unsaved : List Bool
  /-- unsaved marks of the entries of table 0 -/
  unsavedSettings : List Bool
  image : ImageState
  restart : Option RestartDue
  deriving DecidableEq, Repr

/-- The notice unit (R196, R198). -/
structure Notices where
  flags : BitVec 16
  details : List (List Byte)
  repeatTimer : Option Nat
  waiting : Option TxFrame
  deriving DecidableEq, Repr

/-- Power states (section 11.3). -/
inductive PowerState where
  | run | quiet | standby
  deriving DecidableEq, Repr

/-- The power-state block (R199, R200) and the reset cause as reported (R202). -/
structure Power where
  state : PowerState
  quietTimer : Option Nat
  standbyTimer : Option Nat
  cause : ResetCause
  deriving DecidableEq, Repr

/-- The retention area (R202). -/
structure Retention where
  charge : Nat
  residue : Int
  estimated : Bool
  fridgeDuty : Nat
  failedStarts : Nat
  lockout : Bool
  clock : Nat
  rest : RestRec
  profile : Nat
  queue : List Warning
  active : Option Active
  alarm : Option Nat
  lastWake : Option Nat
  preheat : Option PreheatRec
  deriving DecidableEq, Repr

/-- The whole part, and the queue of the commands that wait for it. -/
structure State where
  phase : Phase
  bus : Bus
  signals : List SignalRec
  egress : Egress
  tx : LoopTx
  rx : LoopRx
  nodes : List NodeRec
  panel : Panel
  roster : Roster
  energy : Energy
  heater : Heater
  fridge : Fridge
  lights : Lights
  rest : Rest
  setup : Setup
  store : Store
  notices : Notices
  power : Power
  ret : Retention
  tables : Tables
  /-- the commands that wait, first in, first out -/
  pending : List Instr
  deriving DecidableEq, Repr

/-! ### Values after a reset -/

/-- The interface after every reset (R2, R3, R19, R20). -/
def Bus.init : Bus where
  rxQueue := []
  prioQueue := []
  egressQueue := []
  sending := none
  busOff := false
  txErrors := 0
  rxErrors := 0
  counts := { overrun := 0, unmatched := 0, short := 0, clamped := 0, dropped := 0, busOff := 0 }

/-- A signal record after every reset (R12). -/
def SignalRec.init : SignalRec where
  value := 0
  quality := .none
  age := 0
  changed := false

/-- The scheduler after every reset (R15, R17); the countdowns are loaded at start-up. -/
def Egress.init : Egress where
  countdown := List.replicate 16 0
  lastQueued := List.replicate 16 none
  passAt := none

/-- A position's transmit side after every reset (R22, R35). -/
def LoopPos.init : LoopPos where
  sent := padTo 6 []
  message := padTo 8 []
  seq := 0
  raise := true
  unechoed := []
  stall := false
  lastEcho := none

/-- The transmit side after every reset (R22, R31, R32). -/
def LoopTx.init : LoopTx where
  pos := List.replicate 12 LoopPos.init
  round := 0
  outOfSync := 0
  failed := false
  windowCycles := 0
  windowErrors := 0
  lastWindow := 0
  degraded := false
  finishing := false

/-- An empty history (R24). -/
def Hist.init : Hist where
  count := 0
  bits := 0

/-- Nothing assembled (R33). -/
def Assembly.init : Assembly where
  bytes := []
  bad := false
  dropped := false

/-- The receive side after every reset (R30). -/
def LoopRx.init : LoopRx where
  state := .search
  hist := List.replicate 121 Hist.init
  candidate := none
  confirmed := 0
  mimicSeen := false
  last := none
  record := []
  round := 0
  slotBits := []
  slot := 0
  assembling := false
  parts := List.replicate 12 Assembly.init
  ready := []
  endDue := false

/-- A record never received, at a presence state (R41). -/
def NodeRec.never (p : Presence) : NodeRec where
  presence := p
  count := 0
  stale := true
  measures := .none
  heldA := none
  heldB := none
  candA := none
  candB := none
  result := .nothing

/-- The dispatcher after every reset (R47, R54); pattern 0, strike 0 and a blank display (R182), the day backlight (R153). -/
def Panel.init : Panel where
  baselines := [none, none]
  refused := 0
  record := none
  pattern := 0
  strike := 0
  display := 0
  backlight := 160

/-- A live part as a reset leaves it, with a working copy (R60). -/
def Live.init (w : Working) : Live where
  grant := .idle
  want := false
  duty := 256
  protect := false
  reason := .none
  work := w

/-- The working copy of an entry that is not valid, which holds no live state. -/
def Working.init : Working where
  priority := 0
  run := 0
  surge := 0
  limit := 0
  sheddable := false

/-- The roster after every reset (R60, R76, R78); the valid entries are set up at start-up. -/
def Roster.init : Roster where
  live := List.replicate 16 (Live.init Working.init)
  holder := none
  queue := []
  asks := 0
  outlets := [false, false, false, false]

/-- A level after every reset (R102). -/
def Level.init : Level where
  asserted := false
  assertCount := 0
  clearCount := 0

/-- The accountant after every reset (R85, R96, R102, R105). -/
def Energy.init : Energy where
  held := none
  holdCount := 0
  blind := false
  blindDue := false
  heard := false
  history := []
  figures := none
  ticked := false
  mode := .normal
  low := Level.init
  cutoff := Level.init
  fullCount := 0
  window := none

/-- The heater controller after every reset, before start-up gives its mode, set point and state (R127). -/
def Heater.init : Heater where
  state := .off
  mode := .off
  setPoint := 180
  thermo := false
  window := none
  preheat := false
  demand := false
  manualCount := none
  manualDue := false
  windowDue := false
  level := 1
  levelHold := none
  ignition := none
  purge := none
  startSeen := false
  ignitionTime := none
  purgeOutstanding := false
  outdoor := none

/-- The fridge controller after every reset, before start-up gives its mode, set point and state (R140). -/
def Fridge.init : Fridge where
  state := .off
  on := false
  setPoint := 30
  surplus := false
  minOn := none
  minOff := none
  surgeHold := none
  protectTimer := none
  protectRequest := false
  cause := none

/-- No output yet (R142). -/
def Output.init : Output where
  tint := 0
  level := 0
  warm := 0
  cool := 0
  red := 0
  case := 0

/-- A channel after every reset (R142). -/
def Channel.init : Channel where
  level := 0
  fade := none
  tint := 0
  pending := none
  link := none
  fault := 0
  out := Output.init

/-- An overlay record out of use (R156). -/
def Overlay.init : Overlay where
  inUse := false
  kind := 0
  index := 0
  mask := 0
  tintA := 0
  levelA := 0
  tintB := 0
  levelB := 0
  onCycles := 0
  offCycles := 0
  phase := .unshown
  count := 0

/-- The light engine after every reset (R142, R153, R156). -/
def Lights.init : Lights where
  channels := List.replicate 8 Channel.init
  overlays := [Overlay.init, Overlay.init]
  newer := 0
  sunrise := false

/-- The rest clock outside the retention area, after every reset (R173, R182). -/
def Rest.init : Rest where
  wake := none
  breakServed := [false, false]
  driving := false
  dataStale := false
  repeatTimer := none
  repeatLimit := 0
  overflow := 0
  sweeping := false

/-- The setup channel after every reset (R184). -/
def Setup.init : Setup where
  cursor := none
  staging := none
  readSnap := none
  statusSnap := none
  waiting := none
  store := .idle
  lock := false
  unsaved := List.replicate 13 false
  unsavedSettings := List.replicate 4 false
  image := .defaults
  restart := none

/-- The notice unit after every reset (R196). -/
def Notices.init : Notices where
  flags := 0
  details := List.replicate 16 (padTo 4 [])
  repeatTimer := none
  waiting := none

/-- The power-state block after a reset, before reception opens (R199). -/
def Power.init (c : ResetCause) : Power where
  state := .run
  quietTimer := none
  standbyTimer := none
  cause := c

/-- The rest record after POWER_ON (R165); required is taken when a rest opens. -/
def RestRec.init : RestRec where
  state := .none
  start := 0
  accumulated := 0
  provisional := 0
  required := 660
  leadsServed := [false, false, false]
  sunriseGiven := false
  lastClosed := none

/-- The retention area's POWER_ON values (R60, R103, R127, R161, R164, R165, R170, R174, R176), for a capacity C. -/
def Retention.init (capacity : Nat) : Retention where
  charge := capacity / 2
  residue := 0
  estimated := true
  fridgeDuty := 0
  failedStarts := 0
  lockout := false
  clock := 0
  rest := RestRec.init
  profile := 0
  queue := []
  active := none
  alarm := none
  lastWake := none
  preheat := none

/-- A store that has never been written. -/
def Store.init : Store where
  copies := [none, none]
  current := none
  mark := .absent
  writing := none

/-- The part held in reset with a cause, a store and a retention area: everything else at its reset value (R202). -/
def State.heldIn (c : ResetCause) (store : Store) (ret : Retention) (pending : List Instr) : State where
  phase := .held
  bus := Bus.init
  signals := List.replicate 32 SignalRec.init
  egress := Egress.init
  tx := LoopTx.init
  rx := LoopRx.init
  nodes := List.replicate 11 (NodeRec.never .seeking) ++ [NodeRec.never .unconfigured]
  panel := Panel.init
  roster := Roster.init
  energy := Energy.init
  heater := Heater.init
  fridge := Fridge.init
  lights := Lights.init
  rest := Rest.init
  setup := Setup.init
  store := store
  notices := Notices.init
  power := Power.init c
  ret := ret
  tables := defaultTables
  pending := pending

/-- The machine right after reset: a part powered for the first time, held in reset with cause POWER_ON, its store never
written; START_UP is the step that follows (R202, R203). -/
def State.reset : State := State.heldIn .powerOn Store.init (Retention.init 45000) []

end Sys2Proof.Machine
end

