-- ==== Sys2Proof/Machine/Ops.lean ====
section
/-! DEFINITION. Machine/Ops.lean: one update operation per block of the state, and the reads of records by index that every
block shares. -/

namespace Sys2Proof.Machine

/-! ### One update per block -/

/-- The state with its `bus` changed. -/
def State.modBus (s : State) (f : Bus → Bus) : State := { s with bus := f s.bus }

/-- The state with its `signals` changed. -/
def State.modSignals (s : State) (f : List SignalRec → List SignalRec) : State := { s with signals := f s.signals }

/-- The state with its `egress` changed. -/
def State.modEgress (s : State) (f : Egress → Egress) : State := { s with egress := f s.egress }

/-- The state with its `tx` changed. -/
def State.modTx (s : State) (f : LoopTx → LoopTx) : State := { s with tx := f s.tx }

/-- The state with its `rx` changed. -/
def State.modRx (s : State) (f : LoopRx → LoopRx) : State := { s with rx := f s.rx }

/-- The state with its `nodes` changed. -/
def State.modNodes (s : State) (f : List NodeRec → List NodeRec) : State := { s with nodes := f s.nodes }

/-- The state with its `panel` changed. -/
def State.modPanel (s : State) (f : Panel → Panel) : State := { s with panel := f s.panel }

/-- The state with its `roster` changed. -/
def State.modRoster (s : State) (f : Roster → Roster) : State := { s with roster := f s.roster }

/-- The state with its `energy` changed. -/
def State.modEnergy (s : State) (f : Energy → Energy) : State := { s with energy := f s.energy }

/-- The state with its `heater` changed. -/
def State.modHeater (s : State) (f : Heater → Heater) : State := { s with heater := f s.heater }

/-- The state with its `fridge` changed. -/
def State.modFridge (s : State) (f : Fridge → Fridge) : State := { s with fridge := f s.fridge }

/-- The state with its `lights` changed. -/
def State.modLights (s : State) (f : Lights → Lights) : State := { s with lights := f s.lights }

/-- The state with its `rest` changed. -/
def State.modRest (s : State) (f : Rest → Rest) : State := { s with rest := f s.rest }

/-- The state with its `setup` changed. -/
def State.modSetup (s : State) (f : Setup → Setup) : State := { s with setup := f s.setup }

/-- The state with its `store` changed. -/
def State.modStore (s : State) (f : Store → Store) : State := { s with store := f s.store }

/-- The state with its `notices` changed. -/
def State.modNotices (s : State) (f : Notices → Notices) : State := { s with notices := f s.notices }

/-- The state with its `power` changed. -/
def State.modPower (s : State) (f : Power → Power) : State := { s with power := f s.power }

/-- The state with its `ret` changed. -/
def State.modRet (s : State) (f : Retention → Retention) : State := { s with ret := f s.ret }

/-- The state with its `tables` changed. -/
def State.modTables (s : State) (f : Tables → Tables) : State := { s with tables := f s.tables }

/-! ### Records by index -/

/-- Signal `n` (section 1.4). -/
def State.signal (s : State) (n : Nat) : SignalRec := s.signals.getD n SignalRec.init

/-- Signal `n` changed. -/
def State.modSignal (s : State) (n : Nat) (f : SignalRec → SignalRec) : State := s.modSignals (·.modify n f)

/-- The value of a FRESH signal. -/
def State.freshSignal (s : State) (n : Nat) : Option Int :=
  if (s.signal n).quality = .fresh then some (s.signal n).value else none

/-- The record of position `p` (section 2.6). -/
def State.node (s : State) (p : Nat) : NodeRec := s.nodes.getD p (NodeRec.never .unconfigured)

/-- The record of position `p` changed. -/
def State.modNode (s : State) (p : Nat) (f : NodeRec → NodeRec) : State := s.modNodes (·.modify p f)

/-- The transmit side of position `p`. -/
def State.loopPos (s : State) (p : Nat) : LoopPos := s.tx.pos.getD p LoopPos.init

/-- The transmit side of position `p` changed. -/
def State.modLoopPos (s : State) (p : Nat) (f : LoopPos → LoopPos) : State :=
  s.modTx fun t => { t with pos := t.pos.modify p f }

/-- The live part of roster entry `i`. -/
def State.live (s : State) (i : Nat) : Live := s.roster.live.getD i (Live.init Working.init)

/-- The live part of roster entry `i` changed. -/
def State.modLive (s : State) (i : Nat) (f : Live → Live) : State :=
  s.modRoster fun r => { r with live := r.live.modify i f }

/-- Channel `c` (section 8.1). -/
def State.channel (s : State) (c : Nat) : Channel := s.lights.channels.getD c Channel.init

/-- Channel `c` changed. -/
def State.modChannel (s : State) (c : Nat) (f : Channel → Channel) : State :=
  s.modLights fun l => { l with channels := l.channels.modify c f }

/-- The rest record (section 9.3). -/
def State.restRec (s : State) : RestRec := s.ret.rest

/-- The rest record changed. -/
def State.modRestRec (s : State) (f : RestRec → RestRec) : State := s.modRet fun r => { r with rest := f r.rest }

/-- A function applied for each index in turn, the state handed on. -/
def State.forEach (s : State) (is : List Nat) (f : Nat → State → State) : State := is.foldl (fun t i => f i t) s

/-- The part runs and is not in STANDBY: the loop transmits and the cab receiver is on (section 11.3). -/
def State.awake (s : State) : Bool := s.phase == .running && s.power.state != .standby

end Sys2Proof.Machine
end

