-- ==== Sys2Proof/Machine/Operands.lean ====
section
/-! DEFINITION. Machine/Operands.lean: the fields of the table entries (section 13.3) and of a setup request (section 13.1), as
the blocks read them. -/

namespace Sys2Proof.Machine

/-! ### Table 0 -/

/-- The setup request identifier (R4). -/
def State.requestIdent (s : State) : Nat := leAt (s.tables.entry 0 0) 0 4

/-- The setup response identifier (R185). -/
def State.responseIdent (s : State) : Nat := leAt (s.tables.entry 0 0) 4 4

/-- The loss rule (K, N) of R27 and R45. -/
def lossRuleOf : Nat → Nat × Nat
  | 0 => (2, 4)
  | 1 => (3, 6)
  | _ => (4, 8)

/-- The loss rule in force. -/
def State.lossRule (s : State) : Nat × Nat := lossRuleOf (byteAt (s.tables.entry 0 0) 8)

/-- MIMIC_STRICT (R45). -/
def State.strict (s : State) : Bool := bitAt (byteAt (s.tables.entry 0 0) 9) 0

/-- AUTO_REFRAME (R45). -/
def State.autoReframe (s : State) : Bool := bitAt (byteAt (s.tables.entry 0 0) 9) 1

/-- The enable set (R197). -/
def State.enableSet (s : State) : BitVec 16 := BitVec.ofNat 16 (leAt (s.tables.entry 0 0) 10 2)

/-- The wake mask (R197). -/
def State.wakeMask (s : State) : BitVec 16 := BitVec.ofNat 16 (leAt (s.tables.entry 0 0) 12 2)

/-- The wake-line edge setting: NONE 0, RISING 1, FALLING 2, EITHER 3 (R197). -/
def State.wakeEdge (s : State) : Nat := byteAt (s.tables.entry 0 0) 14

/-- The energy settings (R87). -/
structure EnergySettings where
  capacity : Nat
  reserve : Nat
  standing : Nat
  standby : Nat
  horizon : Nat
  margin : Nat
  lowStep : Nat
  cutoffStep : Nat
  fullVoltage : Nat
  taper : Nat
  deriving DecidableEq, Repr

/-- The fields of settings entry 1. -/
def energySettingsOf (e : Entry) : EnergySettings where
  capacity := leAt e 0 2
  reserve := leAt e 2 2
  standing := byteAt e 4
  standby := byteAt e 5
  horizon := leAt e 6 2
  margin := byteAt e 8
  lowStep := byteAt e 9
  cutoffStep := byteAt e 10
  fullVoltage := leAt e 11 2
  taper := byteAt e 13

/-- The energy settings in the table. -/
def State.energySettings (s : State) : EnergySettings := energySettingsOf (s.tables.entry 0 1)

/-- A level's voltage in 10 mV: 11.50 V + 0.10 V × step (R87). -/
def stepVoltage (step : Nat) : Nat := 1150 + 10 * step

/-- The climate settings (section 6.2, section 7.2). -/
structure ClimateSettings where
  heatMode : Nat
  heatSet : Nat
  comfort : Nat
  runLimit : Nat
  fridgeMode : Nat
  fridgeSet : Int
  hysteresis : Nat
  offset : Nat
  protectLevel : Nat
  deriving DecidableEq, Repr

/-- The fields of settings entry 2. -/
def climateSettingsOf (e : Entry) : ClimateSettings where
  heatMode := byteAt e 0
  heatSet := leAt e 1 2
  comfort := leAt e 3 2
  runLimit := byteAt e 5
  fridgeMode := byteAt e 6
  fridgeSet := leSAt e 7 2
  hysteresis := byteAt e 9
  offset := byteAt e 10
  protectLevel := byteAt e 11

/-- The climate settings in the table. -/
def State.climate (s : State) : ClimateSettings := climateSettingsOf (s.tables.entry 0 2)

/-- The light settings and the rest clock's two settings (R143, R164). -/
structure LightSettings where
  bunkMask : Nat
  offFade : Nat
  nightTint : Nat
  nightCap : Nat
  shedCap : Nat
  dayBacklight : Nat
  nightBacklight : Nat
  repeatInterval : Nat
  repeatCount : Nat
  deriving DecidableEq, Repr

/-- The fields of settings entry 3. -/
def lightSettingsOf (e : Entry) : LightSettings where
  bunkMask := byteAt e 0
  offFade := leAt e 1 2
  nightTint := byteAt e 3
  nightCap := byteAt e 4
  shedCap := byteAt e 5
  dayBacklight := byteAt e 6
  nightBacklight := byteAt e 7
  repeatInterval := leAt e 8 2
  repeatCount := byteAt e 10

/-- The light settings in the table. -/
def State.lightSettings (s : State) : LightSettings := lightSettingsOf (s.tables.entry 0 3)

/-! ### Tables 1 to 3 -/

/-- An ingress entry (section 1.2); kind 0 STORE, 1 ACTION, 2 STORE_ACTION. -/
structure IngressEntry where
  valid : Bool
  kind : Nat
  signedField : Bool
  fromField : Bool
  ident : Nat
  mask : Nat
  target : Nat
  start : Nat
  width : Nat
  multiplier : Nat
  divisor : Nat
  offset : Int
  action : Nat
  constant : Int
  deriving DecidableEq, Repr

/-- The fields of an ingress entry. -/
def ingressOf (e : Entry) : IngressEntry where
  valid := bitAt (byteAt e 0) 0
  kind := field (byteAt e 0) 1 2
  signedField := bitAt (byteAt e 0) 3
  fromField := bitAt (byteAt e 0) 4
  ident := leAt e 1 4
  mask := leAt e 5 4
  target := byteAt e 9
  start := byteAt e 10
  width := byteAt e 11
  multiplier := leAt e 12 2
  divisor := leAt e 14 2
  offset := leSAt e 16 4
  action := byteAt e 20
  constant := leSAt e 21 4

/-- Whether the entry's kind stores a signal. -/
def IngressEntry.stores (e : IngressEntry) : Bool := e.kind != 1

/-- Whether the entry's kind starts an action. -/
def IngressEntry.acts (e : IngressEntry) : Bool := e.kind == 1 || e.kind == 2

/-- Whether the entry reads a field: all but an ACTION entry with a CONSTANT argument (R5, R9). -/
def IngressEntry.reads (e : IngressEntry) : Bool := e.stores || e.fromField

/-- One item of an egress entry (section 1.5); width 0 marks an unused item. -/
structure EgressItem where
  source : Nat
  selector : Nat
  position : Nat
  width : Nat
  saturate : Bool
  deriving DecidableEq, Repr

/-- Bytes of a width code: unused 0, 1, 2, 4 (section 13.3). -/
def widthOf : Nat → Nat
  | 0 => 0
  | 1 => 1
  | 2 => 2
  | _ => 4

/-- The item at byte `k` of an egress entry. -/
def egressItemOf (e : Entry) (k : Nat) : EgressItem where
  source := byteAt e k
  selector := byteAt e (k + 1)
  position := field (byteAt e (k + 2)) 0 3
  width := widthOf (field (byteAt e (k + 2)) 3 2)
  saturate := bitAt (byteAt e (k + 2)) 5

/-- An egress entry (section 1.5); only the items in use are listed. -/
structure EgressEntry where
  valid : Bool
  ident : Nat
  period : Nat
  items : List EgressItem
  deriving DecidableEq, Repr

/-- The fields of an egress entry. -/
def egressOf (e : Entry) : EgressEntry where
  valid := bitAt (byteAt e 0) 0
  ident := leAt e 1 4
  period := leAt e 5 2
  items := ([egressItemOf e 7, egressItemOf e 10, egressItemOf e 13, egressItemOf e 16]).filter (·.width != 0)

/-- Egress entry `i` of the table. -/
def State.egressEntry (s : State) (i : Nat) : EgressEntry := egressOf (s.tables.entry 2 i)

/-- A signal definition (R12). -/
structure SignalDef where
  lo : Int
  hi : Int
  limit : Nat
  deriving DecidableEq, Repr

/-- The fields of a signal definition. -/
def signalDefOf (e : Entry) : SignalDef where
  lo := leSAt e 0 4
  hi := leSAt e 4 4
  limit := leAt e 8 2

/-- The definition of signal `n`. -/
def State.signalDef (s : State) (n : Nat) : SignalDef := signalDefOf (s.tables.entry 3 n)

/-! ### Table 4: the node map -/

/-- The node kinds of section 2.5, coded NONE 0 to OUTLET 6. -/
inductive NodeKind where
  | none | battery | heater | fridge | light | panel | outlet
  deriving DecidableEq, Repr

/-- The kind a code stands for; NONE for a code no entry can hold. -/
def nodeKindOf : Nat → NodeKind
  | 1 => .battery
  | 2 => .heater
  | 3 => .fridge
  | 4 => .light
  | 5 => .panel
  | 6 => .outlet
  | _ => .none

/-- The code of a kind. -/
def NodeKind.code : NodeKind → Nat
  | .none => 0
  | .battery => 1
  | .heater => 2
  | .fridge => 3
  | .light => 4
  | .panel => 5
  | .outlet => 6

/-- The kind mapped at position `p`. -/
def State.kindAt (s : State) (p : Nat) : NodeKind := nodeKindOf (byteAt (s.tables.entry 4 p) 0)

/-- The first channel of the LIGHT node mapped at position `p`. -/
def State.firstChannelAt (s : State) (p : Nat) : Nat := byteAt (s.tables.entry 4 p) 1

/-- The twelve positions. -/
def positions : List Nat := List.range 12

/-- The positions a kind is mapped at, lowest first. -/
def State.positionsOf (s : State) (k : NodeKind) : List Nat := positions.filter fun p => s.kindAt p = k

/-- The position of panel `n`: of the positions mapped PANEL, the lower is panel 0 (section 2.5). -/
def State.panelPos (s : State) (n : Nat) : Option Nat := (s.positionsOf .panel)[n]?

/-- The number of the panel at position `p`. -/
def State.panelNumber (s : State) (p : Nat) : Nat := (s.positionsOf .panel).idxOf p

/-- The outlet module number at position `p`. -/
def State.moduleNumber (s : State) (p : Nat) : Nat := (s.positionsOf .outlet).idxOf p

/-- The record of the one position of a kind, if the kind is mapped. -/
def State.nodeOf (s : State) (k : NodeKind) : Option NodeRec := ((s.positionsOf k)[0]?).map s.node

/-- The LIGHT position that drives channel `c`, if any. -/
def State.lightPosOf (s : State) (c : Nat) : Option Nat :=
  (s.positionsOf .light).find? fun p => s.firstChannelAt p == c || s.firstChannelAt p + 1 == c

/-! ### Table 5: the roster -/

/-- The configuration part of a roster entry (section 4.1). -/
structure RosterCfg where
  valid : Bool
  kind : LoadKind
  binding : Nat
  work : Working
  deriving DecidableEq, Repr

/-- The kind a code stands for (section 4.1). -/
def loadKindOf : Nat → LoadKind
  | 0 => .heater
  | 1 => .fridge
  | 2 => .lights
  | _ => .outlet

/-- The fields of a roster entry. The binding of a HEATER or FRIDGE entry is that of its kind; an OUTLET's is its output number
2m + o, which is what output bit 0 and module bit 1 make. -/
def rosterCfgOf (e : Entry) : RosterCfg where
  valid := bitAt (byteAt e 0) 0
  kind := loadKindOf (field (byteAt e 0) 1 2)
  binding :=
    match loadKindOf (field (byteAt e 0) 1 2) with
    | .lights => byteAt e 1
    | .outlet => field (byteAt e 1) 0 2
    | _ => 0
  work :=
    { priority := byteAt e 2, run := leAt e 3 2, surge := leAt e 5 2, limit := byteAt e 7,
      sheddable := bitAt (byteAt e 0) 3 }

/-- The configuration of roster entry `i`. -/
def State.cfg (s : State) (i : Nat) : RosterCfg := rosterCfgOf (s.tables.entry 5 i)

/-- The sixteen entry indexes. -/
def entries : List Nat := List.range 16

/-- The valid entries, in index order. -/
def State.validEntries (s : State) : List Nat := entries.filter fun i => (s.cfg i).valid

/-- The first valid entry of a kind. -/
def State.entryOfKind (s : State) (k : LoadKind) : Option Nat := s.validEntries.find? fun i => (s.cfg i).kind = k

/-- The valid LIGHTS entries. -/
def State.lightEntries (s : State) : List Nat := s.validEntries.filter fun i => (s.cfg i).kind = .lights

/-- The valid OUTLET entry bound to output `o`. -/
def State.outletEntry (s : State) (o : Nat) : Option Nat :=
  s.validEntries.find? fun i => (s.cfg i).kind = .outlet && (s.cfg i).binding == o

/-- The valid LIGHTS entry whose set includes channel `c`. -/
def State.lightEntryOf (s : State) (c : Nat) : Option Nat :=
  s.lightEntries.find? fun i => bitAt (s.cfg i).binding c

/-! ### Tables 6 to 12 -/

/-- A tint: warm, cool, red (section 8.2). -/
def State.tint (s : State) (i : Nat) : Nat × Nat × Nat :=
  (byteAt (s.tables.entry 6 i) 0, byteAt (s.tables.entry 6 i) 1, byteAt (s.tables.entry 6 i) 2)

/-- A scene entry (R145). -/
structure SceneEntry where
  include_ : Bool
  tint : Nat
  level : Nat
  fade : Nat
  deriving DecidableEq, Repr

/-- The fields of a scene entry. -/
def sceneOf (e : Entry) : SceneEntry where
  include_ := bitAt (byteAt e 0) 0
  tint := field (byteAt e 0) 4 4
  level := byteAt e 1
  fade := leAt e 2 2

/-- The entry for scene `n` and channel `c` (R145). -/
def State.scene (s : State) (n c : Nat) : SceneEntry := sceneOf (s.tables.entry 7 (8 * n + c))

/-- The panel key entry for panel `p`, key `k`, press kind `x`: its action code and constant (R49). -/
def State.keyAction (s : State) (i : Nat) : Nat × Int :=
  (byteAt (s.tables.entry 8 i) 0, leSAt (s.tables.entry 8 i) 1 4)

/-- A rest profile (R163). -/
structure Profile where
  required : Nat
  leads : List Nat
  breaks : List Nat
  sunriseLead : Nat
  preheat : Bool
  wakeAtComplete : Bool
  channels : Nat
  tintA : Nat
  tintB : Nat
  levelA : Nat
  levelB : Nat
  onCycles : Nat
  offCycles : Nat
  chimes : List Nat
  deriving DecidableEq, Repr

/-- The fields of a rest profile. -/
def profileOf (e : Entry) : Profile where
  required := leAt e 0 2
  leads := [leAt e 2 2, leAt e 4 2, leAt e 6 2]
  breaks := [leAt e 8 2, leAt e 10 2]
  sunriseLead := field (byteAt e 12) 0 6
  preheat := bitAt (byteAt e 12) 6
  wakeAtComplete := bitAt (byteAt e 12) 7
  channels := byteAt e 13
  tintA := field (byteAt e 14) 0 4
  tintB := field (byteAt e 14) 4 4
  levelA := byteAt e 15
  levelB := byteAt e 16
  onCycles := field (byteAt e 17) 0 4
  offCycles := field (byteAt e 17) 4 4
  chimes := (List.range 5).map fun k => field (leAt e 18 2) (3 * k) 3

/-- The active profile (R164). -/
def State.profile (s : State) : Profile := profileOf (s.tables.entry 9 s.ret.profile)

/-- A derate percentage (R89). -/
def State.derate (s : State) (i : Nat) : Nat := byteAt (s.tables.entry 10 i) 0

/-- A rest-voltage point: voltage and percentage (R104). -/
def State.restPoint (s : State) (i : Nat) : Nat × Nat :=
  (leAt (s.tables.entry 11 i) 0 2, byteAt (s.tables.entry 11 i) 2)

/-- A preheat lead: threshold and lead (R175). -/
def State.preheatLead (s : State) (i : Nat) : Int × Nat :=
  (leSAt (s.tables.entry 12 i) 0 2, byteAt (s.tables.entry 12 i) 2)

/-! ### Setup requests -/

/-- The request code of a setup frame (section 13.1). -/
def requestCode (d : List Byte) : Nat := byteAt d 0

/-- The tag of a setup frame. -/
def requestTag (d : List Byte) : Nat := byteAt d 1

/-- The shortest data length of each request (section 13.1); none for a code the part does not know. -/
def shortestLength : Nat → Option Nat
  | 0x01 => some 2
  | 0x02 => some 5
  | 0x03 => some 8
  | 0x04 => some 3
  | 0x05 => some 2
  | 0x06 => some 2
  | 0x07 => some 2
  | 0x08 => some 4
  | 0x09 => some 7
  | 0x0A => some 2
  | 0x0B => some 2
  | 0x0C => some 5
  | _ => none

end Sys2Proof.Machine
end

