-- ==== Sys2Proof/Machine/Bus.lean ====
section
/-! DEFINITION. Machine/Bus.lean: the receive queue, the transmit queue and the interface's counts (R2, R3, R19, R20). -/

namespace Sys2Proof.Machine

/-- The six counts changed. -/
def State.modCounts (s : State) (f : BusCounts → BusCounts) : State := s.modBus fun b => { b with counts := f b.counts }

/-! ### Receiving -/

/-- A frame offered to the receive queue: it joins the tail, or it is discarded as overrun when all 16 places are taken (R3). -/
def offerReceived (f : RxFrame) (s : State) : State :=
  if s.bus.rxQueue.length < 16 then s.modBus fun b => { b with rxQueue := b.rxQueue ++ [f] }
  else s.modCounts fun c => { c with overrun := sat16 c.overrun }

/-- The head of the receive queue leaves (R4). -/
def dropReceived (s : State) : State := s.modBus fun b => { b with rxQueue := b.rxQueue.tail }

/-- Whether a frame belongs to the setup channel, whatever its data length (R4). -/
def State.isSetupFrame (s : State) (f : RxFrame) : Bool := f.ident.toNat == s.requestIdent

/-! ### The transmit queue -/

/-- Frames in the transmit queue, both classes together (section 1.6). -/
def Bus.queued (b : Bus) : Nat := b.prioQueue.length + b.egressQueue.length

/-- The class of the head frame: the oldest priority frame if there is one, else the oldest egress frame (R20). -/
def Bus.headClass (b : Bus) : Option TxClass :=
  if !b.prioQueue.isEmpty then some .priority
  else if !b.egressQueue.isEmpty then some .egress
  else none

/-- An interface that is transmitting nothing and is not bus-off takes up the head frame (assumption 9). -/
def Bus.takeUp (b : Bus) : Bus :=
  if b.sending.isNone && !b.busOff then { b with sending := b.headClass } else b

/-- One egress frame counted as dropped (R19). -/
def Bus.countDropped (b : Bus) (n : Nat) : Bus :=
  { b with counts := { b.counts with dropped := min 65535 (b.counts.dropped + n) } }

/-- Whether some egress frame in the queue is not being transmitted (R19). -/
def Bus.removable (b : Bus) : Bool :=
  if b.sending = some .egress then decide (2 ≤ b.egressQueue.length) else !b.egressQueue.isEmpty

/-- The oldest egress frame that is not being transmitted removed. -/
def Bus.removeOldest (b : Bus) : Bus :=
  if b.sending = some .egress then
    { b with egressQueue := (b.egressQueue.take 1) ++ b.egressQueue.drop 2 }
  else { b with egressQueue := b.egressQueue.drop 1 }

/-- Whether a priority frame offered now is placed (R19). -/
def Bus.takesPriority (b : Bus) : Bool := decide (b.queued < 8) || b.removable

/-- A priority frame placed: at the tail of its class, an egress frame giving way where the queue is full (R19). -/
def Bus.placePriority (b : Bus) (f : TxFrame) : Bus :=
  if b.queued < 8 then ({ b with prioQueue := b.prioQueue ++ [f] } : Bus).takeUp
  else if b.removable then
    let b' := b.removeOldest.countDropped 1
    ({ b' with prioQueue := b'.prioQueue ++ [f] } : Bus).takeUp
  else b

/-- Whether an egress frame offered now is taken: not in bus-off, and not into a full queue (R19, R20). -/
def Bus.takesEgress (b : Bus) : Bool := !b.busOff && decide (b.queued < 8)

/-- An egress frame offered: it joins the tail of its class, or it is refused and counted (R19, R20). -/
def Bus.offerEgress (b : Bus) (f : TxFrame) : Bus :=
  if b.takesEgress then ({ b with egressQueue := b.egressQueue ++ [f] } : Bus).takeUp
  else b.countDropped 1

/-- The head frame sent successfully and removed (R20); the transmit error count falls by 1, as CAN has it (assumption 8). -/
def Bus.sent (b : Bus) : Bus :=
  match b.sending with
  | some .priority =>
    ({ b with prioQueue := b.prioQueue.tail, sending := none, txErrors := b.txErrors - 1 } : Bus).takeUp
  | some .egress =>
    ({ b with egressQueue := b.egressQueue.tail, sending := none, txErrors := b.txErrors - 1 } : Bus).takeUp
  | none => b

/-- The frame being transmitted. -/
def Bus.current (b : Bus) : Option TxFrame :=
  match b.sending with
  | some .priority => b.prioQueue.head?
  | some .egress => b.egressQueue.head?
  | none => none

/-- The head frame lost arbitration or met a bus error: the head is sent again (R20); a bus error raises the transmit error
count by 8, as CAN has it (assumption 8). -/
def Bus.sendFailed (b : Bus) (busError : Bool) : Bus :=
  if b.sending.isSome then
    { b with sending := b.headClass, txErrors := b.txErrors + (if busError then 8 else 0) }
  else b

/-- Going bus-off (R20): every egress frame abandoned and counted, every priority frame kept. -/
def Bus.goOff (b : Bus) : Bus :=
  let b' := b.countDropped b.egressQueue.length
  { b' with
    egressQueue := [], sending := none, busOff := true, txErrors := max 256 b.txErrors,
    counts := { b'.counts with busOff := sat16 b'.counts.busOff } }

/-- Rejoining the bus one second later (R20). -/
def Bus.rejoin (b : Bus) : Bus := ({ b with busOff := false, txErrors := 0, rxErrors := 0 } : Bus).takeUp

/-- Both queues emptied on entry to STANDBY (R3, R19, R200). -/
def Bus.sleep (b : Bus) : Bus := { b with rxQueue := [], prioQueue := [], egressQueue := [], sending := none }

/-! ### The setup channel's response -/

/-- A setup response offered to the transmit queue; it waits with the setup channel where it cannot join (R19). -/
def offerResponse (f : TxFrame) (s : State) : State :=
  if s.bus.takesPriority then s.modBus (·.placePriority f)
  else s.modSetup fun x => { x with waiting := some f }

end Sys2Proof.Machine
end

