-- ==== Sys2Proof/Machine/Flags.lean ====
section
/-! DEFINITION. Machine/Flags.lean: the notice flags, their details and the notice frames (R196 to R198, section 13.1). -/

namespace Sys2Proof.Machine

/-- The notice classes of R196, by number, which is the priority order. -/
inductive NoticeClass where
  | emergency | heaterLockout | loopFailed | voltageLow | heaterFault | fridgeProtect | budgetExceeded | loadShed
  | restState | restDataStale | unacknowledged | loopRealigned | nodePresence | loopDegraded | saveDone | nvFault
  deriving DecidableEq, Repr

/-- The class number (R196). -/
def NoticeClass.number : NoticeClass → Nat
  | .emergency => 0
  | .heaterLockout => 1
  | .loopFailed => 2
  | .voltageLow => 3
  | .heaterFault => 4
  | .fridgeProtect => 5
  | .budgetExceeded => 6
  | .loadShed => 7
  | .restState => 8
  | .restDataStale => 9
  | .unacknowledged => 10
  | .loopRealigned => 11
  | .nodePresence => 12
  | .loopDegraded => 13
  | .saveDone => 14
  | .nvFault => 15

/-- The classes that are sendable: set and enabled, in QUIET also in the wake mask, in STANDBY and before reception opens
none (R198). -/
def State.sendable (s : State) : BitVec 16 :=
  if s.phase = .held then 0
  else match s.power.state with
    | .run => s.notices.flags &&& s.enableSet
    | .quiet => s.notices.flags &&& s.enableSet &&& s.wakeMask
    | .standby => 0

/-- The lowest class number set in a set of classes, which is its highest priority. -/
def topClass (m : BitVec 16) : Nat := ((List.range 16).find? fun n => m.getLsbD n).getD 0

/-- The notice frame's identifier: one above the response identifier (R198). -/
def State.noticeIdent (s : State) : Ident := BitVec.ofNat 29 (s.responseIdent + 1)

/-- A notice frame of the present flags and details, with an identifier (R198, section 13.1). -/
def State.noticeFrameAs (s : State) (ident : Ident) : TxFrame where
  ident := ident
  data := le 2 s.notices.flags.toNat ++ [byte (topClass s.sendable), byte 0]
    ++ s.notices.details.getD (topClass s.sendable) (padTo 4 [])
  restart := false

/-- The notice frame of the present flags, details and settings. -/
def State.noticeFrame (s : State) : TxFrame := s.noticeFrameAs s.noticeIdent

/-- A notice frame falls due (R198): it is composed, with an identifier, and offered, the repeat timer starts again, and a frame already
waiting is composed again and keeps its turn (R19). -/
def noticeDueAs (ident : Ident) (s : State) : State :=
  let s := s.modNotices fun n => { n with repeatTimer := some 0 }
  if s.notices.waiting.isNone && s.bus.takesPriority then s.modBus (·.placePriority (s.noticeFrameAs ident))
  else s.modNotices fun n => { n with waiting := some (s.noticeFrameAs ident) }

/-- A notice frame falls due with the identifier in force (R198). -/
def noticeDue (s : State) : State := noticeDueAs s.noticeIdent s

/-- A frame falls due if any flag is sendable: on entry to RUN or QUIET and at the repeat timer's expiry (R198). -/
def noticeDueIfAny (s : State) : State := if s.sendable != 0 then noticeDue s else s

/-- A notice raised by its owner (R196): the flag is set and the detail replaced, in every power state, enabled or not; a flag
that becomes set and is sendable makes a frame fall due (R198). -/
def raise (c : NoticeClass) (detail : List Byte) (s : State) : State :=
  let s' := s.modNotices fun n =>
    { n with flags := n.flags ||| BitVec.ofNat 16 (2 ^ c.number), details := n.details.set c.number (padTo 4 detail) }
  if !s.notices.flags.getLsbD c.number && s'.sendable.getLsbD c.number then noticeDue s' else s'

/-- A waiting frame composed again, with an identifier, or withdrawn when nothing is sendable any more (R198). -/
def recomposeAs (ident : Ident) (s : State) : State :=
  if s.notices.waiting.isSome then
    s.modNotices fun n => { n with waiting := if s.sendable = 0 then none else some (s.noticeFrameAs ident) }
  else s

/-- A waiting frame composed again with the identifier in force (R198). -/
def recomposeWaiting (s : State) : State := recomposeAs s.noticeIdent s

/-- CLR's effect (R194, R196): each flag whose place is set in the mask is cleared, its detail with it. -/
def clearNotices (mask : BitVec 16) (s : State) : State :=
  recomposeWaiting <| s.modNotices fun n =>
    { n with
      flags := n.flags &&& ~~~mask,
      details := (List.range 16).map fun k => if mask.getLsbD k then padTo 4 [] else n.details.getD k (padTo 4 []) }

/-- A waiting setup response, and after it a waiting notice frame, joins when a place is free (R19): one that waits removes nothing.
MODEL'S CHOICE: the notice frame joins as last composed (R198, assumption 58). -/
def admitWaiting (s : State) : State :=
  match s.setup.waiting with
  | some f =>
    if s.bus.queued < 8 then (s.modBus (·.placePriority f)).modSetup fun x => { x with waiting := none } else s
  | none =>
    match s.notices.waiting with
    | some f =>
      if s.bus.queued < 8 then (s.modBus (·.placePriority f)).modNotices fun n => { n with waiting := none } else s
    | none => s

/-- 1 for an edge that asserts or begins, 0 for one that clears or ends (section 13.1). -/
def edgeByte (begun : Bool) : Byte := byte (bit begun)

end Sys2Proof.Machine
end

