-- ==== Sys2Proof/Machine/Roster.lean ====
section
/-! DEFINITION. Machine/Roster.lean: the load roster (chapter 4): requests, releases, stops, the surge slot and its queue, and what the
heater and the fridge do when they are told that they hold the slot. -/

namespace Sys2Proof.Machine

/-! ### What the owners read -/

/-- The heater node's record. -/
def State.heaterNode (s : State) : Option NodeRec := s.nodeOf .heater

/-- The fridge node's record. -/
def State.fridgeNode (s : State) : Option NodeRec := s.nodeOf .fridge

/-- The heater node is PRESENT with its held phase IDLE (R118). -/
def State.heaterIdle (s : State) : Bool :=
  match s.heaterNode with
  | some r => r.presence == .present && r.heldA == some 0
  | none => false

/-- The heater node is ready to start: PRESENT, stale mark clear, held phase IDLE (R107). -/
def State.heaterReady (s : State) : Bool :=
  match s.heaterNode with
  | some r => r.presence == .present && !r.stale && r.heldA == some 0
  | none => false

/-- The heater node is PRESENT. -/
def State.heaterPresent (s : State) : Bool :=
  match s.heaterNode with
  | some r => r.presence == .present
  | none => false

/-- The fridge node is ready to start: PRESENT, stale mark clear, held compressor state STOPPED (R129). -/
def State.fridgeReady (s : State) : Bool :=
  match s.fridgeNode with
  | some r => r.presence == .present && !r.stale && r.heldA == some 0
  | none => false

/-- The cabinet reading: the record's held temperature, stale or not; none if never received (R129). -/
def State.cabinet (s : State) : Option Int :=
  match s.fridgeNode with
  | some r => match r.measures with
    | .fridge c => some c
    | _ => none
  | none => none

/-- Where the cab reading comes from: none 0, panel 0 1, CAB_TEMP_EXT 2 (R111, section 13.4). -/
def State.cabSource (s : State) : Nat :=
  match (s.panelPos 0).map s.node with
  | some r => match r.measures with
    | .panel _ _ => if !r.stale then 1 else if (s.signal 7).quality = .fresh then 2 else 0
    | _ => if (s.signal 7).quality = .fresh then 2 else 0
  | none => if (s.signal 7).quality = .fresh then 2 else 0

/-- The cab reading (R111). -/
def State.cabReading (s : State) : Option Int :=
  match s.cabSource with
  | 1 => match (s.panelPos 0).map (fun p => (s.node p).measures) with
    | some (.panel _ t) => some t
    | _ => none
  | 2 => some (s.signal 7).value
  | _ => none

/-- The outdoor reading as its inputs stand: OUTSIDE_TEMP if FRESH, else the heater node's intake air (R112). -/
def State.outdoorNow (s : State) : Option Int :=
  match s.freshSignal 4 with
  | some v => some v
  | none => match s.heaterNode with
    | some r => if r.stale then none else match r.measures with
      | .heater t _ => some t
      | _ => none
    | none => none

/-- MANUAL is present (R115). -/
def HeatMode.isManual : HeatMode → Bool
  | .manual _ => true
  | _ => false

/-- Demand as its sources stand (R115). -/
def State.demandNow (s : State) : Bool := s.heater.thermo || s.heater.preheat || s.heater.mode.isManual

/-- The level an error of temperature asks for (R116). -/
def levelOfError (e : Int) : Nat :=
  if 30 ≤ e then 4 else if 20 ≤ e then 3 else if 10 ≤ e then 2 else 1

/-- The temperature the heater aims at: the set point for THERMO, the comfort set point for PREHEAT, the greater for both
(R116). -/
def State.heatTarget (s : State) : Int :=
  if s.heater.thermo && s.heater.preheat then max s.heater.setPoint s.climate.comfort
  else if s.heater.preheat then s.climate.comfort else s.heater.setPoint

/-- The level the controller chooses from its demand, none without demand (R116). -/
def State.chosenLevel (s : State) : Option Nat :=
  match s.heater.mode with
  | .manual l => some l
  | _ =>
    if s.heater.thermo || s.heater.preheat then
      match s.cabReading with
      | some r => some (levelOfError (s.heatTarget - r))
      | none => if s.heater.preheat then some 2 else none
    else none

/-- RUN is commanded in STARTING and RUNNING only (R108). -/
def State.heaterRun (s : State) : Bool := s.heater.state == .starting || s.heater.state == .running

/-- The surge need of an entry (R72, R117, section 7.3): the heater's in REQUESTING, STARTING and RETRY_WAIT with demand, the fridge's
in WANT and HELD. -/
def State.surgeNeed (s : State) (i : Nat) : Bool :=
  match (s.cfg i).kind with
  | .heater => s.heater.demand &&
      (s.heater.state == .requesting || s.heater.state == .starting || s.heater.state == .retryWait)
  | .fridge => s.fridge.state == .want || s.fridge.state == .held
  | _ => false

/-- The protect request of an entry: the fridge's, none of the others makes one (R69, R139). MODEL'S CHOICE: it is the fridge controller's
as it stands, also for an entry that a commit makes valid (R60, assumption 53). -/
def State.protectRequest (s : State) (i : Nat) : Bool := (s.cfg i).kind == .fridge && s.fridge.protectRequest

/-- The duty estimate of an entry; a FRIDGE entry's stands in the retention area (R60, R70, R71). -/
def State.duty (s : State) (i : Nat) : Nat := if (s.cfg i).kind = .fridge then s.ret.fridgeDuty else (s.live i).duty

/-- The grant state of the valid entry of a kind; none without one. -/
def State.grantOfKind (s : State) (k : LoadKind) : Option Grant := (s.entryOfKind k).map fun i => (s.live i).grant

/-- A duty estimate given by its owner to an entry. -/
def setDuty (i d : Nat) (s : State) : State := s.modLive i fun l => { l with duty := d }

/-- A function of a kind's valid entry, if there is one; without one an owner's reports reach nothing (R59). -/
def onEntry (k : LoadKind) (f : Nat → State → State) (s : State) : State :=
  match s.entryOfKind k with
  | some i => f i s
  | none => s

/-- The heater's duty estimate brought up to date (R117): 64 × the commanded level in STARTING and RUNNING, else 64 × the level
chosen now while there is demand. -/
def heaterDuty (s : State) : State :=
  let level := if s.heaterRun then some s.heater.level else if s.heater.demand then s.chosenLevel else none
  match level with
  | some l => onEntry .heater (fun i => setDuty i (64 * l)) s
  | none => s

/-! ### The surge slot -/

/-- Whether an entry holds the slot. -/
def State.holds (s : State) (i : Nat) : Bool := s.roster.holder.any fun h => h.entry == i

/-- Whether an entry is in the queue. -/
def State.queued (s : State) (i : Nat) : Bool := s.roster.queue.any fun p => p.entry == i

/-- Whether place `a` comes before place `b`: priority in force, highest first, then the order of asking (R73). -/
def State.placeBefore (s : State) (a b : Place) : Bool :=
  decide ((s.live b.entry).work.priority < (s.live a.entry).work.priority)
    || (decide ((s.live a.entry).work.priority = (s.live b.entry).work.priority) && decide (a.asked < b.asked))

/-- A place put into a queue at its rank. -/
def State.insertPlace (s : State) (x : Place) : List Place → List Place
  | [] => [x]
  | y :: ys => if s.placeBefore x y then x :: y :: ys else y :: s.insertPlace x ys

/-- The queue put in order again (R77). -/
def reorderQueue (s : State) : State :=
  s.modRoster fun r => { r with queue := r.queue.foldr s.insertPlace [] }

/-- The heater controller, told that it holds the slot in REQUESTING, commands RUN and enters STARTING: the chosen level
commanded, the ignition timer and the level hold started, start-seen clear (R116, R118). -/
def enterStarting (s : State) : State :=
  heaterDuty <| s.modHeater fun h =>
    { h with
      state := .starting, level := s.chosenLevel.getD h.level, levelHold := some 0, ignition := some 0,
      startSeen := false }

/-- The fridge controller enters COOLING: compressor on, minimum-on and surge hold timers started (R135). -/
def enterCooling (s : State) : State :=
  s.modFridge fun f => { f with state := .cooling, minOn := some 0, surgeHold := some 0 }

/-- The slot given back (R74, R76): the head of the queue becomes the holder, with the surge limit of its working copy (R75), and its
owner is told; an owner that cannot use it withdraws at once, which passes the slot on (R118, R134). -/
def handOver : Nat → State → State
  | 0, s => s.modRoster fun r => { r with holder := none }
  | n + 1, s =>
    match s.roster.queue with
    | [] => s.modRoster fun r => { r with holder := none }
    | p :: rest =>
      let s := s.modRoster fun r =>
        { r with holder := some { entry := p.entry, limit := (s.live p.entry).work.limit, elapsed := 0 }, queue := rest }
      match (s.cfg p.entry).kind with
      | .heater => if s.heater.state = .requesting then enterStarting s else handOver n s
      | .fridge =>
        if (s.fridge.state = .held ∨ s.fridge.state = .want) ∧ s.fridgeReady then enterCooling s else handOver n s
      | _ => handOver n s

/-- Surge done from an owner: nothing unless its entry is the holder (R74). -/
def surgeDone (i : Nat) (s : State) : State :=
  if s.holds i then handOver (s.roster.queue.length + 1) s else s

/-- An entry gives up its surge place: a holder gives the slot back, a queued entry leaves the queue (R76). -/
def giveUpPlace (i : Nat) (s : State) : State :=
  if s.holds i then handOver (s.roster.queue.length + 1) s
  else s.modRoster fun r => { r with queue := r.queue.filter fun p => p.entry != i }

/-- An ask (R73): taken only for an entry in ON that has no surge place; a free slot is given at once. -/
def askSlot (i : Nat) (s : State) : State :=
  if (s.live i).grant ≠ .on ∨ s.holds i ∨ s.queued i then s
  else
    let s' := s.modRoster fun r =>
      { r with queue := s.insertPlace { entry := i, asked := r.asks } r.queue, asks := r.asks + 1 }
    if s.roster.holder.isNone then handOver (s'.roster.queue.length + 1) s' else s'

/-! ### Requests, releases and stops -/

/-- An owner's request (R61). -/
def request (i : Nat) (s : State) : State :=
  s.modLive i fun l =>
    { l with
      want := true,
      grant := match l.grant with
        | .idle => .waiting
        | .stopping => .on
        | g => g }

/-- An owner's release, with a stop to come or at rest (R62); an entry leaving ON gives up its surge place (R76). -/
def release (withStop : Bool) (i : Nat) (s : State) : State :=
  let wasOn := (s.live i).grant = .on
  let s' := s.modLive i fun l =>
    let g := match l.grant, withStop with
      | .on, true => Grant.stopping
      | .stopping, true => .stopping
      | .shedding, true => .shedding
      | _, _ => .idle
    { l with want := false, grant := g, reason := if g = .idle then .none else l.reason }
  if wasOn then giveUpPlace i s' else s'

/-- A stop complete from the owner (R63). -/
def stopComplete (i : Nat) (s : State) : State :=
  s.modLive i fun l =>
    match l.grant with
    | .stopping => { l with grant := .idle }
    | .shedding => if l.want then { l with grant := .shed } else { l with grant := .idle, reason := .none }
    | _ => l

/-- The live part of an entry set up afresh, with a working copy from the table (R60). -/
def setUpEntry (i : Nat) (s : State) : State := s.modLive i fun _ => Live.init (s.cfg i).work

end Sys2Proof.Machine
end

