-- ==== Sys2Proof/Machine/Heater.lean ====
section
/-! DEFINITION. Machine/Heater.lean: the heater controller (chapter 6), but for what reaches it through the rest clock. -/

namespace Sys2Proof.Machine

/-- A hysteresis mark: present at or below `t` − 10, absent at or above `t` + 5, as it was between (R113, R114). -/
def hysteresis (t reading : Int) (was : Bool) : Bool :=
  if reading ≤ t - 10 then true else if t + 5 ≤ reading then false else was

/-- The THERMO and PREHEAT marks as their inputs stand (R113, R114): THERMO only in AUTO with a cab reading; PREHEAT only while the
window is open, and present while there is no cab reading. -/
def heaterMarks (s : State) : State :=
  s.modHeater fun h =>
    { h with
      thermo := match h.mode, s.cabReading with
        | .auto, some r => hysteresis h.setPoint r h.thermo
        | _, _ => false
      preheat := match h.window, s.cabReading with
        | some _, some r => hysteresis s.climate.comfort r h.preheat
        | some _, none => true
        | none, _ => false }

/-- The controller goes to a state in which STOP is commanded: ignition timer and level hold stop (R116). -/
def leaveRun (st : HeaterState) (h : Heater) : Heater := { h with state := st, ignition := none, levelHold := none }

/-- STOP commanded from STARTING or RUNNING with the purge timer started (R119, R121, R123, R125). -/
def commandStop (st : HeaterState) (s : State) : State :=
  s.modHeater fun h => { leaveRun st h with purge := some 0 }

/-- In REQUESTING the controller asks for the slot each time its entry is ON, the node is ready and it neither holds nor is queued
(R118). -/
def heaterAsk (s : State) : State :=
  if s.heater.state = .requesting ∧ s.heaterReady then onEntry .heater askSlot s else s

/-- In OFF, with demand and the node PRESENT in IDLE, the controller requests its entry and enters REQUESTING (R118).
MODEL'S CHOICE: it does so as well where there is no valid HEATER entry that the request could reach (R59, assumption 68). -/
def heaterStart (s : State) : State :=
  if s.heater.state = .off ∧ s.heater.demand ∧ s.heaterIdle then
    (onEntry .heater request s).modHeater fun h => { h with state := .requesting }
  else s

/-- The end of STOPPING, by the entry and the demand as they stand (R122). A release at rest ends SHEDDING with want no as a stop complete
would (R62, R63). MODEL'S CHOICE: so does it where want is yes and demand absent, which R122 does not list (assumption 47). -/
def endStopping (s : State) : State :=
  let s := s.modHeater fun h => { h with purge := none }
  let toState (st : HeaterState) (t : State) : State := t.modHeater fun h => { h with state := st }
  match s.grantOfKind .heater, s.heater.demand with
  | some .stopping, true => toState .requesting (onEntry .heater request s)
  | some .stopping, false => toState .off (onEntry .heater stopComplete s)
  | some .shedding, true =>
    let s' := onEntry .heater stopComplete s
    match s'.grantOfKind .heater with
    | some .shed => toState .requesting s'
    | _ => toState .requesting (onEntry .heater request s')
  | some .shedding, false => toState .off (onEntry .heater (release false) s)
  | _, _ => toState .off s

/-- The end of RETRY_WAIT at IDLE (R120). -/
def endRetry (s : State) : State :=
  let s := s.modHeater fun h => { h with purge := none }
  if s.heater.demand then s.modHeater fun h => { h with state := .requesting }
  else (onEntry .heater (release false) s).modHeater fun h => { h with state := .off }

/-- The end of the purge outstanding in LOCKOUT (R126). -/
def endLockoutPurge (s : State) : State :=
  (onEntry .heater stopComplete s).modHeater fun h => { h with purge := none, purgeOutstanding := false }

/-- A PRESENT node whose held phase is IDLE ends whichever stop the controller waits for (R120, R122, R126). -/
def heaterAtIdle (s : State) : State :=
  if s.heaterIdle then
    match s.heater.state with
    | .stopping => endStopping s
    | .retryWait => endRetry s
    | .lockout => if s.heater.purgeOutstanding then endLockoutPurge s else s
    | _ => s
  else s

/-- The tests the controller makes again whenever demand, presence, readiness or the held phase may have changed: a stop that has
ended, a start from OFF, an ask in REQUESTING. -/
def heaterTests (s : State) : State := heaterAsk (heaterStart (heaterAtIdle s))

/-- Demand ends (R115), as the state directs: R118 in REQUESTING, R121 in STARTING and RUNNING, R122 in STOPPING. -/
def demandEnds (s : State) : State :=
  match s.heater.state with
  | .requesting => (onEntry .heater (release false) s).modHeater fun h => { h with state := .off }
  | .starting => onEntry .heater (release true) (commandStop .stopping s)
  | .running => onEntry .heater (release true) (commandStop .stopping s)
  | .stopping => onEntry .heater (fun i t => if (t.live i).want then release true i t else t) s
  | _ => s

/-- In STARTING and RUNNING with no hold running, a chosen level that differs is commanded at once and starts a hold (R116). -/
def takeLevel (s : State) : State :=
  match s.chosenLevel with
  | some l =>
    if s.heaterRun ∧ s.heater.levelHold = none ∧ l ≠ s.heater.level then
      s.modHeater fun h => { h with level := l, levelHold := some 0 }
    else s
  | none => s

/-- Demand worked out again after any change in its inputs, and acted on (R115), with the level (R116), the duty estimate (R117) and the
tests that follow. -/
def heaterRefresh (s : State) : State :=
  let s := heaterMarks s
  let ended := s.heater.demand && !s.demandNow
  let s := s.modHeater fun h => { h with demand := s.demandNow }
  let s := if ended then demandEnds s else s
  heaterDuty (heaterTests (takeLevel s))

/-- A start or a run fails (R119). `nodeFault` says that the cause was a held phase of FAULT. -/
def heaterFails (nodeFault : Bool) (s : State) : State :=
  let starting := s.heater.state = .starting
  let count := min 3 (s.ret.failedStarts + 1)
  let code := match s.heaterNode with
    | some r => leOpt 1 r.heldB
    | none => allOnes 1
  let s := (commandStop .retryWait s).modRet fun r => { r with failedStarts := count }
  let s := if starting then onEntry .heater surgeDone s else s
  let s := if nodeFault then raise .heaterFault (byte 0 :: code ++ [byte count]) s else s
  if count = 3 then
    let s := raise .heaterLockout (byte count :: code ++ [byte 0]) (onEntry .heater (release true) s)
    (s.modHeater fun h => { h with state := .lockout, purgeOutstanding := true }).modRet fun r => { r with lockout := true }
  else s

/-- FLAME ends the start well (R119). -/
def startSucceeds (s : State) : State :=
  let s := s.modHeater fun h => { h with ignitionTime := h.ignition }
  let s := (onEntry .heater surgeDone s).modRet fun r => { r with failedStarts := 0 }
  s.modHeater fun h => { h with state := .running, ignition := none }

/-- A change of the held phase, handled as an edge in STARTING and RUNNING (R119); in the other states the tests of the refresh act on
the phase as it stands. -/
def heaterPhase (s : State) : State :=
  let phase := match s.heaterNode with
    | some r => r.heldA
    | none => none
  let s := match s.heater.state, phase with
    | .starting, some 1 => s.modHeater fun h => { h with startSeen := true }
    | .starting, some 2 => s.modHeater fun h => { h with startSeen := true }
    | .starting, some 3 => startSucceeds s
    | .starting, some 4 => heaterFails false s
    | .starting, some 5 => heaterFails true s
    | .starting, some 0 => if s.heater.startSeen then heaterFails false s else s
    | .running, some 3 => s
    | .running, some 5 => heaterFails true s
    | .running, some _ => heaterFails false s
    | _, _ => s
  heaterRefresh s

/-- Told that its entry is granted: with no demand it releases at rest, else it asks when it can (R118). -/
def heaterGranted (s : State) : State :=
  if s.heater.demand then heaterRefresh s
  else
    heaterRefresh <| (onEntry .heater (release false) s).modHeater fun h =>
      if h.state = .requesting then { h with state := .off } else h

/-- Told that its entry has been shed from ON (R123). MODEL'S CHOICE: in OFF, where R123 lists no case, nothing is running, so it reports stop
complete at once, as in REQUESTING; the controller's own steps leave no entry ON in OFF (assumption 47). -/
def heaterShed (s : State) : State :=
  heaterRefresh <| match s.heater.state with
    | .starting => commandStop .stopping s
    | .running => commandStop .stopping s
    | .retryWait => s.modHeater fun h => { h with state := .stopping }
    | .requesting => onEntry .heater stopComplete s
    | .off => onEntry .heater stopComplete s
    | _ => s

/-- The heater node leaves PRESENT (R125). -/
def heaterNodeLeft (s : State) : State :=
  heaterRefresh <| match s.heater.state with
    | .starting => onEntry .heater (release true) (commandStop .stopping s)
    | .running => onEntry .heater (release true) (commandStop .stopping s)
    | .retryWait => (onEntry .heater (release true) s).modHeater fun h => { h with state := .stopping }
    | .requesting => (onEntry .heater (release false) s).modHeater fun h => { h with state := .off }
    | _ => s

/-- The purge timer expires (R124). -/
def purgeExpires (s : State) : State :=
  let code := match s.heaterNode with
    | some r => leOpt 1 r.heldB
    | none => allOnes 1
  let present := s.heaterPresent
  let s := s.modHeater fun h => { h with purge := none }
  let s := if present then raise .heaterFault (byte 1 :: code ++ [byte s.ret.failedStarts]) s else s
  let toState (st : HeaterState) (t : State) : State := t.modHeater fun h => { h with state := st }
  heaterRefresh <| match s.heater.state with
    | .stopping =>
      if present then
        let s := onEntry .heater stopComplete s
        if s.grantOfKind .heater = some .shed then toState .requesting s
        else if s.heater.demand then toState .requesting (onEntry .heater request s)
        else toState .off s
      else toState .off (onEntry .heater (release false) s)
    | .retryWait => toState .off (onEntry .heater (release false) s)
    | .lockout =>
      (if present then onEntry .heater stopComplete s else onEntry .heater (release false) s).modHeater
        fun h => { h with purgeOutstanding := false }
    | _ => s

/-- The level hold runs out (R116): the level chosen now is commanded, with a new hold if it differs. -/
def levelHoldExpires (s : State) : State :=
  let s := s.modHeater fun h => { h with levelHold := none }
  heaterDuty (takeLevel s)

/-- HEAT_RESET (R126): in LOCKOUT the count is cleared and the controller enters STOPPING or OFF; elsewhere nothing. -/
def heatReset (s : State) : State :=
  if s.heater.state = .lockout then
    let s := s.modRet fun r => { r with failedStarts := 0, lockout := false }
    heaterRefresh <| s.modHeater fun h =>
      { h with state := if h.purgeOutstanding then .stopping else .off, purgeOutstanding := false }
  else s

/-- HEAT_SET, its argument already clamped to 50..300 (R109). -/
def heatSet (v : Int) (s : State) : State := heaterRefresh (s.modHeater fun h => { h with setPoint := v })

/-- HEAT_STEP: the sum clamped to 50..300 (R109). -/
def heatStep (d : Int) (s : State) : State := heatSet (clampI 50 300 (s.heater.setPoint + d)) s

/-- The mode an argument 0..5 names (R109). -/
def heatModeOf : Nat → HeatMode
  | 0 => .off
  | 1 => .auto
  | n => .manual (n - 1)

/-- The mode set, without the preheat window: MANUAL starts the run limit again, leaving MANUAL discards it (R109, R110). -/
def setHeatMode (n : Nat) (s : State) : State :=
  s.modHeater fun h =>
    { h with
      mode := heatModeOf n, manualCount := if (heatModeOf n).isManual then some 0 else none, manualDue := false }

/-- The rest clock opens the window, or moves its end minute (R114). -/
def openWindow (endMinute : Nat) (s : State) : State :=
  heaterRefresh (s.modHeater fun h => { h with window := some endMinute, windowDue := false })

/-- The window closes (R114). -/
def closeWindow (s : State) : State :=
  heaterRefresh (s.modHeater fun h => { h with window := none, windowDue := false })

/-- The heater's part of a minute tick, after the clock has risen: the run limit counted (R110), a window whose end minute is reached
found (R114), demand worked out again (R115). -/
def heaterMinute (s : State) : State :=
  heaterRefresh <| s.modHeater fun h =>
    let count := h.manualCount.map (· + 1)
    { h with
      manualCount := count,
      manualDue := count.any fun c => decide (s.climate.runLimit ≤ c),
      windowDue := h.window.any fun e => decide (e ≤ s.ret.clock) }

/-- The run limit is reached: the mode becomes OFF, the window left as it is (R110). -/
def manualExpires (s : State) : State := heaterRefresh (setHeatMode 0 s)

/-- The controller's start-up values (R109, R127). -/
def heaterStartUp (s : State) : State :=
  (setHeatMode s.climate.heatMode s).modHeater fun h =>
    { h with setPoint := s.climate.heatSet, state := if s.ret.lockout then .lockout else .off }

end Sys2Proof.Machine
end

