-- ==== Sys2Proof/Machine/Fridge.lean ====
section
/-! DEFINITION. Machine/Fridge.lean: the fridge controller (chapter 7). -/

namespace Sys2Proof.Machine

/-- The effective set point: the live one, less the store-cold offset while the mode last told is SURPLUS (R131). -/
def State.fridgeEffective (s : State) : Int :=
  if s.fridge.surplus then s.fridge.setPoint - s.climate.offset else s.fridge.setPoint

/-- The compressor is commanded on in COOLING and in no other state (R130). -/
def State.compressor (s : State) : Bool := s.fridge.state == .cooling

/-- The controller is in one of the states between OFF and FAULT. -/
def FridgeState.cycling : FridgeState → Bool
  | .idleCold => true
  | .want => true
  | .held => true
  | .cooling => true
  | _ => false

/-- A state entered with the compressor off: leaving COOLING commands it off, which starts the minimum-off timer and discards the
minimum-on and surge hold timers (R130, R135, R136). -/
def fridgeTo (st : FridgeState) (s : State) : State :=
  s.modFridge fun f =>
    { f with
      state := st, minOff := if f.state = .cooling then some 0 else f.minOff, minOn := none, surgeHold := none }

/-- The protect request cleared or set; a change raises FRIDGE_PROTECT with the edge and the cabinet reading (R139). -/
def setProtect (v : Bool) (s : State) : State :=
  if s.fridge.protectRequest = v then s
  else raise .fridgeProtect (edgeByte v :: leSOpt 2 s.cabinet) (s.modFridge fun f => { f with protectRequest := v })

/-- The checks of R133, made in WANT: an entry in ON, an expired minimum-off timer and a ready node. -/
def State.fridgeMayAsk (s : State) : Bool :=
  s.grantOfKind .fridge == some .on && s.fridge.minOff.isNone && s.fridgeReady

/-- WANT, decided at once: the ask if the checks hold, and HELD unless the slot was given (R133). -/
def fridgeWant (s : State) : State :=
  let s := s.modFridge fun f => { f with state := .want }
  let s := if s.fridgeMayAsk then onEntry .fridge askSlot s else s
  if s.fridge.state = .want then s.modFridge fun f => { f with state := .held } else s

/-- The cut-in test of IDLE_COLD (R133). -/
def fridgeCutIn (s : State) : State :=
  match s.cabinet with
  | some r =>
    if s.fridge.state = .idleCold ∧ s.fridgeEffective + s.climate.hysteresis ≤ r then fridgeWant s else s
  | none => s

/-- The checks of R133 made again in HELD: WANT, with the ask, if they hold and it has not asked (R134). -/
def fridgeChecks (s : State) : State :=
  if s.fridge.state = .held ∧ s.fridgeMayAsk ∧ !(s.entryOfKind .fridge).any s.queued then fridgeWant s else s

/-- HELD ends without a start at a reading at or below the effective set point (R134). -/
def fridgeHeld (s : State) : State :=
  if s.fridge.state = .held ∧ s.cabinet.any (fun r => decide (r ≤ s.fridgeEffective)) then
    onEntry .fridge giveUpPlace (fridgeTo .idleCold s)
  else s

/-- The cut-out test of COOLING, acted on once the minimum-on timer has expired (R135). -/
def fridgeCutOut (s : State) : State :=
  if s.fridge.state = .cooling ∧ s.fridge.minOn = none ∧ s.cabinet.any (fun r => decide (r ≤ s.fridgeEffective)) then
    fridgeTo .idleCold s
  else s

/-- The temperature tests of the state the controller is in (R133, R134, R135). -/
def fridgeTests (s : State) : State :=
  match s.fridge.state with
  | .idleCold => fridgeCutIn s
  | .held => fridgeHeld s
  | .cooling => fridgeCutOut s
  | _ => s

/-- The entry requested and IDLE_COLD entered, with the cut-in test at once (R132, R138). -/
def fridgeBegin (s : State) : State := fridgeTests (fridgeTo .idleCold (onEntry .fridge request s))

/-- What OFF and FAULT share: the compressor off, any ask withdrawn, the entry released at rest if wanted, the protect timer and
request cleared (R132, R138). -/
def fridgeStop (st : FridgeState) (s : State) : State :=
  let s := onEntry .fridge giveUpPlace (fridgeTo st s)
  let s := onEntry .fridge (fun i t => if (t.live i).want then release false i t else t) s
  (setProtect false s).modFridge fun f => { f with protectTimer := none }

/-- FAULT entered with a cause (R138). -/
def fridgeFault (c : FridgeCause) (s : State) : State :=
  (fridgeStop .fault s).modFridge fun f => { f with cause := some c }

/-- The held compressor state is FAULT. -/
def State.fridgeNodeFault (s : State) : Bool := s.fridgeNode.any fun r => r.heldA == some 2

/-- FAULT begins on a held FAULT in any state, and ends with a ready node (R138). -/
def fridgeFaultTests (s : State) : State :=
  if s.fridgeNodeFault then
    if s.fridge.state = .fault then s.modFridge fun f => { f with cause := some .nodeFault }
    else fridgeFault .nodeFault s
  else if s.fridge.state = .fault ∧ s.fridgeReady then
    let s := s.modFridge fun f => { f with cause := none }
    if s.fridge.on then fridgeBegin s else fridgeTo .off s
  else s

/-- Told of a change in the node or the entry that is no new reading and no new figure: FAULT and the checks of HELD, but no temperature
test (R134, R137, R138). -/
def fridgeNews (s : State) : State := fridgeChecks (fridgeFaultTests s)

/-- Told of a reading or a figure: FAULT, the temperature tests, and then the checks of HELD (R131, R133 to R135, R138). MODEL'S CHOICE: where
one message ends HELD by its reading and makes the node ready by clearing the stale mark alone, HELD ends first (assumption 62). -/
def fridgeRefresh (s : State) : State := fridgeChecks (fridgeTests (fridgeFaultTests s))

/-- The protect timer and request, on an accepted message (R139). -/
def fridgeProtectTest (s : State) : State :=
  match s.cabinet with
  | some r =>
    if s.fridge.state.cycling then
      if r ≤ s.fridge.setPoint then setProtect false (s.modFridge fun f => { f with protectTimer := none })
      else if (s.climate.protectLevel : Int) ≤ r then
        s.modFridge fun f => { f with protectTimer := some (f.protectTimer.getD 0) }
      else s.modFridge fun f => { f with protectTimer := none }
    else s
  | none => s

/-- An accepted fridge message (R129, R133 to R135, R138, R139). -/
def fridgeMessage (s : State) : State := fridgeProtectTest (fridgeRefresh s)

/-- The fridge node leaves PRESENT (R138). -/
def fridgeNodeLeft (s : State) : State :=
  fridgeNews (if s.fridge.state.cycling then fridgeFault .nodeLost s else s)

/-- Told that its entry has been shed from ON (R137). -/
def fridgeShed (s : State) : State :=
  let st : FridgeState :=
    if s.fridge.state = .cooling then
      if s.cabinet.any (fun r => decide (s.fridgeEffective < r)) then .held else .idleCold
    else s.fridge.state
  onEntry .fridge stopComplete (if s.fridge.state = .cooling then fridgeTo st s else s)

/-- FRIDGE_MODE (R132). -/
def setFridgeMode (on : Bool) (s : State) : State :=
  if s.fridge.on = on then s
  else
    let s := s.modFridge fun f => { f with on := on }
    if on then (if s.fridge.state = .off then fridgeBegin s else s)
    else if s.fridge.state.cycling then fridgeStop .off s
    else s

/-- FRIDGE_SET, its argument already clamped to −50..100 (R131). -/
def fridgeSet (v : Int) (s : State) : State := fridgeRefresh (s.modFridge fun f => { f with setPoint := v })

/-- Told the mode of a budget tick (R131). -/
def fridgeTick (surplus : Bool) (s : State) : State := fridgeRefresh (s.modFridge fun f => { f with surplus := surplus })

/-- The minimum-on timer expires (R135). -/
def minimumOnExpires (s : State) : State := fridgeTests (s.modFridge fun f => { f with minOn := none })

/-- The minimum-off timer expires: in HELD the checks are made again (R134, R136). -/
def minimumOffExpires (s : State) : State := fridgeChecks (s.modFridge fun f => { f with minOff := none })

/-- The surge hold timer expires: surge done (R135). -/
def surgeHoldExpires (s : State) : State :=
  onEntry .fridge surgeDone (s.modFridge fun f => { f with surgeHold := none })

/-- The protect timer reaches 600 s, at which it stays until a message discards it (R139). -/
def protectExpires (s : State) : State := setProtect true (s.modFridge fun f => { f with protectTimer := some 600 })

/-- The controller's start-up values (R140). -/
def fridgeStartUp (s : State) : State :=
  let on := s.climate.fridgeMode == 1
  let s := s.modFridge fun f => { f with on := on, setPoint := s.climate.fridgeSet, minOff := some 0 }
  if on then fridgeBegin s else s

end Sys2Proof.Machine
end

