-- ==== Sys2Proof/Machine/Lights.lean ====
section
/-! DEFINITION. Machine/Lights.lean: the light engine (chapter 8). -/

namespace Sys2Proof.Machine

/-- The eight channels. -/
def channels : List Nat := List.range 8

/-- The target of a channel: its fade's while one is in flight, else its level (section 8.1). -/
def Channel.target (c : Channel) : Nat :=
  match c.fade with
  | some f => f.target
  | none => c.level

/-- The bunk flag, from the light settings (R143). -/
def State.bunk (s : State) (c : Nat) : Bool := bitAt s.lightSettings.bunkMask c

/-- A fade started on a channel (R146). -/
def Channel.startFade (target n : Nat) (c : Channel) : Channel :=
  if target = c.level then { c with fade := none }
  else { c with fade := some { start := c.level, target := target, n := n, k := 0 } }

/-! ### The roster's side (R158) -/

/-- An entry is wanted when any channel in its set has a level or a target above 0. -/
def State.lightWanted (s : State) (i : Nat) : Bool :=
  channels.any fun c => bitAt (s.cfg i).binding c && (0 < (s.channel c).level || 0 < (s.channel c).target)

/-- The duty estimate of a LIGHTS entry (R70). -/
def State.lightDuty (s : State) (i : Nat) : Nat :=
  (channels.filter fun c => bitAt (s.cfg i).binding c).foldl
    (fun m c => max m (max (s.channel c).level (s.channel c).target)) 0

/-- The request test of one LIGHTS entry (R158). -/
def lightTest (i : Nat) (s : State) : State :=
  let s := setDuty i (s.lightDuty i) s
  if s.lightWanted i then (if (s.live i).want then s else request i s)
  else if (s.live i).want then release false i s
  else s

/-- The request test of every valid LIGHTS entry. -/
def lightTests (s : State) : State := s.forEach s.lightEntries lightTest

/-! ### Actions (R148 to R150) -/

/-- SCENE (R148). -/
def sceneAction (n : Nat) (s : State) : State :=
  lightTests <| s.forEach channels fun c t =>
    let e := t.scene n c
    if e.include_ then t.modChannel c fun ch => ({ ch with pending := some e.tint } : Channel).startFade e.level e.fade
    else t

/-- LIGHTS_OFF (R149). -/
def lightsOff (s : State) : State :=
  lightTests <| s.forEach channels fun c t =>
    t.modChannel c fun ch => if 0 < ch.target then ch.startFade 0 t.lightSettings.offFade else ch

/-- A channel's target moved by a step, over 4 cycles; a step that leaves the target where it was starts no fade (R150). -/
def Channel.stepTarget (d : Int) (c : Channel) : Channel :=
  let target := (clampI 0 255 (c.target + d)).toNat
  if target = c.target then c else c.startFade target 4

/-- LIGHT_STEP (R150). -/
def lightStep (d : Int) (s : State) : State :=
  lightTests <| s.forEach channels fun c t =>
    if t.bunk c then t.modChannel c (Channel.stepTarget d) else t

/-- A sunrise start with its lead in minutes (R157); the entries it makes wanted are requested in the same handling. MODEL'S CHOICE: a lead
that has become 0 starts fades of no cycles (assumption 55). -/
def sunriseStart (lead : Nat) (s : State) : State :=
  let s := s.forEach channels fun c t =>
    let e := t.scene 7 c
    if t.bunk c && e.include_ then
      t.modChannel c fun ch => ({ ch with pending := some e.tint } : Channel).startFade e.level (min 7500 (lead * 750))
    else t
  lightTests (s.modLights fun l => { l with sunrise := true })

/-! ### Overlays (R154 to R156) -/

/-- Overlay record `r`. -/
def State.overlay (s : State) (r : Nat) : Overlay := s.lights.overlays.getD r Overlay.init

/-- The record that belongs to a warning, if one in use does. -/
def State.overlayOf (s : State) (kind index : Nat) : Option Nat :=
  [0, 1].find? fun r => (s.overlay r).inUse && (s.overlay r).kind == kind && (s.overlay r).index == index

/-- A record put out of use, its channels linked to the other record where that covers them (R156). -/
def freeOverlay (r : Nat) (s : State) : State :=
  s.modLights fun l =>
    let other := l.overlays.getD (1 - r) Overlay.init
    { l with
      overlays := l.overlays.modify r fun o => { o with inUse := false }
      channels := (List.range 8).map fun c =>
        let ch := l.channels.getD c Channel.init
        if ch.link = some r then
          { ch with link := if other.inUse && bitAt other.mask c then some (1 - r) else none }
        else ch }

/-- An overlay start (R154): the record of the same warning, else one out of use, else the older. MODEL'S CHOICE: a record used again is
ended first, so a channel of its old mask alone loses its link or goes to the other record (assumption 56). -/
def overlayStart (o : Overlay) (s : State) : State :=
  let r := match s.overlayOf o.kind o.index with
    | some r => r
    | none => if !(s.overlay 0).inUse then 0 else if !(s.overlay 1).inUse then 1 else 1 - s.lights.newer
  let s := if (s.overlay r).inUse then freeOverlay r s else s
  s.modLights fun l =>
    { l with
      overlays := l.overlays.set r { o with inUse := true, phase := .unshown, count := 0 }
      newer := r
      channels := (List.range 8).map fun c =>
        let ch := l.channels.getD c Channel.init
        if bitAt o.mask c then { ch with link := some r } else ch }

/-- An overlay end (R156). -/
def overlayEnd (kind index : Nat) (s : State) : State :=
  match s.overlayOf kind index with
  | some r => freeOverlay r s
  | none => s

/-- The phase advance of a record in use (R155). -/
def Overlay.advance (o : Overlay) : Overlay :=
  if o.inUse then
    match o.phase with
    | .unshown => { o with phase := .a, count := 1 }
    | .a => if o.onCycles < o.count + 1 then { o with phase := .b, count := 1 } else { o with count := o.count + 1 }
    | .b => if o.offCycles < o.count + 1 then { o with phase := .a, count := 1 } else { o with count := o.count + 1 }
  else o

/-! ### The cycle step (R147, R151, R152) -/

/-- A fade advanced by one step and a pending tint taken (R147). -/
def Channel.step (c : Channel) : Channel :=
  let c := match c.pending with
    | some t => { c with tint := t, pending := none }
    | none => c
  match c.fade with
  | some f =>
    { c with
      level := (((f.start : Int) + Int.tdiv (((f.target : Int) - f.start) * (f.k + 1)) f.n)).toNat,
      fade := if f.n ≤ f.k + 1 then none else some { f with k := f.k + 1 } }
  | none => c

/-- The night conditions (R153). -/
def State.night (s : State) : Bool := s.restRec.state == .resting && !s.lights.sunrise

/-- The roster cap lies on a channel: its entry is in WAITING, SHEDDING or SHED (R151). -/
def State.lightCapped (s : State) (c : Nat) : Bool :=
  match s.lightEntryOf c with
  | some i => (s.live i).grant == .waiting || (s.live i).grant == .shedding || (s.live i).grant == .shed
  | none => false

/-- The tint, the level and the case of R151 for a channel. -/
def State.composed (s : State) (c : Nat) : Nat × Nat × Nat :=
  let ch := s.channel c
  let x := s.lightSettings
  match ch.link with
  | some r =>
    match (s.overlay r).phase with
    | .b => ((s.overlay r).tintB, (s.overlay r).levelB, 1)
    | _ => ((s.overlay r).tintA, (s.overlay r).levelA, 1)
  | none =>
    if s.night && s.bunk c then
      (x.nightTint, if s.lightCapped c then min (min ch.level x.nightCap) x.shedCap else min ch.level x.nightCap, 2)
    else if s.lightCapped c then (ch.tint, min ch.level x.shedCap, 3)
    else (ch.tint, ch.level, 4)

/-- The output of a channel, with its components (R152). -/
def State.outputOf (s : State) (c : Nat) : Output :=
  let (t, l, k) := s.composed c
  let (w, co, r) := s.tint t
  { tint := t, level := l, warm := w * l / 255, cool := co * l / 255, red := r * l / 255, case := k }

/-- A cycle step (R147, R151, R153, R155, R158). -/
def cycleStep (s : State) : State :=
  let s := s.modLights fun l => { l with channels := l.channels.map Channel.step, overlays := l.overlays.map Overlay.advance }
  let outs := channels.map s.outputOf
  let s := s.forEach channels fun c t => t.modChannel c fun ch => { ch with out := outs.getD c Output.init }
  let s := s.modPanel fun p =>
    { p with backlight := if s.night then s.lightSettings.nightBacklight else s.lightSettings.dayBacklight }
  lightTests s

/-! ### Reports (R137's counterpart for lights, R142, R153, R159) -/

/-- Told that a LIGHTS entry has been shed from ON: stop complete at once (R158). -/
def lightShed (i : Nat) (s : State) : State := stopComplete i s

/-- Told that a rest period has opened, which always begins with night mode in force: the sunrise mark is clear (R153, R165). -/
def lightRestOpened (s : State) : State := s.modLights fun l => { l with sunrise := false }

/-- Told of another change of the rest state: the sunrise mark is cleared when it becomes NONE (R153). MODEL'S CHOICE: it stays at a return
from COMPLETE to RESTING (R167, assumption 54). -/
def lightRestChanged (s : State) : State :=
  if s.restRec.state = .none then s.modLights fun l => { l with sunrise := false } else s

/-- The held channel faults of a LIGHT position copied into its two channels (R159). -/
def lightFaults (p : Nat) (s : State) : State :=
  let r := s.node p
  if r.stale then s
  else
    let put (c : Nat) (v : Option Nat) (t : State) : State :=
      match v with
      | some x => t.modChannel c fun ch => { ch with fault := x }
      | none => t
    put (s.firstChannelAt p + 1) r.heldB (put (s.firstChannelAt p) r.heldA s)

/-- A channel put to sleep: level 0, no fade, and a dark output that keeps its tint and its case (R142, assumption 38). -/
def Channel.sleep (c : Channel) : Channel :=
  { c with level := 0, fade := none, out := { c.out with level := 0, warm := 0, cool := 0, red := 0 } }

/-- On entry to STANDBY every level becomes 0 and every fade is discarded, and the commands of the first cycle after the wake are dark
(R142). -/
def lightSleep (s : State) : State := s.modLights fun l => { l with channels := l.channels.map Channel.sleep }

end Sys2Proof.Machine
end

