-- ==== Sys2Proof/Machine/RestClock.lean ====
section
/-! DEFINITION. Machine/RestClock.lean: the rest clock and its warning queue (chapter 9), and the three hand-overs between it and the
heater controller (R112, R114, R176). -/

namespace Sys2Proof.Machine

/-- The code of a warning kind, which is also its tie order and its urgency (section 9.4). -/
def WarnKind.code : WarnKind → Nat
  | .restShort => 0
  | .wake => 1
  | .restComplete => 2
  | .restLead => 3
  | .breakSoon => 4
  | .preheat => 5
  | .sunrise => 6

/-- The code of a rest state (section 9.3). -/
def RestState.code : RestState → Nat
  | .none => 0
  | .resting => 1
  | .complete => 2

/-- A rest period is open (section 9.3). -/
def State.restOpen (s : State) : Bool := s.restRec.state != .none

/-- required − accumulated, 0 once that is reached. -/
def State.restRemaining (s : State) : Nat := s.restRec.required - s.restRec.accumulated

/-- The driver's activity is DRIVE (section 9.3). -/
def State.drive (s : State) : Bool := (s.signal 0).value == 3 && (s.signal 0).quality != .none

/-! ### The queue (R170) -/

/-- The order of the queue: due minute, kind, index. -/
def Warning.before (a b : Warning) : Bool :=
  decide (a.due < b.due) || (decide (a.due = b.due) &&
    (decide (a.kind.code < b.kind.code) || (decide (a.kind.code = b.kind.code) && decide (a.index < b.index))))

/-- An entry put at its place. -/
def insertWarning (w : Warning) : List Warning → List Warning
  | [] => [w]
  | x :: xs => if w.before x then w :: x :: xs else x :: insertWarning w xs

/-- The queue without the entry of a kind and index. -/
def withoutEntry (k : WarnKind) (i : Nat) (q : List Warning) : List Warning :=
  q.filter fun w => !(w.kind == k && w.index == i)

/-- A new entry: it replaces one of its kind and index, and an entry that would make 9 costs the last its place (R170). -/
def enqueue (w : Warning) (s : State) : State :=
  let q := insertWarning w (withoutEntry w.kind w.index s.ret.queue)
  let s := s.modRet fun r => { r with queue := q.take 8 }
  if 8 < q.length then s.modRest fun r => { r with overflow := sat16 r.overflow } else s

/-- Every queued entry of a kind removed. -/
def removeKind (k : WarnKind) (s : State) : State :=
  s.modRet fun r => { r with queue := r.queue.filter fun w => w.kind != k }

/-! ### The active warning (R179 to R181) -/

/-- A display code: a kind and a figure saturated at 4095 (section 13.2). -/
def displayCode (kind figure : Nat) : Nat := kind * 4096 + min figure 4095

/-- The display code while no warning is active (R179). -/
def State.idleDisplay (s : State) : Nat :=
  match s.restRec.state with
  | .none => 0
  | .resting => displayCode 1 s.restRemaining
  | .complete => displayCode 1 0

/-- The idle display brought up to date (R179). -/
def refreshIdle (s : State) : State :=
  if s.ret.active.isNone then s.modPanel fun p => { p with display := s.idleDisplay } else s

/-- The repeat timer started, with the repeat interval of now (R164, R179, R180). -/
def startRepeat (s : State) : State :=
  s.modRest fun r => { r with repeatTimer := some 0, repeatLimit := s.lightSettings.repeatInterval }

/-- The chime strike raised by 1, in its four bits (R50). -/
def strike (s : State) : State := s.modPanel fun p => { p with strike := (p.strike + 1) % 16 }

/-- A warning ends (R181): pattern 0, idle display, overlay end, timer stopped, record empty. -/
def endActive (s : State) : State :=
  match s.ret.active with
  | some a =>
    let s := (s.modRet fun r => { r with active := none }).modRest fun r => { r with repeatTimer := none }
    overlayEnd a.kind.code a.index (s.modPanel fun p => { p with pattern := 0, display := s.idleDisplay })
  | none => s

/-- An active warning of one of some kinds ended quietly. -/
def endKinds (ks : List WarnKind) (s : State) : State :=
  match s.ret.active with
  | some a => if ks.contains a.kind then endActive s else s
  | none => s

/-- The active warning displaced: it ends quietly and goes back into the queue, due now (R171). -/
def displace (s : State) : State :=
  match s.ret.active with
  | some a => enqueue { kind := a.kind, index := a.index, due := s.ret.clock, figure := a.entryFigure } (endActive s)
  | none => s

/-! ### Preheat, wake minute and sunrise entries (R174 to R178) -/

/-- The preheat lead for the outdoor reading as formed (R175). -/
def State.leadNow (s : State) : Nat :=
  match s.heater.outdoor with
  | none => 30
  | some t =>
    match (List.range 4).find? fun i => decide (t ≤ (s.preheatLead i).1) with
    | some i => (s.preheatLead i).2
    | none => (s.preheatLead 3).2

/-- The PREHEAT entry computed again (R175). -/
def formPreheat (s : State) : State :=
  match s.rest.wake with
  | some w =>
    if s.profile.preheat ∧ 0 < s.leadNow ∧ s.ret.preheat = none then
      let e : Warning := { kind := .preheat, index := 0, due := w - s.leadNow, figure := 0 }
      if s.ret.queue.contains e then s else enqueue e s
    else removeKind .preheat s
  | none => removeKind .preheat s

/-- The wake minute worked out from its sources (R174). -/
def State.wakeNow (s : State) : Option Nat :=
  match s.ret.alarm with
  | some a => some a
  | none =>
    if s.restRec.state = .resting ∧ s.profile.wakeAtComplete then some (s.ret.clock + s.restRemaining) else none

/-- A preheat in progress when the wake moves (R176, R177). -/
def movePreheat (w : Option Nat) (s : State) : State :=
  match s.ret.preheat, w with
  | some p, some m =>
    if p.isOpen then
      if s.ret.clock + 2 * s.leadNow < m then closeWindow (s.modRet fun r => { r with preheat := none })
      else openWindow (m + 30) (s.modRet fun r => { r with preheat := some { wake := m, isOpen := true } })
    else s.modRet fun r => { r with preheat := none }
  | some p, none => if p.isOpen then s else s.modRet fun r => { r with preheat := none }
  | none, _ => s

/-- The WAKE entry formed: queued at a wake minute that is not the last one served (R174). -/
def formWake (s : State) : State :=
  match s.rest.wake with
  | some w =>
    if s.ret.lastWake = some w then s else enqueue { kind := .wake, index := 0, due := w, figure := 0 } s
  | none => s

/-- The SUNRISE entry formed (R178). -/
def formSunrise (s : State) : State :=
  match s.rest.wake with
  | some w =>
    if 0 < s.profile.sunriseLead ∧ ¬ s.restRec.sunriseGiven then
      enqueue { kind := .sunrise, index := 0, due := w - s.profile.sunriseLead, figure := 0 } s
    else s
  | none => s

/-- The wake minute worked out again; when it moves, its three entries are removed and formed again (R174, R177). -/
def workOutWake (s : State) : State :=
  let w := s.wakeNow
  if w = s.rest.wake then s
  else
    let s := s.modRest fun r => { r with wake := w }
    let s := removeKind .sunrise (removeKind .preheat (removeKind .wake s))
    formSunrise (formPreheat (formWake (movePreheat w s)))

/-! ### REST_LEAD and BREAK_SOON entries (R172, R173) -/

/-- One lead formed: queued, or marked served in silence (R172). -/
def formLead (i : Nat) (s : State) : State :=
  let l := s.profile.leads.getD i 0
  if l = 0 ∨ s.restRec.leadsServed.getD i false then s
  else if l < s.restRemaining then
    enqueue { kind := .restLead, index := i, due := s.ret.clock + s.restRemaining - l, figure := 0 } s
  else s.modRestRec fun r => { r with leadsServed := r.leadsServed.set i true }

/-- The REST_LEAD entries formed, in a RESTING rest only (R172). -/
def formLeads (s : State) : State :=
  if s.restRec.state = .resting then (removeKind .restLead s).forEach [0, 1, 2] formLead else s

/-- The BREAK_SOON entries formed, while the activity is DRIVE and DRIVE_REMAINING is FRESH (R173). -/
def formBreaks (s : State) : State :=
  match s.freshSignal 1 with
  | some remaining =>
    if s.drive then
      (removeKind .breakSoon s).forEach [0, 1] fun i t =>
        let b := t.profile.breaks.getD i 0
        if b = 0 ∨ t.rest.breakServed.getD i false then t
        else enqueue { kind := .breakSoon, index := i, due := t.ret.clock + (remaining - b).toNat, figure := 0 } t
    else s
  | none => s

/-- The activity leaves DRIVE (R173). -/
def leaveDrive (s : State) : State :=
  endKinds [.breakSoon]
    ((removeKind .breakSoon s).modRest fun r => { r with breakServed := [false, false], driving := false })

/-! ### The due sweep (R171) -/

/-- The overlay of a warning, with the active profile's channels and pattern (R154, R179). -/
def State.overlayFor (s : State) (k : WarnKind) (i : Nat) : Overlay where
  inUse := true
  kind := k.code
  index := i
  mask := s.profile.channels
  tintA := s.profile.tintA
  levelA := s.profile.levelA
  tintB := s.profile.tintB
  levelB := s.profile.levelB
  onCycles := s.profile.onCycles
  offCycles := s.profile.offCycles
  phase := .unshown
  count := 0

/-- The figure a warning is displayed with (R179). -/
def State.figureFor (s : State) (w : Warning) : Nat :=
  match w.kind with
  | .restShort => w.figure
  | .restLead => s.restRemaining
  | .restComplete => s.restRec.accumulated
  | .breakSoon => (s.signal 1).value.toNat
  | _ => 0

/-- What becomes served when an entry becomes the active warning: a lead's mark, a break's, or the wake minute (R172 to R174,
R178). -/
def markServed (w : Warning) (s : State) : State :=
  match w.kind with
  | .restLead => s.modRestRec fun r => { r with leadsServed := r.leadsServed.set w.index true }
  | .breakSoon => s.modRest fun r => { r with breakServed := r.breakServed.set w.index true }
  | .wake =>
    workOutWake <| (s.modRet fun r =>
      { r with lastWake := some w.due, alarm := if r.alarm = some w.due then none else r.alarm }).modRestRec
        fun r => { r with sunriseGiven := false }
  | _ => s

/-- An entry that has left the queue becomes the active warning (R179). -/
def activate (w : Warning) (s : State) : State :=
  let figure := s.figureFor w
  let s := s.modRet fun r =>
    { r with active := some { kind := w.kind, index := w.index, figure := figure, entryFigure := w.figure, repeats := 0 } }
  let s := startRepeat s
  let s := strike <| s.modPanel fun p =>
    { p with pattern := s.profile.chimes.getD w.kind.code 0, display := displayCode (2 + w.kind.code) figure }
  markServed w (overlayStart (s.overlayFor w.kind w.index) s)

/-- A due entry that the sweep can deal with now: PREHEAT or SUNRISE, or an announced kind that finds no active warning or a less
urgent one (R171). -/
def State.actionable (s : State) (w : Warning) : Bool :=
  decide (w.due ≤ s.ret.clock) &&
    (w.kind == .preheat || w.kind == .sunrise ||
      (match s.ret.active with
       | none => true
       | some a => decide (w.kind.code < a.kind.code)))

/-- One due entry dealt with, already out of the queue (R171, R176, R178). -/
def dealWith (w : Warning) (s : State) : State :=
  match w.kind with
  | .preheat =>
    let wake := s.rest.wake.getD (w.due + s.leadNow)
    openWindow (wake + 30) (s.modRet fun r => { r with preheat := some { wake := wake, isOpen := true } })
  | .sunrise =>
    sunriseStart s.profile.sunriseLead (s.modRestRec fun r => { r with sunriseGiven := true })
  | _ => activate w (displace s)

/-- The sweep: while some due entry can be dealt with, the first such leaves the queue and is dealt with (R171). -/
def sweepN : Nat → State → State
  | 0, s => s
  | n + 1, s =>
    match s.ret.queue.find? s.actionable with
    | some w => sweepN n (dealWith w (s.modRet fun r => { r with queue := r.queue.erase w }))
    | none => s

/-- The end of each handling: the due sweep, once the first transmit cycle has ended, and the idle figure (R171, R179). -/
def restEnd (s : State) : State := refreshIdle (if s.rest.sweeping then sweepN 32 s else s)

/-! ### The rest record (R165 to R169) -/

/-- REST_STATE raised with the new state and the accumulated minutes. -/
def raiseRestState (s : State) : State :=
  raise .restState (byte s.restRec.state.code :: le 2 s.restRec.accumulated) s

/-- The REST_DATA_STALE condition judged; a change raises its notice (R168). -/
def judgeStale (s : State) : State :=
  let now := s.restOpen && (s.signal 0).quality != .fresh
  if now = s.rest.dataStale then s
  else raise .restDataStale (edgeByte now :: le 2 s.restRec.provisional) (s.modRest fun r => { r with dataStale := now })

/-- Completion, or its undoing by a higher requirement (R167). -/
def checkComplete (s : State) : State :=
  if s.restRec.state = .resting ∧ s.restRec.required ≤ s.restRec.accumulated then
    let s := s.modRestRec fun r => { r with state := .complete, leadsServed := [true, true, true] }
    let s := lightRestChanged (raiseRestState s)
    let s := enqueue { kind := .restComplete, index := 0, due := s.ret.clock, figure := 0 } s
    workOutWake (endKinds [.restLead] (removeKind .restLead s))
  else if s.restRec.state = .complete ∧ s.restRec.accumulated < s.restRec.required then
    let s := s.modRestRec fun r => { r with state := .resting, leadsServed := [false, false, false] }
    let s := removeKind .restComplete (raiseRestState s)
    lightRestChanged (workOutWake (formLeads s))
  else s

/-- A rest period opens (R165). -/
def openRest (s : State) : State :=
  let s := s.modRestRec fun r =>
    { r with
      state := .resting, start := s.ret.clock, accumulated := 0, provisional := 0, required := s.profile.required,
      leadsServed := [false, false, false], sunriseGiven := false }
  lightRestOpened (workOutWake (formLeads (raiseRestState s)))

/-- The unit confirms an open rest: provisional minutes are credited (R168). -/
def confirmRest (s : State) : State :=
  if 0 < s.restRec.provisional then
    let s := s.modRestRec fun r =>
      { r with accumulated := min 65535 (r.accumulated + r.provisional), provisional := 0 }
    workOutWake (formLeads (checkComplete s))
  else s

/-- An open rest closes (R169, steps 1 to 6). -/
def closeRest (s : State) : State :=
  let short := s.restRemaining
  let s := s.modRestRec fun r => { r with provisional := 0 }
  let s := if 0 < short then enqueue { kind := .restShort, index := 0, due := s.ret.clock, figure := short } s else s
  let s := s.modRestRec fun r => { r with lastClosed := some (r.accumulated, short) }
  let s := endKinds [.restLead, .restComplete, .wake] (removeKind .restComplete (removeKind .restLead s))
  let s := s.modRestRec fun r => { r with state := .none, sunriseGiven := false }
  workOutWake (lightRestChanged (judgeStale (raiseRestState s)))

/-- The minute counted while a rest is open (R166). -/
def countMinute (s : State) : State :=
  if s.restOpen then
    if (s.signal 0).quality = .fresh ∧ s.power.state ≠ .standby then
      s.modRestRec fun r => { r with accumulated := sat16 r.accumulated }
    else s.modRestRec fun r => { r with provisional := sat16 r.provisional }
  else s

/-- The rest clock's minute tick, in the order of R161. -/
def restMinute (s : State) : State :=
  let s := s.modRet fun r => { r with clock := (r.clock + 1) % 4294967296 }
  restEnd (formPreheat (refreshIdle (checkComplete (countMinute s))))

/-! ### Signal news (R162, R165, R168, R169, R173, R181) -/

/-- A store into DRIVER_ACTIVITY. -/
def activityStored (s : State) : State :=
  let was := s.rest.driving
  let now := s.drive
  let s := if was && !now then leaveDrive s else s
  let s :=
    if (s.signal 0).value = 0 then (if s.restOpen then confirmRest s else openRest s)
    else if s.restOpen then closeRest s
    else s
  let s := if now && !was then formBreaks (s.modRest fun r => { r with driving := true }) else s
  restEnd (judgeStale s)

/-- DRIVER_ACTIVITY turns STALE, or its quality becomes NONE. -/
def activityLost (s : State) : State :=
  let s := if s.rest.driving && !s.drive then leaveDrive s else s
  restEnd (judgeStale s)

/-- A store into DRIVE_REMAINING; `formsNow` says that it set the changed mark or made the signal FRESH (R173). -/
def remainingStored (formsNow : Bool) (s : State) : State := restEnd (if formsNow then formBreaks s else s)

/-- A store into TIME_OF_DAY or DATE_DAY (R162). -/
def timeStored (s : State) : State :=
  restEnd <| match s.freshSignal 2, s.freshSignal 3 with
    | some t, some d =>
      let m := (d * 1440 + t).toNat
      if m + 2 ≤ s.ret.clock ∨ s.ret.clock + 2 ≤ m then s.modRet fun r => { r with clock := m } else s
    | _, _ => s

/-- A store into IGNITION: value 1 acknowledges an active WAKE (R181). -/
def ignitionStored (s : State) : State :=
  restEnd (if (s.signal 5).value = 1 then endKinds [.wake] s else s)

/-! ### Actions, timers and hand-overs -/

/-- REST_PROFILE, and a commit to the active profile (R164). -/
def restProfile (p : Nat) (s : State) : State :=
  let s := s.modRet fun r => { r with profile := p }
  let s := if s.restOpen then checkComplete (s.modRestRec fun r => { r with required := s.profile.required }) else s
  restEnd (formPreheat (workOutWake (formBreaks (formLeads s))))

/-- ALARM_SET (R174). -/
def alarmSet (m : Nat) (s : State) : State :=
  restEnd (workOutWake (s.modRet fun r => { r with alarm := if m = 0 then none else some (r.clock + m) }))

/-- ACK (R181). -/
def acknowledge (s : State) : State := restEnd (endActive s)

/-- The repeat timer expires (R180). -/
def repeatExpires (s : State) : State :=
  restEnd <| match s.ret.active with
    | some a =>
      if a.repeats < s.lightSettings.repeatCount then
        startRepeat (strike (s.modRet fun r => { r with active := some { a with repeats := a.repeats + 1 } }))
      else endActive (raise .unacknowledged [byte a.kind.code, byte a.index] s)
    | none => s

/-- The heater tells that its window has closed by its own rules (R176). -/
def windowClosed (s : State) : State :=
  restEnd (s.modRet fun r => { r with preheat := r.preheat.map fun p => { p with isOpen := false } })

/-- A commit to table 12, or news of the outdoor reading (R175). -/
def preheatNews (s : State) : State := restEnd (formPreheat s)

/-- The heater's inputs have changed: the outdoor reading is formed again and the rest clock told of a change (R112), then demand is
worked out again (R115). -/
def heaterInputs (s : State) : State :=
  let now := s.outdoorNow
  let s := if now = s.heater.outdoor then s else preheatNews (s.modHeater fun h => { h with outdoor := now })
  heaterRefresh s

/-- HEAT_MODE (R109): argument 0 also closes an open window, of which the rest clock is told (R176). -/
def heatModeAction (n : Nat) (s : State) : State :=
  let closes := n = 0 ∧ s.heater.window ≠ none
  let s := setHeatMode n s
  if closes then windowClosed (closeWindow s) else heaterRefresh s

/-- An open window whose end minute has come closes (R114). -/
def windowExpires (s : State) : State := windowClosed (closeWindow s)

/-- The wake minute that the retained queue stands for at start-up: that of its WAKE entry. A WAKE entry that is already due is a warning
queued again, which no wake minute moves, so the wake minute is then the one the retained facts give (R182, assumption 25). -/
def State.heldWake (s : State) : Option Nat :=
  match s.ret.queue.find? fun w => w.kind == .wake with
  | some w => if s.ret.clock < w.due then some w.due else s.wakeNow
  | none => none

/-- The rest clock's start-up, before its first sweep (R182). MODEL'S CHOICE: a WAKE queued again goes with the others when the wake minute
worked out has moved (R174, assumption 57). -/
def restStartUp (s : State) : State :=
  let held := s.heldWake
  let s := (s.modRest fun r => { r with wake := held }).modRet fun r =>
    { r with queue := r.queue.filter fun w => w.kind != .breakSoon }
  let s := match s.ret.active with
    | some a =>
      let s := s.modRet fun r => { r with active := none }
      if a.kind = .breakSoon then s
      else enqueue { kind := a.kind, index := a.index, due := s.ret.clock, figure := a.entryFigure } s
    | none => s
  let s := workOutWake s
  let s := match s.ret.preheat with
    | some p =>
      if p.isOpen ∧ s.ret.clock < p.wake + 30 then openWindow (p.wake + 30) s
      else s.modRet fun r => { r with preheat := some { p with isOpen := false } }
    | none => s
  refreshIdle (judgeStale (lightRestChanged s))

/-- The first transmit cycle since start-up has ended: sweeps begin (R171). -/
def firstSweep (s : State) : State :=
  if s.rest.sweeping then s else restEnd (s.modRest fun r => { r with sweeping := true })

end Sys2Proof.Machine
end

