-- ==== Sys2Proof/Machine/Budget.lean ====
section
/-! DEFINITION. Machine/Budget.lean: the outlets (section 4.6), what a budget decision does to an entry (section 4.3), and the budget
tick (sections 5.2 to 5.4). -/

namespace Sys2Proof.Machine

/-- The code of a grant state (section 4.2). -/
def Grant.code : Grant → Nat
  | .idle => 0
  | .waiting => 1
  | .on => 2
  | .stopping => 3
  | .shedding => 4
  | .shed => 5

/-- The code of a shed reason (section 4.1). -/
def ShedReason.code : ShedReason → Nat
  | .none => 0
  | .budget => 1
  | .emergency => 2

/-! ### Outlets (R78, R79) -/

/-- The on-setting of output `o`. -/
def State.outletOn (s : State) (o : Nat) : Bool := s.roster.outlets.getD o false

/-- The entry bound to an output given the roster's request or release, by the on-setting (R78). -/
def outletApply (o : Nat) (s : State) : State :=
  match s.outletEntry o with
  | some i => if s.outletOn o then request i s else release false i s
  | none => s

/-- The OUTLET action on a bound output (R78); an OUTLET entry's duty estimate is 256 (R70). -/
def setOutlet (o : Nat) (on : Bool) (s : State) : State :=
  outletApply o (s.modRoster fun r => { r with outlets := r.outlets.set o on })

/-- An output is commanded closed while its entry is ON (R79). -/
def State.outletClosed (s : State) (o : Nat) : Bool :=
  match s.outletEntry o with
  | some i => (s.live i).grant == .on
  | none => false

/-- The outlet module at a position leaves PRESENT: both its outputs are switched off (R79). -/
def outletLost (p : Nat) (s : State) : State :=
  let o := 2 * s.moduleNumber p
  setOutlet (o + 1) false (setOutlet o false s)

/-! ### One decision (R65 to R68) -/

/-- LOAD_SHED for an entry: its index, SHED 0 or RESTORE 1, its shed reason and its grant state (R196). -/
def raiseLoadShed (restored : Bool) (i : Nat) (s : State) : State :=
  raise .loadShed [byte i, byte (bit restored), byte (s.live i).reason.code, byte (s.live i).grant.code] s

/-- The owner of an entry is told that it is granted (R65). -/
def tellGranted (i : Nat) (s : State) : State :=
  match (s.cfg i).kind with
  | .heater => heaterGranted s
  | .fridge => fridgeNews s
  | _ => s

/-- The owner of an entry is told that it has been shed from ON (R66). -/
def tellShed (i : Nat) (s : State) : State :=
  match (s.cfg i).kind with
  | .heater => heaterShed s
  | .fridge => fridgeShed s
  | .lights => lightShed i s
  | .outlet => stopComplete i s

/-- A grant (R65). -/
def grant (i : Nat) (s : State) : State :=
  if (s.live i).grant = .waiting then
    tellGranted i (s.modLive i fun l => { l with grant := .on, reason := .none })
  else s

/-- A budget shed (R66). -/
def budgetShed (i : Nat) (s : State) : State :=
  if (s.live i).grant = .on then
    let s := giveUpPlace i (s.modLive i fun l => { l with grant := .shedding, reason := .budget })
    tellShed i (raiseLoadShed false i s)
  else s

/-- A restore (R68). -/
def restore (i : Nat) (s : State) : State :=
  if (s.live i).grant = .shed then
    raiseLoadShed true i (s.modLive i fun l => { l with grant := .waiting, reason := .none })
  else s

/-- An emergency shed of one entry (R67, steps 2 to 5). MODEL'S CHOICE: an entry already in SHEDDING is left as it is, its reason BUDGET with
it (assumption 37). -/
def emergencyOne (i : Nat) (s : State) : State :=
  match (s.live i).grant with
  | .on => tellShed i (raiseLoadShed false i (s.modLive i fun l => { l with grant := .shedding, reason := .emergency }))
  | .waiting => raiseLoadShed false i (s.modLive i fun l => { l with grant := .shed, reason := .emergency })
  | .shed => s.modLive i fun l => { l with reason := .emergency }
  | _ => s

/-- The valid entries in a grant state, in index order. -/
def State.inGrant (s : State) (g : Grant) : List Nat := s.validEntries.filter fun i => (s.live i).grant = g

/-- The emergency shed (R67), step by step: the queue and the slot emptied, then every entry in ON, then every entry in WAITING, then the
reasons of those in SHED. MODEL'S CHOICE: the order within a step is that of the index, and an entry already SHEDDING stays as it is
(assumption 37). -/
def emergencyShed (s : State) : State :=
  let pass (g : Grant) (t : State) : State := t.forEach (s.inGrant g) emergencyOne
  pass .shed (pass .waiting (pass .on (s.modRoster fun r => { r with queue := [], holder := none })))

/-- The protected entries in SHED restored (R69). -/
def protectRestores (s : State) : State :=
  s.forEach s.validEntries fun i t => if (t.live i).protect then restore i t else t

/-! ### Figures of a tick (R88 to R94) -/

/-- The derate percentage for a temperature (R88). -/
def State.deratePct (s : State) (t : Int) : Nat :=
  if t ≤ -40 then s.derate 0
  else if 30 ≤ t then s.derate 7
  else
    let i := ((t + 40) / 10).toNat
    ((s.derate i : Int) + ((s.derate (i + 1) : Int) - s.derate i) * ((t + 40) % 10) / 10).toNat

/-- The battery temperature: the record's held value, stale or not; −40 for a record never received (R88). -/
def State.batteryTemp (s : State) : Int :=
  match s.nodeOf .battery with
  | some r => match r.measures with
    | .battery _ _ t => t
    | _ => -40
  | none => -40

/-- The usable capacity Cu (R88). -/
def State.usable (s : State) : Nat := s.energySettings.capacity * s.deratePct s.batteryTemp / 100

/-- The available charge A (R90). -/
def State.available (s : State) : Nat := min s.ret.charge s.usable - s.energySettings.reserve

/-- The horizon (R91). -/
def State.horizon (s : State) : Nat :=
  if s.restOpen then
    (clampI 30 1440 ((s.restRec.required : Int) - s.restRec.accumulated + 30)).toNat
  else s.energySettings.horizon

/-- The allowance P (R92). -/
def State.allowance (s : State) : Nat := 6 * s.available / s.horizon

/-- What an entry adds to the sum in its grant state (R93). -/
def State.rowOf (s : State) (i : Nat) : Nat :=
  let w := (s.live i).work
  let row := match (s.live i).grant with
    | .on => w.run * s.duty i
    | .stopping => w.run * 256
    | .shedding => w.run * 256
    | .shed => if (s.cfg i).kind = .lights then w.run * min (s.duty i) s.lightSettings.shedCap else 0
    | _ => 0
  if s.holds i then row + w.surge * 256 else row

/-- The sum over the roster (R93). -/
def State.sumMac (s : State) : Nat := (s.validEntries.map s.rowOf).sum

/-- The draw a sum stands for (R93). -/
def State.drawOf (s : State) (sum : Nat) : Nat := min 65535 (s.energySettings.standing + (sum + 128) / 256)

/-- The projected draw D (R93). -/
def State.projected (s : State) : Nat := s.drawOf s.sumMac

/-- The test figure D′ of an entry: its row replaced by what it would add in ON, with its surge while it needs one (R94). -/
def State.testDraw (s : State) (i : Nat) : Nat :=
  let w := (s.live i).work
  s.drawOf (s.sumMac - s.rowOf i + w.run * s.duty i + (if s.surgeNeed i then w.surge * 256 else 0))

/-! ### The mode (R96) and its decisions (R97 to R100) -/

/-- The mode of a tick (R96). -/
def State.chooseMode (s : State) : Mode :=
  if s.energy.cutoff.asserted then .cutoff
  else if s.energy.low.asserted then .low
  else if (s.energy.history.length = 12 ∧ 240 ≤ s.energy.history.sum) ∨ s.freshSignal 6 = some 1 then .surplus
  else .normal

/-- The priority in force of an entry. -/
def State.priority (s : State) (i : Nat) : Nat := (s.live i).work.priority

/-- An entry outranks another (R95). -/
def State.outranks (s : State) (i j : Nat) : Bool :=
  decide (s.priority j < s.priority i) || (decide (s.priority j = s.priority i) && decide (i < j))

/-- The entry of a set that outranks the others (R95). -/
def State.highest (s : State) : List Nat → Option Nat
  | [] => none
  | i :: is => match s.highest is with
    | some j => if s.outranks i j then some i else some j
    | none => some i

/-- The entry of a set that the others outrank (R98). -/
def State.lowest (s : State) : List Nat → Option Nat
  | [] => none
  | i :: is => match s.lowest is with
    | some j => if s.outranks i j then some j else some i
    | none => some i

/-- The entries a shed step may take: in ON, sheddable, unprotected (R98). -/
def State.eligible (s : State) : List Nat :=
  (s.inGrant .on).filter fun i => (s.live i).work.sheddable && !(s.live i).protect

/-- Every WAITING entry granted, highest first (R97); `n` bounds their number. -/
def grantAll : Nat → List Nat → State → State
  | 0, _, s => s
  | n + 1, is, s =>
    match s.highest is with
    | some i => grantAll n (is.erase i) (grant i s)
    | none => s

/-- SURPLUS (R97). -/
def decideSurplus (s : State) : State :=
  let s := grantAll 16 (s.inGrant .waiting) s
  match s.highest (s.inGrant .shed) with
  | some i => restore i s
  | none => s

/-- Step 1 of R98: the shed, or BUDGET_EXCEEDED where no entry is eligible. -/
def shedStep (d p : Nat) (s : State) : State :=
  match s.lowest s.eligible with
  | some i => budgetShed i s
  | none => raise .budgetExceeded (le 2 d ++ le 2 p) s

/-- Step 3 of R98: the restore. -/
def restoreStep (p : Nat) (s : State) : State :=
  match s.highest (s.inGrant .shed) with
  | some i =>
    if (s.inGrant .waiting).all (fun j => s.outranks i j) ∧ s.testDraw i + s.energySettings.margin ≤ p then restore i s
    else s
  | none => s

/-- NORMAL (R98). -/
def decideNormal (d p : Nat) (s : State) : State :=
  if p < d then shedStep d p s
  else
    match s.highest (s.inGrant .waiting) with
    | some i => if s.testDraw i ≤ p then grant i s else restoreStep p s
    | none => restoreStep p s

/-- LOW (R99): the grant of step 2 is taken when step 1 shed nothing. -/
def decideLow (d p : Nat) (s : State) : State :=
  if p < d ∧ s.eligible ≠ [] then shedStep d p s
  else
    let s := if p < d then shedStep d p s else s
    match s.highest ((s.inGrant .waiting).filter fun i => (s.live i).protect) with
    | some i => grant i s
    | none => s

/-- The mode's decisions (R95, step 5). -/
def decideTick (m : Mode) (d p : Nat) (s : State) : State :=
  match m with
  | .cutoff => emergencyShed s
  | .low => decideLow d p s
  | .surplus => decideSurplus s
  | .normal => decideNormal d p s

/-- The fridge's duty estimate updated (R71). -/
def fridgeDutyTick (s : State) : State :=
  onEntry .fridge (fun _ t =>
    t.modRet fun r => { r with fridgeDuty := (7 * r.fridgeDuty + 256 * bit t.compressor) / 8 }) s

/-- The tick's reading of the roster (R95, step 1). -/
def readRoster (s : State) : State :=
  let s := s.forEach s.validEntries fun i t => t.modLive i fun l => { l with protect := t.protectRequest i }
  let s := fridgeDutyTick s
  let s := s.forEach s.validEntries fun i t => t.modLive i fun l => { l with work := (t.cfg i).work }
  let s := reorderQueue s
  if s.energy.cutoff.asserted then s else protectRestores s

/-- A budget tick (R95); the fridge is told the mode after it. -/
def budgetTickBody (s : State) : State :=
  let s := readRoster s
  let p := s.allowance
  let d := s.projected
  let f : Figures := { cu := s.usable, available := s.available, horizon := s.horizon, allowance := p, draw := d }
  let m := s.chooseMode
  let s := s.modEnergy fun e => { e with figures := some f, mode := m, ticked := true }
  fridgeTick (m == .surplus) (decideTick m d p s)

end Sys2Proof.Machine
end

