-- ==== Sys2Proof/Machine/Energy.lean ====
section
/-! DEFINITION. Machine/Energy.lean: the charge count, the voltage watch, the estimate window and the full-charge event (sections 5.1,
5.5 and 5.6). -/

namespace Sys2Proof.Machine

/-! ### The charge count -/

/-- The residue units of one step of Q (section 5.1). -/
def residueUnit : Int := 4500

/-- A current added to the residue, with its carries and clamps (R83). -/
def integrate (i : Int) (s : State) : State :=
  let sum := s.ret.residue + i
  let q := (s.ret.charge : Int) + Int.tdiv sum residueUnit
  s.modRet fun r =>
    if (s.energySettings.capacity : Int) < q then { r with charge := s.energySettings.capacity, residue := 0 }
    else if q < 0 then { r with charge := 0, residue := 0 }
    else { r with charge := q.toNat, residue := Int.tmod sum residueUnit }

/-- Q set, with the residue 0 (R87, R103, R105). -/
def setCharge (q : Nat) (s : State) : State := s.modRet fun r => { r with charge := q, residue := 0 }

/-- Q brought down to C, the residue with it, where it is above (R85, R87). -/
def capCharge (s : State) : State :=
  if s.energySettings.capacity < s.ret.charge then setCharge s.energySettings.capacity s else s

/-- The last projected draw: the latest tick's, or the standing draw before the first tick since the reset or wake (R84).
MODEL'S CHOICE: that standing draw is the setting as it is committed now, without waiting for a tick (R87, assumption 67). -/
def State.lastDraw (s : State) : Nat :=
  match s.energy.figures with
  | some f => if s.energy.ticked then f.draw else s.energySettings.standing
  | none => s.energySettings.standing

/-- The check at the end of each transmit cycle (R84). -/
def substitute (s : State) : State :=
  if s.energy.heard then s.modEnergy fun e => { e with heard := false }
  else
    match s.energy.held with
    | some i =>
      if s.energy.holdCount < 25 then (integrate i s).modEnergy fun e => { e with holdCount := e.holdCount + 1 }
      else (integrate (-(s.lastDraw : Int)) s).modEnergy fun e => { e with blindDue := !e.blind }
    | none => (integrate (-(s.lastDraw : Int)) s).modEnergy fun e => { e with blindDue := !e.blind }

/-- The standby draw of a minute tick in STANDBY (R86). -/
def energyMinute (s : State) : State :=
  if s.power.state = .standby then integrate (-(s.energySettings.standby : Int) * 750) s else s

/-! ### The voltage watch (R101) -/

/-- The voltage the battery record holds. -/
def State.batteryVoltage (s : State) : Option Nat :=
  match s.nodeOf .battery with
  | some r => match r.measures with
    | .battery _ v _ => some v
    | _ => none
  | none => none

/-- The voltage of a level (R87). -/
def State.levelVoltage (s : State) : WatchLevel → Nat
  | .low => stepVoltage s.energySettings.lowStep
  | .cutoff => stepVoltage s.energySettings.cutoffStep

/-- A level of the watch. -/
def Energy.level (e : Energy) : WatchLevel → Level
  | .low => e.low
  | .cutoff => e.cutoff

/-- A level of the watch changed. -/
def State.modLevel (s : State) (l : WatchLevel) (f : Level → Level) : State :=
  s.modEnergy fun e =>
    match l with
    | .low => { e with low := f e.low }
    | .cutoff => { e with cutoff := f e.cutoff }

/-- One message's voltage counted against a level (R101). -/
def Level.count (voltage v : Nat) (x : Level) : Level :=
  if x.asserted then { x with clearCount := if voltage + 20 ≤ v then min 375 (x.clearCount + 1) else 0 }
  else { x with assertCount := if v < voltage then min 375 (x.assertCount + 1) else 0 }

/-- The class a level's edges raise (R101). -/
def levelClass : WatchLevel → NoticeClass
  | .low => .voltageLow
  | .cutoff => .emergency

/-- A level's edge told with the voltage of the message that decided it (R101). -/
def raiseLevel (l : WatchLevel) (begun : Bool) (s : State) : State :=
  raise (levelClass l) (edgeByte begun :: leOpt 2 s.batteryVoltage) s

/-- A level asserts (R101). -/
def assertLevel (l : WatchLevel) (s : State) : State :=
  raiseLevel l true (s.modLevel l fun _ => { asserted := true, assertCount := 0, clearCount := 0 })

/-- A level clears (R101); CUTOFF's clearing restores the protected entries in SHED at once (R69). MODEL'S CHOICE: its notice is raised before
those of the restores (assumption 46). -/
def clearLevel (l : WatchLevel) (s : State) : State :=
  let s := raiseLevel l false (s.modLevel l fun _ => { asserted := false, assertCount := 0, clearCount := 0 })
  if l = .cutoff then protectRestores s else s

/-- A level's two counts set to 0 (R102). -/
def resetCounts (l : WatchLevel) (s : State) : State :=
  s.modLevel l fun x => { x with assertCount := 0, clearCount := 0 }

/-- An assert is due. -/
def State.assertDue (s : State) (l : WatchLevel) : Bool :=
  !(s.energy.level l).asserted && decide (375 ≤ (s.energy.level l).assertCount)

/-- A clear is due. -/
def State.clearDue (s : State) (l : WatchLevel) : Bool :=
  (s.energy.level l).asserted && decide (375 ≤ (s.energy.level l).clearCount)

/-! ### Full charge and the estimate window -/

/-- The full-charge event (R105). -/
def fullCharge (s : State) : State :=
  let s := setCharge s.energySettings.capacity s
  (s.modRet fun r => { r with estimated := false }).modEnergy fun e => { e with fullCount := 0 }

/-- The full count of a message (R105). -/
def countFull (i : Int) (v : Nat) (s : State) : State :=
  s.modEnergy fun e =>
    { e with
      fullCount :=
        if s.energySettings.fullVoltage ≤ v ∧ 0 ≤ i ∧ i ≤ s.energySettings.taper then min 7500 (e.fullCount + 1) else 0 }

/-- The percentage of a voltage through the rest-voltage table (R103). -/
def State.restPct (s : State) (v : Nat) : Nat :=
  if v ≤ (s.restPoint 0).1 then (s.restPoint 0).2
  else if (s.restPoint 7).1 ≤ v then (s.restPoint 7).2
  else
    match ((List.range 7).reverse.find? fun i => decide ((s.restPoint i).1 ≤ v)) with
    | some i =>
      let (v0, p0) := s.restPoint i
      let (v1, p1) := s.restPoint (i + 1)
      ((p0 : Int) + ((p1 : Int) - p0) * ((v : Int) - v0) / ((v1 : Int) - v0)).toNat
    | none => (s.restPoint 0).2

/-- A quiet message within the window estimates Q and closes the window (R103). -/
def estimate (i : Int) (v : Nat) (s : State) : State :=
  if s.energy.window.isSome ∧ -20 ≤ i ∧ i ≤ 20 then
    (setCharge (s.energySettings.capacity * s.restPct v / 100) s).modEnergy fun e => { e with window := none }
  else s

/-- The edges that the last message made due, taken before another message is counted. -/
def energyDues (s : State) : State :=
  let s := if s.assertDue .cutoff then assertLevel .cutoff s else s
  let s := if s.clearDue .cutoff then clearLevel .cutoff s else s
  let s := if s.assertDue .low then assertLevel .low s else s
  let s := if s.clearDue .low then clearLevel .low s else s
  if 7500 ≤ s.energy.fullCount then fullCharge s else s

/-- An accepted battery message (R83, R84, R96, R101, R103, R105), its values already in the record. -/
def batteryMessage (i : Int) (v : Nat) (s : State) : State :=
  let s := integrate i (energyDues s)
  let s := s.modEnergy fun e =>
    { e with
      held := some i, holdCount := 0, blind := false, blindDue := false, heard := true,
      history := if s.power.state = .standby then e.history else (e.history ++ [i]).drop (e.history.length + 1 - 12) }
  let s := s.modLevel .cutoff (Level.count (s.levelVoltage .cutoff) v)
  let s := s.modLevel .low (Level.count (s.levelVoltage .low) v)
  countFull i v (estimate i v s)

/-! ### Start-up and STANDBY -/

/-- The accountant's start-up (R85, R103): after POWER_ON Q is half of C, ESTIMATED is set and the window opens; else Q is held to C. -/
def energyStartUp (powerOn : Bool) (s : State) : State :=
  if powerOn then
    (setCharge (s.energySettings.capacity / 2) (s.modRet fun r => { r with estimated := true })).modEnergy
      fun e => { e with window := some 0 }
  else capCharge s

/-- The accountant enters STANDBY (R85, R95, R96, R103). -/
def energySleep (s : State) : State :=
  s.modEnergy fun e => { e with held := none, heard := false, history := [], window := none, ticked := false }

end Sys2Proof.Machine
end

