-- ==== Sys2Proof/Machine/Standby.lean ====
section
/-! DEFINITION. Machine/Standby.lean: the standby qualification timer and its conditions (R200). -/

namespace Sys2Proof.Machine

/-- The six conditions of the standby qualification timer (R200). -/
def State.mayStandBy (s : State) : Bool :=
  (s.validEntries.all fun i => (s.live i).grant == .idle)
    && (s.lights.overlays.all fun o => !o.inUse)
    && (s.lights.channels.all fun c => c.fade.isNone)
    && (s.heater.state == .off || (s.heater.state == .lockout && !s.heater.purgeOutstanding))
    && s.setup.store == .idle
    && (match s.ret.queue with
        | [] => true
        | w :: _ => decide (s.ret.clock + 5 < w.due))

/-- The standby qualification timer started or discarded as its conditions stand (R200). It is taken at the end of every step, each
one that settling takes and each press of a panel key among them, and not within one (assumption 36). -/
def qualify (s : State) : State :=
  let runs := s.phase == .running && s.power.state == .quiet && s.mayStandBy
  s.modPower fun p => { p with standbyTimer := if runs then some (p.standbyTimer.getD 0) else none }

end Sys2Proof.Machine
end

