-- ==== Sys2Proof/Machine/Actions.lean ====
section
/-! DEFINITION. Machine/Actions.lean: the action vocabulary and the panel dispatcher (chapter 3). -/

namespace Sys2Proof.Machine

/-! ### The argument check (R53, R55) -/

/-- What the check of an action's argument answers. -/
inductive Checked where
  /-- taken, with the argument after the check, absent for an action that has none -/
  | take (argument : Option Int)
  | refuse
  /-- REST_PROFILE while the lock is set -/
  | locked
  deriving DecidableEq, Repr

/-- An enumerated argument 0..n (R53). -/
def enumerated (n : Int) (a : Int) : Checked := if 0 ≤ a ∧ a ≤ n then .take (some a) else .refuse

/-- The argument check of an action code 1..13, in the order of section 3.5 (R53, R55). -/
def State.checkAction (s : State) (code : Nat) (a : Int) : Checked :=
  match code with
  | 1 => enumerated 5 a
  | 2 => .take (some (clampI 50 300 a))
  | 3 => .take (some (clampI (-250) 250 a))
  | 4 => .take none
  | 5 => enumerated 1 a
  | 6 => .take (some (clampI (-50) 100 a))
  | 7 => enumerated 7 a
  | 8 => .take none
  | 9 => .take (some (clampI (-255) 255 a))
  | 10 =>
    if ([0, 1, 10, 11, 20, 21, 30, 31] : List Int).contains a && (s.outletEntry (a / 10).toNat).isSome then
      .take (some a)
    else .refuse
  | 11 => .take none
  | 12 => if s.setup.lock then .locked else enumerated 3 a
  | 13 => .take (some (if a = 0 then 0 else clampI 1 1440 a))
  | _ => .refuse

/-- The owner takes an action whose argument has been checked. -/
def perform (code : Nat) (a : Int) (s : State) : State :=
  match code with
  | 1 => heatModeAction a.toNat s
  | 2 => heatSet a s
  | 3 => heatStep a s
  | 4 => heatReset s
  | 5 => setFridgeMode (a == 1) s
  | 6 => fridgeSet a s
  | 7 => sceneAction a.toNat s
  | 8 => lightsOff s
  | 9 => lightStep a s
  | 10 => setOutlet (a / 10).toNat (a % 10 == 1) s
  | 11 => acknowledge s
  | 12 => restProfile a.toNat s
  | 13 => alarmSet a.toNat s
  | _ => s

/-- The dispatch record written; a refusal also counts (R54). -/
def recordAction (code : Nat) (a : Option Int) (src : ActionSource) (taken : Bool) (s : State) : State :=
  s.modPanel fun p =>
    { p with
      refused := if taken then p.refused else sat16 p.refused
      record := some { code := code, argument := a, source := src, taken := taken } }

/-- An action handed to its owner as one request (R52). -/
def handAction (src : ActionSource) (code : Nat) (a : Int) (s : State) : State :=
  match s.checkAction code a with
  | .take arg => perform code (arg.getD 0) (recordAction code arg src true s)
  | _ => recordAction code (some a) src false s

/-! ### Baselines and presses (R47 to R49) -/

/-- The counters a PANEL record holds, short keys 0 to 3 and then long keys 0 to 3. -/
def NodeRec.counters (r : NodeRec) : Option (List Nat) :=
  match r.measures with
  | .panel c _ => some c
  | _ => none

/-- The baseline of panel `n`. -/
def State.baseline (s : State) (n : Nat) : Option (List Nat) := s.panel.baselines.getD n none

/-- The baseline of panel `n` taken or discarded (R47). -/
def setBaseline (n : Nat) (b : Option (List Nat)) (s : State) : State :=
  s.modPanel fun p => { p with baselines := p.baselines.set n b }

/-- New presses of counter `c`: the difference modulo 16 (R48). -/
def presses (old new : List Nat) (c : Nat) : Nat := (new.getD c 0 + 16 - old.getD c 0 % 16) % 16

/-- One press of panel `n` dispatched through key entry 8n + 2k + x; an entry that holds NONE dispatches nothing (R49). -/
def press (entry : Nat) (s : State) : State :=
  let (code, constant) := s.keyAction entry
  if code = 0 then s else qualify (handAction .panelKey code constant s)

/-- `k` presses of one counter. -/
def pressTimes (entry : Nat) : Nat → State → State
  | 0, s => s
  | k + 1, s => pressTimes entry k (press entry s)

/-- The presses between two sets of counters, key by key, short before long (R48). -/
def dispatch (n : Nat) (old new : List Nat) (s : State) : State :=
  s.forEach [0, 1, 2, 3] fun k t =>
    pressTimes (8 * n + 2 * k + 1) (presses old new (k + 4)) (pressTimes (8 * n + 2 * k) (presses old new k) t)

/-- The dispatcher told of an accepted panel message (R47, R48). -/
def panelMessage (p : Nat) (s : State) : State :=
  let n := s.panelNumber p
  let new := (s.node p).counters
  if (s.node p).presence = .present then
    match s.baseline n, new with
    | some old, some c => setBaseline n new (dispatch n old c s)
    | _, _ => setBaseline n new s
  else s

/-! ### The command payload (R50) -/

/-- The four indicators (R50). -/
def State.indicators (s : State) : Nat :=
  bit s.heaterRun + 2 * bit s.compressor
    + 4 * bit (s.validEntries.any fun i => (s.live i).grant == .shedding || (s.live i).grant == .shed)
    + 8 * bit (s.energy.low.asserted || s.energy.cutoff.asserted || s.heater.state == .lockout)

end Sys2Proof.Machine
end

