-- ==== Sys2Proof/Machine/Signals.lean ====
section
/-! DEFINITION. Machine/Signals.lean: the signal store and the ingress matcher (sections 1.2 to 1.4). -/

namespace Sys2Proof.Machine

/-! ### Telling the consumers (R14) -/

/-- The consumer takes the news of signals 0 to 7: the changed mark is cleared. -/
def takeMark (n : Nat) (s : State) : State :=
  if n < 8 then s.modSignal n fun r => { r with changed := false } else s

/-- The consumer of a signal told of a store; `fresh` says that it set the changed mark or made the signal FRESH. -/
def tellStored (n : Nat) (fresh : Bool) (s : State) : State :=
  let s := takeMark n s
  match n with
  | 0 => activityStored s
  | 1 => remainingStored fresh s
  | 2 => timeStored s
  | 3 => timeStored s
  | 4 => heaterInputs s
  | 5 => ignitionStored s
  | 7 => heaterInputs s
  | _ => s

/-- The consumer of a signal told that it turned STALE or that its definition was committed. -/
def tellLost (n : Nat) (s : State) : State :=
  let s := takeMark n s
  match n with
  | 0 => activityLost s
  | 1 => restEnd s
  | 2 => restEnd s
  | 3 => restEnd s
  | 4 => heaterInputs s
  | 5 => restEnd s
  | 7 => heaterInputs s
  | _ => s

/-! ### Stores and ageing -/

/-- A value within the range written to a signal record (R8). -/
def SignalRec.write (v : Int) (r : SignalRec) : SignalRec where
  value := v
  quality := .fresh
  age := 0
  changed := r.changed || r.quality == .none || r.value != v

/-- The clamp count raised. -/
def countClamp (s : State) : State := s.modCounts fun c => { c with clamped := sat16 c.clamped }

/-- A scaled value stored into a signal (R8); signal 0 holds a value out of its range (R10). -/
def storeSignal (n : Nat) (v : Int) (s : State) : State :=
  let d := s.signalDef n
  if n = 0 ∧ (v < d.lo ∨ d.hi < v) then countClamp s
  else
    let w := clampI d.lo d.hi v
    let s := if w = v then s else countClamp s
    let fresh := ((s.signal n).write w).changed || (s.signal n).quality != .fresh
    tellStored n fresh (s.modSignal n (SignalRec.write w))

/-- One age tick of a record (R13); turning STALE is SIGNAL_STALE's. -/
def SignalRec.tick (r : SignalRec) : SignalRec :=
  match r.quality with
  | .none => r
  | _ => { r with age := min 65535 (r.age + 1) }

/-- A signal whose age has reached its limit and that is still FRESH (R13). -/
def State.staleDue (s : State) (n : Nat) : Bool :=
  (s.signal n).quality == .fresh && decide (1 ≤ (s.signalDef n).limit) && decide ((s.signalDef n).limit ≤ (s.signal n).age)

/-- A FRESH record turns STALE and its consumer is told (R13). -/
def turnStale (n : Nat) (s : State) : State :=
  if (s.signal n).quality = .fresh then tellLost n (s.modSignal n fun r => { r with quality := .stale }) else s

/-- A signal whose definition has been committed starts afresh (R12). -/
def redefine (n : Nat) (s : State) : State :=
  tellLost n (s.modSignal n fun r => { r with quality := .none, age := 0, changed := false })

/-! ### The matcher -/

/-- The ingress entry that takes a frame: the first valid one whose masked identifiers agree (R4). -/
def State.claimant (s : State) (f : RxFrame) : Option IngressEntry :=
  ((s.tables.get 1).map ingressOf).find? fun e =>
    e.valid && decide (f.ident.toNat &&& e.mask = e.ident &&& e.mask)

/-- The raw field of a payload; none where it runs past the data (R5). -/
def IngressEntry.raw (e : IngressEntry) (d : List Byte) : Option Nat :=
  if 8 * d.length < e.start + e.width then none else some (field (unLe d) e.start e.width)

/-- A raw field of two bits or more that is all ones is not available (R6). -/
def IngressEntry.available (e : IngressEntry) (raw : Nat) : Bool := e.width < 2 || raw != 2 ^ e.width - 1

/-- The scaled value of a raw field (R5, R7). -/
def IngressEntry.scale (e : IngressEntry) (raw : Nat) : Int :=
  let x : Int := if e.signedField then signed e.width raw else raw
  clampI (-2147483648) 2147483647 (Int.tdiv (x * e.multiplier) e.divisor + e.offset)

/-- A frame used with its scaled value: the store first, the action after it (R8, R9). -/
def useValue (e : IngressEntry) (v : Int) (s : State) : State :=
  let s := if e.stores then storeSignal e.target v s else s
  if e.acts then handAction .ingress e.action (if e.fromField then v else e.constant) s else s

/-- A frame taken by the matcher (R4 to R10). -/
def matchFrame (f : RxFrame) (s : State) : State :=
  match s.claimant f with
  | none => s.modCounts fun c => { c with unmatched := sat16 c.unmatched }
  | some e =>
    if e.reads then
      match e.raw f.data with
      | none => s.modCounts fun c => { c with short := sat16 c.short }
      | some raw => if e.available raw then useValue e (e.scale raw) s else s
    else handAction .ingress e.action e.constant s

end Sys2Proof.Machine
end

