-- ==== Sys2Proof/Machine/Loop.lean ====
section
/-! DEFINITION. Machine/Loop.lean: the berth loop's transmit side, its node records and its receive side (chapter 2). -/

namespace Sys2Proof.Machine

/-- The code of an alignment state (section 2.2). -/
def RxState.code : RxState → Nat
  | .search => 0
  | .confirm => 1
  | .inSync => 2
  | .hold => 3

/-- The code of a presence state (section 2.6). -/
def Presence.code : Presence → Nat
  | .unconfigured => 0
  | .seeking => 1
  | .present => 2
  | .lost => 3
  | .mismatch => 4

/-- The marker bit of a round (R21): 1, 1, 0, 1, 0, 0, 1, 0. -/
def marker (round : Nat) : Bool := [true, true, false, true, false, false, true, false].getD (round % 8) false

/-! ### Commands (R22, R35) -/

/-- The owning block's command payload for the kind mapped at a position (R22, R42, section 13.2). -/
def State.payload (s : State) (p : Nat) : List Byte :=
  padTo 6 <| match s.kindAt p with
    | .heater => [byte (bit s.heaterRun), byte s.heater.level]
    | .fridge => [byte (bit s.compressor)]
    | .light =>
      let a := (s.channel (s.firstChannelAt p)).out
      let b := (s.channel (s.firstChannelAt p + 1)).out
      [byte a.warm, byte a.cool, byte a.red, byte b.warm, byte b.cool, byte b.red]
    | .panel =>
      byte (s.panel.pattern + 16 * s.panel.strike) :: le 2 s.panel.display
        ++ [byte s.panel.backlight, byte s.indicators]
    | .outlet =>
      let o := 2 * s.moduleNumber p
      [byte (bit (s.outletClosed o) + 2 * bit (s.outletClosed (o + 1)))]
    | _ => []

/-- The check byte of seven bytes (R22, R205). -/
def checkByte (b : List Byte) : Byte := byte (256 - (b.map BitVec.toNat).sum % 256)

/-- The eight bytes of a command: header with direction 0, kind and sequence; payload; check byte (R22). -/
def commandMessage (k : NodeKind) (seq : Nat) (payload : List Byte) : List Byte :=
  let b := byte (2 * k.code + 16 * seq) :: payload
  b ++ [checkByte b]

/-- A command that joins an unechoed list, which holds at most 8 (R35). -/
def joinUnechoed (u : Unechoed) (l : List Unechoed) : List Unechoed := (l ++ [u]).drop (l.length + 1 - 8)

/-- The start of a transmit cycle for one position: unechoed items age, the payload is copied, the sequence raised where it must
be (R22, R35). -/
def LoopPos.begin (k : NodeKind) (payload : List Byte) (x : LoopPos) : LoopPos :=
  let aged := x.unechoed.map fun u => { u with cycles := u.cycles + 1 }
  if k = .none then { x with unechoed := aged, sent := padTo 6 [], message := padTo 8 [], raise := false }
  else
    let up := x.raise || payload != x.sent
    let seq := if up then (x.seq + 1) % 16 else x.seq
    { x with
      sent := payload, message := commandMessage k seq payload, seq := seq, raise := false,
      unechoed := if up then joinUnechoed { seq := seq, cycles := 0 } aged else aged }

/-- The start of a transmit cycle (R22). -/
def beginCycle (s : State) : State :=
  let next := positions.map fun p => (s.loopPos p).begin (s.kindAt p) (s.payload p)
  s.modTx fun t => { t with pos := next, round := 0 }

/-! ### The line (R21, R205) -/

/-- The slot a byte is sent in: its eight bits, least significant first, a parity bit that makes their number of ones even, and the stop
bit 1 (R21, R205). -/
def slotBits (b : Byte) : List Bool :=
  let d := (List.range 8).map b.getLsbD
  d ++ [(d.filter id).length % 2 == 1, true]

/-- The 121 bits of a transmit round: its marker bit, then byte `round` of each position's eight, slot by slot (R21, R22). -/
def LoopTx.roundBits (t : LoopTx) : List Bool :=
  marker t.round :: (positions.map fun p => slotBits ((t.pos.getD p LoopPos.init).message.getD t.round 0)).flatten

/-- What the loop output carries during the present round: the round's bits while the part is awake and while it finishes the round that
entry to STANDBY found in progress; the line at 1 in the rest of STANDBY and while the part is held (R21). -/
def State.lineBits (s : State) : List Bool :=
  if s.awake || (s.phase == .running && s.tx.finishing) then s.tx.roundBits else List.replicate 121 true

/-- The round that entry to STANDBY found in progress ends, and the line rests (R21). MODEL'S CHOICE: it ends at the next RECEIVED_ROUND,
TRANSMIT_CYCLE or passing second, and at a wake or a reset (assumption 60). -/
def roundEnds (s : State) : State := s.modTx fun t => { t with finishing := false }

/-- The end of a transmit cycle: the out-of-sync count (R31), the error window's cycle (R32), the substitute check (R84), the
estimate window's cycle (R103), the cycle step (R147) and the first sweep (R171). -/
def endCycle (s : State) : State :=
  let s := s.modTx fun t =>
    { t with
      outOfSync := if s.rx.state = .inSync then t.outOfSync else min 5 (t.outOfSync + 1)
      windowCycles := t.windowCycles + 1 }
  let s := (substitute s).modEnergy fun e => { e with window := e.window.map (· + 1) }
  firstSweep (cycleStep s)

/-- The oldest unechoed item of a position has reached 6 cycles and its mark is not set (R35). -/
def LoopPos.stallDue (x : LoopPos) : Bool := !x.stall && x.unechoed.head?.any (fun u => decide (6 ≤ u.cycles))

/-- The end of an error window (R32). -/
def windowEnd (s : State) : State :=
  let errors := s.tx.windowErrors
  let bad := decide (24 < errors)
  let changed := bad != s.tx.degraded
  let s := s.modTx fun t => { t with windowCycles := 0, windowErrors := 0, lastWindow := errors, degraded := bad }
  if changed then raise .loopDegraded [edgeByte bad, byte (min 255 errors)] s else s

/-! ### Telling the owners (R42) -/

/-- The owner of a position told that its node has left PRESENT. -/
def tellLeft (p : Nat) (s : State) : State :=
  match s.kindAt p with
  | .heater => heaterNodeLeft s
  | .fridge => fridgeNodeLeft s
  | .panel => setBaseline (s.panelNumber p) none s
  | .outlet => outletLost p s
  | _ => s

/-- The owner of a position told that its record's stale mark has been set. -/
def tellStaleMark (p : Nat) (s : State) : State :=
  match s.kindAt p with
  | .heater => heaterInputs s
  | .fridge => fridgeNews s
  | .panel =>
    let s := setBaseline (s.panelNumber p) none s
    if s.panelNumber p = 0 then heaterInputs s else s
  | _ => s

/-- The owner of a position told that its node has entered PRESENT. -/
def tellPresent (p : Nat) (s : State) : State :=
  match s.kindAt p with
  | .heater => heaterRefresh s
  | .fridge => fridgeNews s
  | .panel => setBaseline (s.panelNumber p) (s.node p).counters s
  | _ => s

/-- NODE_PRESENCE for a position (R44). -/
def raisePresence (p : Nat) (s : State) : State :=
  raise .nodePresence [byte p, byte (s.node p).presence.code, byte (s.kindAt p).code] s

/-- A position that enters LOST or MISMATCH: stale mark set, its owner told, and the notice raised (R38, R39, R44). MODEL'S CHOICE: the
notice comes after those that its owner raises (assumption 52). -/
def loseNode (st : Presence) (p : Nat) (s : State) : State :=
  let was := (s.node p).presence = .present
  let s := s.modNode p fun r => { r with presence := st, count := 0, stale := true }
  let s := if was then tellLeft p s else s
  raisePresence p (tellStaleMark p s)

/-- A position that becomes PRESENT (R38, R44). -/
def gainNode (p : Nat) (s : State) : State :=
  let wasLost := (s.node p).presence = .lost
  let s := tellPresent p (s.modNode p fun r => { r with presence := .present, count := 0 })
  if wasLost then raisePresence p s else s

/-- NODE_PRESENT is due at a position (R38). -/
def NodeRec.presentDue (r : NodeRec) : Bool :=
  (r.presence == .seeking || r.presence == .lost) && decide (3 ≤ r.count)

/-- NODE_LOST is due at a position (R38). -/
def NodeRec.lostDue (r : NodeRec) : Bool := r.presence == .present && decide (6 ≤ r.count)

/-- LOOP_FAILED is due (R31). -/
def LoopTx.failedDue (t : LoopTx) : Bool := !t.failed && decide (5 ≤ t.outOfSync)

/-- LOOP_FAILED asserts: every PRESENT position becomes LOST, and the notice is raised (R31, R40). MODEL'S CHOICE: the positions go in
rising order (assumption 50). -/
def loopFails (s : State) : State :=
  let s := s.modTx fun t => { t with failed := true }
  let s := s.forEach positions fun p t => if (t.node p).presence = .present then loseNode .lost p t else t
  raise .loopFailed [edgeByte true, byte s.rx.state.code] s

/-! ### Node messages (R34, R35, R41 to R43) -/

/-- The fields a status message carries, decoded for a kind: its measurements and its debounced values (section 13.2). -/
structure Decoded where
  measures : Measures
  fieldA : Option Nat
  fieldB : Option Nat
  deriving DecidableEq, Repr

/-- The four nibbles of two bytes, low nibble first. -/
def nibbles (b : List Byte) (k : Nat) : List Nat :=
  [field (byteAt b k) 0 4, field (byteAt b k) 4 4, field (byteAt b (k + 1)) 0 4, field (byteAt b (k + 1)) 4 4]

/-- The value of a field kept within its list of `n` values, none above it (R34). -/
def within (n v : Nat) : Option Nat := if v < n then some v else none

/-- A status message decoded for its kind; none where a field's value lies outside its list (R34). -/
def decodeStatus (k : NodeKind) (b : List Byte) : Option Decoded :=
  let pair (m : Measures) (na nb : Nat) : Option Decoded :=
    match within na (byteAt b 1), within nb (byteAt b 2) with
    | some x, some y => some { measures := m, fieldA := some x, fieldB := some y }
    | _, _ => none
  match k with
  | .none => none
  | .battery =>
    some { measures := .battery (leSAt b 1 2) (leAt b 3 2) (leSAt b 5 1), fieldA := none, fieldB := none }
  | .heater => pair (.heater (leSAt b 3 2) (byteAt b 5)) 6 16
  | .fridge =>
    match within 3 (byteAt b 1) with
    | some x => some { measures := .fridge (leSAt b 2 2), fieldA := some x, fieldB := none }
    | none => none
  | .light => pair .light 16 16
  | .panel =>
    some { measures := .panel (nibbles b 1 ++ nibbles b 3) (leSAt b 5 2), fieldA := none, fieldB := none }
  | .outlet => pair .outlet 16 16

/-- A debounced field after an accepted value: its held value and its candidate (R43). -/
def debounce (held cand : Option Nat) (v : Option Nat) : Option Nat :=
  match v with
  | some x => if cand = some x then some x else held
  | none => none

/-- A record after an accepted message (R41 to R43). -/
def NodeRec.accept (d : Decoded) (r : NodeRec) : NodeRec :=
  { r with
    stale := false, measures := d.measures,
    heldA := debounce r.heldA r.candA d.fieldA, heldB := debounce r.heldB r.candB d.fieldB,
    candA := d.fieldA, candB := d.fieldB, result := .accepted }

/-- An echoed sequence: its item and every older one leave the list; the mark is cleared when the list is empty (R35). -/
def LoopPos.echo (seq : Nat) (x : LoopPos) : LoopPos :=
  let l := if x.unechoed.any (fun u => u.seq == seq) then ((x.unechoed.dropWhile fun u => u.seq != seq).drop 1)
    else x.unechoed
  { x with unechoed := l, stall := if l.isEmpty then false else x.stall, lastEcho := some seq }

/-- A held fault that has come where there was none (R79). -/
def newFault (old new : Option Nat) : Bool := (old.getD 0 == 0) && (new.getD 0 != 0)

/-- The owner told first of a debounced change and then of the acceptance (R42); `old` is the record as it was. MODEL'S CHOICE: a held
outlet fault is acted on in every presence state (R79, assumption 44); the presses of a panel 0 message are dispatched before the heater
tests its cab reading (R48, R111, assumption 61). -/
def tellAccepted (p : Nat) (old : NodeRec) (s : State) : State :=
  let new := s.node p
  match s.kindAt p with
  | .battery =>
    match new.measures with
    | .battery i v _ => batteryMessage i v s
    | _ => s
  | .heater => heaterInputs (if old.heldA ≠ new.heldA then heaterPhase s else s)
  | .fridge => fridgeMessage (if old.heldA ≠ new.heldA then fridgeNews s else s)
  | .light => if old.heldA ≠ new.heldA ∨ old.heldB ≠ new.heldB then lightFaults p s else s
  | .panel =>
    let s := panelMessage p s
    if s.panelNumber p = 0 then heaterInputs s else s
  | .outlet =>
    let o := 2 * s.moduleNumber p
    let s := if newFault old.heldA new.heldA then setOutlet o false s else s
    if newFault old.heldB new.heldB then setOutlet (o + 1) false s else s
  | .none => s

/-- An accepted message (R34, R35, R39, R41 to R43). -/
def acceptMessage (p seq : Nat) (d : Decoded) (s : State) : State :=
  let old := s.node p
  let s := (s.modLoopPos p (LoopPos.echo seq)).modNode p fun r =>
    let r := r.accept d
    if r.presence = .mismatch then { r with presence := .seeking, count := 0 } else r
  tellAccepted p old s

/-- A well-formed message of another kind (R34, R39). -/
def foreignMessage (p : Nat) (s : State) : State :=
  let s := s.modNode p fun r => { r with result := .foreign }
  if (s.node p).presence = .mismatch then s else loseNode .mismatch p s

/-- One complete message tested, the first failing test deciding (R34). -/
def testMessage (m : ReadyMsg) (s : State) : State :=
  let header := byteAt m.bytes 0
  let kind := field header 1 3
  if m.dropped ∨ m.bad ∨ (m.bytes.map BitVec.toNat).sum % 256 ≠ 0 ∨ ¬ bitAt header 0 then s
  else if kind ≠ (s.kindAt m.position).code then foreignMessage m.position s
  else
    match decodeStatus (s.kindAt m.position) m.bytes with
    | some d => acceptMessage m.position (field header 4 4) d s
    | none => s

/-- The message at the head of those waiting tested (R34). -/
def takeMessage (s : State) : State :=
  match s.rx.ready with
  | m :: rest => qualify (testMessage m (s.modRx fun r => { r with ready := rest }))
  | [] => s

/-- A record at the end of a counted cycle (R38, R39, R43). MODEL'S CHOICE: a message of kind 0 does not keep a position mapped NONE in
MISMATCH (assumption 42). -/
def NodeRec.cycleEnd (k : NodeKind) (r : NodeRec) : NodeRec :=
  let accepted := r.result == CycleResult.accepted
  let r := if accepted then r else { r with candA := none, candB := none }
  let r := match r.presence with
    | .present => { r with count := if accepted then 0 else r.count + 1 }
    | .seeking => { r with count := if accepted then r.count + 1 else 0 }
    | .lost => { r with count := if accepted then r.count + 1 else 0 }
    | .mismatch => if k = NodeKind.none ∧ r.result ≠ CycleResult.foreign then { r with presence := .unconfigured, count := 0 } else r
    | .unconfigured => r
  { r with result := .nothing }

/-- The end of a counted cycle (R38, R39, R43). -/
def receivedCycleEnds (s : State) : State :=
  let next := positions.map fun p => (s.node p).cycleEnd (s.kindAt p)
  (s.modNodes fun _ => next).modRx fun r => { r with endDue := false }

/-- The presence changes that the counts have made due, position by position. -/
def presenceDues (s : State) : State :=
  s.forEach positions fun p t =>
    if (t.node p).presentDue then qualify (gainNode p t)
    else if (t.node p).lostDue then qualify (loseNode .lost p t)
    else t

/-- Everything a complete received cycle has left to do: its messages, then its end, then the presence changes. -/
def drainReceived (s : State) : State :=
  let s := s.forEach (List.range s.rx.ready.length) fun _ t => takeMessage t
  if s.rx.endDue then presenceDues (receivedCycleEnds s) else presenceDues s

/-! ### The receive side (R24 to R33) -/

/-- Entry to SEARCH (R24). -/
def LoopRx.toSearch (r : LoopRx) : LoopRx :=
  { r with
    state := .search, hist := List.replicate 121 Hist.init, candidate := none, confirmed := 0, mimicSeen := false,
    record := [], slotBits := [], slot := 0, assembling := false, parts := List.replicate 12 Assembly.init }

/-- A received bit added to a history. -/
def Hist.push (b : Bool) (h : Hist) : Hist where
  count := min 8 (h.count + 1)
  bits := (h.bits <<< 1) ||| BitVec.ofNat 8 (bit b)

/-- The round number of the newest of eight bits that match the marker pattern (R24). -/
def Hist.matched (h : Hist) : Option Nat :=
  if h.count = 8 then
    (List.range 8).find? fun r => (List.range 8).all fun j => h.bits.getLsbD j == marker (r + 8 - j)
  else none

/-- The history of position `i` matches the marker pattern. -/
def LoopRx.matchAt (r : LoopRx) (i : Nat) : Option Nat := (r.hist.getD i Hist.init).matched

/-- Stale marks set on every record, debounce candidates cleared, and the owners told (R27, R41, R43). -/
def markAllStale (s : State) : State :=
  let newly := positions.filter fun p => s.kindAt p ≠ .none ∧ ¬ (s.node p).stale
  let s := s.modNodes fun ns => ns.map fun r => { r with stale := true, candA := none, candB := none }
  s.forEach newly tellStaleMark

/-- Sync lost, with SEARCH or HOLD to follow (R27, R28): messages already complete are tested before the loss takes effect. -/
def loseSync (toSearch : Bool) (s : State) : State :=
  let s := drainReceived s
  let s := s.modRx fun r =>
    if toSearch then r.toSearch
    else
      { r with
        state := .hold, slotBits := [], slot := 0, assembling := false, parts := List.replicate 12 Assembly.init,
        candidate := none, confirmed := 0 }
  markAllStale s

/-- Entry to IN_SYNC with the candidate's alignment (R26, R29, R31). MODEL'S CHOICE: LOOP_REALIGNED is raised before LOOP_FAILED's clearing
edge (assumption 51). -/
def enterInSync (c : Candidate) (s : State) : State :=
  let old := s.rx.last
  let s := s.modRx fun r =>
    { r with
      state := .inSync, record := [], last := some { position := c.position, phase := c.phase }, round := c.round % 8,
      slotBits := [], slot := 0, assembling := false, parts := List.replicate 12 Assembly.init, candidate := none,
      confirmed := 0 }
  let s := match old with
    | some a =>
      if a.position = c.position ∧ a.phase = c.phase then s
      else raise .loopRealigned [byte c.position, byte c.phase, byte a.position] s
    | none => s
  let failed := s.tx.failed
  let s := s.modTx fun t => { t with outOfSync := 0, failed := false }
  if failed then raise .loopFailed [edgeByte false, byte s.rx.state.code] s else s

/-- A bit in SEARCH, its history brought up to date: a first match becomes the candidate, a further one sets MIMIC_SEEN, and the last
bit of the round enters CONFIRM (R24, R25, R26). -/
def searchBit (i : Nat) (s : State) : State :=
  let s := match s.rx.matchAt i, s.rx.candidate with
    | some r, none =>
      s.modRx fun x =>
        { x with
          candidate := some { position := i, round := r, phase := (r + 8 - s.tx.round % 8) % 8 }, mimicSeen := false }
    | some _, some c => if c.position = i then s else s.modRx fun x => { x with mimicSeen := true }
    | none, _ => s
  if i = 120 ∧ s.rx.candidate.isSome then
    if s.strict ∧ s.rx.mimicSeen then s.modRx LoopRx.toSearch
    else s.modRx fun x => { x with state := .confirm, confirmed := 0 }
  else s

/-- A bit in CONFIRM (R25, R26). -/
def confirmBit (i : Nat) (b : Bool) (c : Candidate) (s : State) : State :=
  if i = c.position then
    if b = marker (c.round + 1 + s.rx.confirmed) then
      if s.rx.confirmed + 1 = 8 then
        if s.strict ∧ s.rx.mimicSeen then s.modRx LoopRx.toSearch else enterInSync c s
      else
        let s := s.modRx fun x => { x with confirmed := x.confirmed + 1 }
        if s.strict ∧ s.rx.mimicSeen then s.modRx LoopRx.toSearch else s
    else s.modRx LoopRx.toSearch
  else
    let s := if (s.rx.matchAt i).isSome then s.modRx fun x => { x with mimicSeen := true } else s
    if s.strict ∧ s.rx.mimicSeen then s.modRx LoopRx.toSearch else s

/-- The comparison record loses sync: at least K of the newest N are errors (R27). -/
def State.syncLost (s : State) (record : List Bool) : Bool :=
  let (k, n) := s.lossRule
  decide (k ≤ ((record.drop (record.length - n)).filter id).length)

/-- The marker bit of a round in IN_SYNC (R27, R33). -/
def markerBit (b : Bool) (s : State) : State :=
  let round := (s.rx.round + 1) % 8
  let record := (s.rx.record ++ [b != marker round]).drop (s.rx.record.length + 1 - 8)
  let s := s.modRx fun x =>
    { x with
      round := round, record := record, slotBits := [], slot := 0,
      assembling := x.assembling || round == 0,
      parts := if round = 0 then List.replicate 12 Assembly.init else x.parts }
  if s.syncLost record then loseSync s.autoReframe s else s

/-- The number that bits hold, the first of them least significant. -/
def bitsValue : List Bool → Nat
  | [] => 0
  | b :: bs => bit b + 2 * bitsValue bs

/-- The ten bits of a slot have a slot error: odd parity over the data and parity bits, or a stop bit of 0 (R32). -/
def slotError (bits : List Bool) : Bool :=
  ((bits.take 9).filter id).length % 2 == 1 || !(bits.getD 9 false)

/-- A complete slot: counted if in error (R32), and its byte added to the position's message (R33). MODEL'S CHOICE: the twelve messages of a
counted cycle are tested in the order of their positions, of which R48 fixes that of the panels (assumption 40). -/
def slotDone (bits : List Bool) (s : State) : State :=
  let err := slotError bits
  let slot := s.rx.slot
  let s := if err then s.modTx fun t => { t with windowErrors := t.windowErrors + 1 } else s
  let s := s.modRx fun x =>
    { x with
      slotBits := [], slot := slot + 1,
      parts :=
        if x.assembling then
          x.parts.modify slot fun a => { a with bytes := a.bytes ++ [byte (bitsValue (bits.take 8))], bad := a.bad || err }
        else x.parts }
  if slot = 11 ∧ s.rx.round = 7 ∧ s.rx.assembling then
    s.modRx fun x =>
      { x with
        ready := positions.map fun p =>
          let a := x.parts.getD p Assembly.init
          { position := p, bytes := a.bytes, bad := a.bad, dropped := a.dropped }
        endDue := true, parts := List.replicate 12 Assembly.init }
  else s

/-- A bit in IN_SYNC: the marker bit at the aligned position, a slot's bit elsewhere (R27, R32, R33). -/
def syncBit (i : Nat) (b : Bool) (s : State) : State :=
  if s.rx.last.any (fun a => a.position == i) then markerBit b s
  else if s.rx.slot < 12 then
    if s.rx.slotBits.length = 9 then slotDone (s.rx.slotBits ++ [b]) s
    else s.modRx fun x => { x with slotBits := x.slotBits ++ [b] }
  else s

/-- One received bit at a position (R24 to R33); in HOLD nothing is looked at (R28). -/
def receiveBit (i : Nat) (b : Bool) (s : State) : State :=
  if s.rx.state = .hold then s
  else
    let s := s.modRx fun x => { x with hist := x.hist.modify i (Hist.push b) }
    match s.rx.state, s.rx.candidate with
    | .search, _ => searchBit i s
    | .confirm, some c => confirmBit i b c s
    | .inSync, _ => syncBit i b s
    | _, _ => s

/-- The bits that arrive during one transmit round, at positions 0 to 120 in turn (section 2.2). -/
def receiveRound (bits : BitVec 121) (s : State) : State :=
  (s.forEach (List.range 121) fun i t => receiveBit i (bits.getLsbD i) t).modTx fun t => { t with round := (t.round + 1) % 8 }

/-- RFR's effect on the receive side (R28). -/
def reframe (s : State) : State :=
  if s.rx.state = .inSync then loseSync true s else s.modRx LoopRx.toSearch

/-! ### Start-up, wake and node map commits -/

/-- Transmission starts at round 0 of a new cycle, every sequence to be raised, and the counts of the loop start afresh
(R21, R22, R31, R32). -/
def startTransmit (s : State) : State :=
  beginCycle <| s.modTx fun t =>
    { t with
      outOfSync := 0, windowCycles := 0, windowErrors := 0, finishing := false, pos := t.pos.map fun x => { x with raise := true } }

/-- A mapped position is SEEKING and one mapped NONE is UNCONFIGURED (R40). -/
def seekingFor (k : NodeKind) : Presence := if k = .none then .unconfigured else .seeking

/-- The node records after a reset (R40, R41). -/
def nodesStartUp (s : State) : State :=
  s.modNodes fun _ => positions.map fun p => NodeRec.never (seekingFor (s.kindAt p))

/-- The loop's part of a wake: every position SEEKING or UNCONFIGURED with its stale mark set, owners told, SEARCH entered, and
transmission started (R30, R31, R40). -/
def loopWake (s : State) : State :=
  let s := s.modRx fun r => { r.toSearch with ready := [], endDue := false }
  let left := positions.filter fun p => (s.node p).presence = .present
  let newly := positions.filter fun p => s.kindAt p ≠ .none ∧ ¬ (s.node p).stale
  let next := positions.map fun p =>
    { s.node p with
      presence := seekingFor (s.kindAt p), count := 0, stale := true, candA := none, candB := none, result := .nothing }
  let s := s.modNodes fun _ => next
  let s := s.forEach left tellLeft
  let s := s.forEach newly tellStaleMark
  s.forEach [0, 1] fun n t => setBaseline n none t

/-- A position reset by a node map commit, its present owner told while the old map still stands (R37). -/
def resetPosition (p : Nat) (k : NodeKind) (s : State) : State :=
  let was := (s.node p).presence = .present
  let stale := (s.node p).stale
  let s := s.modNode p fun _ => NodeRec.never (seekingFor k)
  let s := s.modLoopPos p fun x => { x with unechoed := [], stall := false, lastEcho := none, raise := true }
  let s := s.modRx fun r =>
    { r with
      parts := r.parts.modify p fun a => { a with dropped := true }
      ready := r.ready.map fun m => if m.position = p then { m with dropped := true } else m }
  let s := if was then tellLeft p s else s
  if stale then s else tellStaleMark p s

end Sys2Proof.Machine
end

