-- ==== Sys2Proof/Machine/Sources.lean ====
section
/-! DEFINITION. Machine/Sources.lean: the egress sources, the STA status items and their layouts (sections 1.5, 10.6 and 13.4). -/

namespace Sys2Proof.Machine

/-- What a source gives: a number of a size, unknown where it has no value, or the bytes of a set or record (section 13.4). -/
inductive SourceValue where
  | number (isSigned : Bool) (size : Nat) (value : Option Int)
  | bytes (b : List Byte)
  deriving DecidableEq, Repr

/-- An unsigned number source. -/
def unsignedSource (size : Nat) (v : Option Nat) : SourceValue := .number false size (v.map fun n => (n : Int))

/-- A signed number source. -/
def signedSource (size : Nat) (v : Option Int) : SourceValue := .number true size v

/-- A set of entries as a 16-bit number, bit n for entry n. -/
def State.entryMask (s : State) (f : Nat → Bool) : Nat :=
  (s.validEntries.map fun i => if f i then 2 ^ i else 0).sum

/-- ON_MASK (R82). -/
def State.onMask (s : State) : Nat := s.entryMask fun i => (s.live i).grant == .on

/-- SHED_MASK (R82). -/
def State.shedMask (s : State) : Nat := s.entryMask fun i => (s.live i).grant == .shedding || (s.live i).grant == .shed

/-- The code of a heater controller state (section 6.6). -/
def HeaterState.code : HeaterState → Nat
  | .off => 0
  | .requesting => 1
  | .starting => 2
  | .running => 3
  | .stopping => 4
  | .retryWait => 5
  | .lockout => 6

/-- The code of a fridge controller state (section 7.3). -/
def FridgeState.code : FridgeState → Nat
  | .off => 0
  | .idleCold => 1
  | .want => 2
  | .held => 3
  | .cooling => 4
  | .fault => 5

/-- BUS_COUNT by selector (R2). -/
def BusCounts.select (c : BusCounts) : Nat → Nat
  | 0 => c.overrun
  | 1 => c.unmatched
  | 2 => c.short
  | 3 => c.clamped
  | 4 => c.dropped
  | _ => c.busOff

/-- CHARGE_PERCENT (R106). -/
def State.chargePercent (s : State) : Nat := 100 * s.ret.charge / s.energySettings.capacity

/-- The battery record's measurements while it is not stale (R106). -/
def State.batteryNow (s : State) : Option (Int × Nat) :=
  match s.nodeOf .battery with
  | some r => if r.stale then none else match r.measures with
    | .battery i v _ => some (i, v)
    | _ => none
  | none => none

/-- CABINET_TEMP: unknown while the record is stale or never received (R141). -/
def State.cabinetNow (s : State) : Option Int :=
  if s.fridgeNode.any (fun r => !r.stale) then s.cabinet else none

/-- REST_REMAINING (R183). -/
def State.restRemainingNow (s : State) : Option Nat :=
  match s.restRec.state with
  | .none => none
  | .resting => some s.restRemaining
  | .complete => some 0

/-- LOOP_STATUS (R44). MODEL'S CHOICE: the phase is 0 while there is no last alignment (assumption 41). -/
def State.loopStatus (s : State) : List Byte :=
  let flags := s.rx.state.code + 4 * bit s.tx.failed + 8 * bit s.tx.degraded + 16 * bit s.rx.mimicSeen
    + 32 * bit (s.tx.pos.any fun x => x.stall)
  let present := (positions.map fun p => if (s.node p).presence = .present then 2 ^ p else 0).sum
  let phase := match s.rx.last with
    | some a => a.phase
    | none => 0
  byte flags :: leOpt 1 (s.rx.last.map (·.position)) ++ le 2 (present + 4096 * phase) ++ [byte (min 255 s.tx.lastWindow)]

/-- An egress source by its code; none for a code that is no source or a selector out of range (R18, R195, section 13.4). -/
def State.source (s : State) (code selector : Nat) : Option SourceValue :=
  match code with
  | 0x01 => if selector < 32 then some (signedSource 4 (s.freshSignal selector)) else none
  | 0x02 => if selector < 6 then some (unsignedSource 2 (some (s.bus.counts.select selector))) else none
  | 0x03 => some (unsignedSource 1 (some s.chargePercent))
  | 0x04 => some (unsignedSource 2 (s.energy.figures.map (·.allowance)))
  | 0x05 => some (unsignedSource 2 (s.energy.figures.map (·.draw)))
  | 0x06 => some (unsignedSource 2 (s.batteryNow.map (·.2)))
  | 0x07 => some (signedSource 2 (s.batteryNow.map (·.1)))
  | 0x08 => some (unsignedSource 1 (some s.heater.state.code))
  | 0x09 => some (unsignedSource 1 (some (if s.heaterRun then s.heater.level else 0)))
  | 0x0A => some (unsignedSource 1 s.heater.ignitionTime)
  | 0x0B => some (signedSource 2 s.cabReading)
  | 0x0C => some (unsignedSource 1 (some s.fridge.state.code))
  | 0x0D => some (signedSource 2 s.cabinetNow)
  | 0x0E => some (.bytes [byte (s.restRec.state.code + 4 * bit s.rest.dataStale)])
  | 0x0F => some (unsignedSource 2 s.restRemainingNow)
  | 0x10 => some (unsignedSource 2 (s.rest.wake.map (· % 1440)))
  | 0x11 => some (.bytes (le 2 s.onMask))
  | 0x12 => some (.bytes (le 2 s.shedMask))
  | 0x13 => some (.bytes s.loopStatus)
  | 0x14 => some (.bytes (le 2 s.notices.flags.toNat))
  | _ => none

/-- A code names a source, with its selector in range (R18). -/
def sourceKnown (code selector : Nat) : Bool :=
  decide (1 ≤ code) && decide (code ≤ 0x14) && (code != 1 || decide (selector < 32)) && (code != 2 || decide (selector < 6))

/-! ### Composing an egress frame (R16) -/

/-- An item's bytes (R16). -/
def encodeItem (w : Nat) (saturate : Bool) : SourceValue → List Byte
  | .bytes b => padTo w b
  | .number _ _ none => allOnes w
  | .number true _ (some v) =>
    leS w (if saturate then clampI (-(2 ^ (8 * w - 1) : Int)) ((2 ^ (8 * w - 1) : Int) - 1) v else v)
  | .number false _ (some v) => le w (if saturate then clampI 0 ((2 ^ (8 * w) : Int) - 2) v else v).toNat

/-- Bytes written over others from a position on. -/
def overlayBytes (position : Nat) (b : List Byte) (onto : List Byte) : List Byte :=
  onto.take position ++ b ++ onto.drop (position + b.length)

/-- The data length of an entry: one more than the highest byte any item uses (R16). -/
def EgressEntry.length (e : EgressEntry) : Nat := (e.items.map fun x => x.position + x.width).foldl max 0

/-- The payload of an egress entry from the values its sources hold now (R16). -/
def State.compose (s : State) (e : EgressEntry) : List Byte :=
  e.items.foldl
    (fun b x =>
      match s.source x.source x.selector with
      | some v => overlayBytes x.position (encodeItem x.width x.saturate v) b
      | none => overlayBytes x.position (allOnes x.width) b)
    (allOnes e.length)

/-- An egress frame. -/
def State.egressFrame (s : State) (e : EgressEntry) : TxFrame where
  ident := BitVec.ofNat 29 e.ident
  data := s.compose e
  restart := false

/-! ### The pass (R15, R17) -/

/-- The countdown of entry `i`. -/
def setCountdown (i n : Nat) (s : State) : State :=
  s.modEgress fun e => { e with countdown := e.countdown.set i n }

/-- An on-change entry at a pass in RUN: sent if its payload differs from the one last queued (R17). -/
def onChange (i : Nat) (s : State) : State :=
  let f := s.egressFrame (s.egressEntry i)
  if s.egress.lastQueued.getD i none = some f.data then s
  else
    let taken := s.bus.takesEgress
    let s := s.modBus (·.offerEgress f)
    if taken then s.modEgress fun e => { e with lastQueued := e.lastQueued.set i (some f.data) } else s

/-- The end of a pass: in RUN the changed marks of signals 8 to 31 are cleared (R17). -/
def endPass (s : State) : State :=
  let s := s.modEgress fun e => { e with passAt := none }
  if s.power.state = .run then
    s.modSignals fun rs => rs.take 8 ++ (rs.drop 8).map fun r => { r with changed := false }
  else s

/-- The pass over the entries of a list, in index order; it stands at an entry whose countdown has reached 0 (R15). -/
def passOver : List Nat → State → State
  | [], s => endPass s
  | i :: is, s =>
    let e := s.egressEntry i
    if !e.valid then passOver is s
    else if e.period = 0 then passOver is (if s.power.state = .run then onChange i s else s)
    else
      let n := s.egress.countdown.getD i 0 - 1
      let s := setCountdown i n s
      if n = 0 then s.modEgress fun x => { x with passAt := some i } else passOver is s

/-- A countdown that has reached 0: in RUN the frame is composed and offered, the countdown is reloaded, and the pass goes on
(R15). -/
def countdownExpires (s : State) : State :=
  match s.egress.passAt with
  | some i =>
    let e := s.egressEntry i
    let s := if s.power.state = .run then s.modBus (·.offerEgress (s.egressFrame e)) else s
    passOver (entries.drop (i + 1)) ((setCountdown i e.period s).modEgress fun x => { x with passAt := none })
  | none => s

/-- The countdowns at start-up (R15). -/
def egressStartUp (s : State) : State :=
  s.modEgress fun e => { e with countdown := entries.map fun i => (s.egressEntry i).period }

/-! ### Status items (R195, section 13.4) -/

/-- The four bytes of eight counters as a status payload lays them out (section 13.2). -/
def counterBytes (c : List Nat) : List Byte :=
  (List.range 4).map fun k => byte (c.getD (2 * k) 0 + 16 * c.getD (2 * k + 1) 0)

/-- A panel's baseline in the DISPATCH item. -/
def baselineBytes (b : Option (List Nat)) : List Byte :=
  byte (bit b.isSome) :: (match b with
    | some c => counterBytes c
    | none => allOnes 4)

/-- The code of an action source (R52). -/
def ActionSource.code : ActionSource → Nat
  | .panelKey => 0
  | .ingress => 1
  | .act => 2

/-- The code of a heater mode, as HEAT_MODE's argument names it (R109). -/
def HeatMode.code : HeatMode → Nat
  | .off => 0
  | .auto => 1
  | .manual l => l + 1

/-- The code of a budget mode (R96). -/
def Mode.code : Mode → Nat
  | .cutoff => 0
  | .low => 1
  | .surplus => 2
  | .normal => 3

/-- The code of the fridge's fault cause (R138). -/
def FridgeCause.code : FridgeCause → Nat
  | .nodeFault => 0
  | .nodeLost => 1

/-- NODE_STATE (R44). -/
def State.nodeItem (s : State) (p : Nat) : List Byte :=
  let r := s.node p
  let x := s.loopPos p
  [byte r.presence.code, byte (bit r.stale + 2 * bit x.stall), byte x.seq] ++ leOpt 1 x.lastEcho
    ++ [byte (s.kindAt p).code]

/-- DISPATCH (R54). -/
def State.dispatchItem (s : State) : List Byte :=
  le 2 s.panel.refused
    ++ (match s.panel.record with
        | some r => byte r.code :: leSOpt 4 r.argument ++ [byte r.source.code, byte (bit (!r.taken))]
        | none => byte 0 :: allOnes 6)
    ++ baselineBytes (s.baseline 0) ++ baselineBytes (s.baseline 1)

/-- The surge place of an entry: none 0, a queue place, or HOLDER 0x80 (section 13.4). -/
def State.surgePlace (s : State) (i : Nat) : Nat :=
  if s.holds i then 0x80
  else if s.queued i then (s.roster.queue.map (·.entry)).idxOf i + 1
  else 0

/-- LOAD_STATE (R82). -/
def State.loadItem (s : State) (i : Nat) : List Byte :=
  if (s.cfg i).valid then
    let l := s.live i
    [byte l.grant.code,
     byte (bit l.want + 2 * bit (s.surgeNeed i) + 4 * bit l.protect + 8 * bit (s.protectRequest i))]
      ++ le 2 (s.duty i) ++ [byte l.reason.code, byte (s.surgePlace i), byte l.work.priority]
      ++ le 2 l.work.run ++ le 2 l.work.surge
  else allOnes 1

/-- ENERGY_STATE (R106). -/
def State.energyItem (s : State) : List Byte :=
  let e := s.energy
  le 2 s.ret.charge ++ leS 2 s.ret.residue
    ++ [byte (bit s.ret.estimated + 2 * bit e.blind + 4 * bit e.low.asserted + 8 * bit e.cutoff.asserted
        + 16 * bit e.window.isSome), byte e.holdCount]
    ++ le 2 e.low.assertCount ++ le 2 e.low.clearCount ++ le 2 e.cutoff.assertCount ++ le 2 e.cutoff.clearCount
    ++ le 2 e.fullCount ++ [byte e.mode.code]
    ++ leOpt 2 (e.figures.map (·.cu)) ++ leOpt 2 (e.figures.map (·.available)) ++ leOpt 2 (e.figures.map (·.horizon))
    ++ leOpt 2 (e.figures.map (·.allowance)) ++ leOpt 2 (e.figures.map (·.draw))

/-- The heater node's applied level, if the record has been received. -/
def State.appliedLevel (s : State) : Option Nat :=
  match s.heaterNode with
  | some r => match r.measures with
    | .heater _ l => some l
    | _ => none
  | none => none

/-- HEATER (R128). -/
def State.heaterItem (s : State) : List Byte :=
  let h := s.heater
  [byte h.state.code, byte h.mode.code] ++ leS 2 h.setPoint ++ le 2 s.climate.comfort
    ++ [byte (bit h.thermo + 2 * bit h.preheat + 4 * bit h.mode.isManual + 16 * s.cabSource),
        byte (bit s.heaterRun), byte h.level]
    ++ leOpt 1 s.appliedLevel ++ [byte s.ret.failedStarts] ++ leOpt 1 h.ignitionTime
    ++ [byte (bit h.window.isSome)] ++ leOpt 4 h.window ++ leOpt 2 (h.manualCount.map fun c => s.climate.runLimit - c)
    ++ leOpt 1 h.ignition ++ leOpt 1 h.purge ++ leOpt 1 h.levelHold

/-- FRIDGE (R141). -/
def State.fridgeItem (s : State) : List Byte :=
  let f := s.fridge
  [byte f.state.code, byte (bit f.on)] ++ leS 2 f.setPoint ++ leS 2 s.fridgeEffective
    ++ [byte (bit s.compressor)]
    ++ leOpt 1 (match s.fridgeNode with
        | some r => r.heldA
        | none => none)
    ++ leSOpt 2 s.cabinet ++ leOpt 1 (f.cause.map FridgeCause.code) ++ [byte (bit f.protectRequest)]
    ++ leOpt 1 f.minOn ++ leOpt 1 f.minOff ++ leOpt 1 f.surgeHold ++ leOpt 2 f.protectTimer

/-- LIGHT (R160). -/
def State.lightItem (s : State) (c : Nat) : List Byte :=
  let x := s.channel c
  [byte x.level, byte x.target, byte (bit x.fade.isSome)]
    ++ leOpt 1 (x.fade.map (·.start)) ++ leOpt 2 (x.fade.map (·.n)) ++ leOpt 2 (x.fade.map (·.k))
    ++ [byte x.tint] ++ leOpt 1 x.pending ++ [byte (bit (s.bunk c) + 2 * bit (x.fault != 0))]
    ++ leOpt 1 (if x.fault = 0 then none else some x.fault) ++ leOpt 1 x.link
    ++ [byte x.out.tint, byte x.out.level, byte x.out.warm, byte x.out.cool, byte x.out.red, byte x.out.case]

/-- The code of an overlay phase (section 13.4). -/
def OverlayPhase.code : OverlayPhase → Nat
  | .unshown => 0
  | .a => 1
  | .b => 2

/-- OVERLAY (R160). MODEL'S CHOICE: a record out of use shows the values it last held (assumption 63). -/
def State.overlayItem (s : State) (r : Nat) : List Byte :=
  let o := s.overlay r
  [byte (bit o.inUse), byte o.kind, byte o.index, byte o.mask, byte (o.tintA + 16 * o.tintB), byte o.levelA,
   byte o.levelB, byte (o.onCycles + 16 * o.offCycles), byte o.phase.code, byte o.count]

/-- LIGHTS_STATE (R160). -/
def State.lightsStateItem (s : State) : List Byte :=
  [byte (bit s.lights.sunrise + 2 * bit s.night), byte s.panel.backlight]

/-- Marks as the bits of a number, the first least significant. -/
def marks (b : List Bool) : Nat := bitsValue b

/-- REST (R183). -/
def State.restItem (s : State) : List Byte :=
  let r := s.restRec
  le 4 s.ret.clock ++ [byte s.ret.profile, byte r.state.code] ++ le 4 r.start ++ le 2 r.accumulated
    ++ le 2 r.provisional ++ le 2 r.required
    ++ [byte (marks r.leadsServed + 8 * marks s.rest.breakServed + 32 * bit r.sunriseGiven)]
    ++ leOpt 2 (r.lastClosed.map (·.1)) ++ leOpt 2 (r.lastClosed.map (·.2))
    ++ leOpt 4 s.ret.alarm ++ leOpt 4 s.rest.wake ++ leOpt 4 s.ret.lastWake
    ++ [byte (match s.ret.preheat with
        | none => 0
        | some p => if p.isOpen then 1 else 2)]
    ++ leOpt 4 (s.ret.preheat.map (·.wake))
    ++ leOpt 1 (s.ret.active.map (·.kind.code)) ++ leOpt 1 (s.ret.active.map (·.index))
    ++ leOpt 1 (s.ret.active.map (·.repeats)) ++ leOpt 2 s.rest.repeatTimer ++ le 2 s.rest.overflow

/-- QUEUE (R183). -/
def State.queueItem (s : State) (n : Nat) : List Byte :=
  match s.ret.queue[n]? with
  | some w =>
    [byte w.kind.code, byte w.index] ++ le 4 w.due ++ (if w.kind = .restShort then le 2 w.figure else allOnes 2)
  | none => byte 0xFF :: allOnes 7

/-- Read through STA, a signal is a record of one page (section 13.4). -/
def State.signalItem (s : State) (n : Nat) : List Byte :=
  let r := s.signal n
  let q := match r.quality with
    | .none => 0
    | .fresh => 1
    | .stale => 2
  leS 4 r.value ++ [byte (q + 4 * bit r.changed)]

/-- The bytes of a source read through STA (R195). -/
def SourceValue.page : SourceValue → List Byte
  | .bytes b => b
  | .number true size v => leSOpt size v
  | .number false size v => leOpt size (v.map Int.toNat)

/-- The number of selectors an item takes: none for an unknown item, 0 for one that takes no selector (R195). -/
def selectors (item : Nat) : Option Nat :=
  match item with
  | 0x01 => some 32
  | 0x02 => some 6
  | 0x20 => some 12
  | 0x21 => some 0
  | 0x22 => some 16
  | 0x23 => some 0
  | 0x24 => some 0
  | 0x25 => some 0
  | 0x26 => some 8
  | 0x27 => some 2
  | 0x28 => some 0
  | 0x29 => some 0
  | 0x2A => some 8
  | n => if 3 ≤ n ∧ n ≤ 0x14 then some 0 else none

/-- The bytes of an item, its code known and its selector in range (R195). -/
def State.itemBytes (s : State) (item selector : Nat) : List Byte :=
  match item with
  | 0x01 => s.signalItem selector
  | 0x20 => s.nodeItem selector
  | 0x21 => s.dispatchItem
  | 0x22 => s.loadItem selector
  | 0x23 => s.energyItem
  | 0x24 => s.heaterItem
  | 0x25 => s.fridgeItem
  | 0x26 => s.lightItem selector
  | 0x27 => s.overlayItem selector
  | 0x28 => s.lightsStateItem
  | 0x29 => s.restItem
  | 0x2A => s.queueItem selector
  | n => match s.source n selector with
    | some v => v.page
    | none => []

end Sys2Proof.Machine
end

