-- ==== Sys2Proof/Machine/Setup.lean ====
section
/-! DEFINITION. Machine/Setup.lean: the setup channel's requests, the commit checks of every table and what a commit does
(chapter 10). -/

namespace Sys2Proof.Machine

/-! ### Commit checks -/

/-- A number lies in a range. -/
def inRange (lo hi x : Nat) : Bool := decide (lo ≤ x) && decide (x ≤ hi)

/-- A signed number lies in a range. -/
def inRangeS (lo hi x : Int) : Bool := decide (lo ≤ x) && decide (x ≤ hi)

/-- Within 29 bits. -/
def ident29 (n : Nat) : Bool := decide (n < 2 ^ 29)

/-- The identifier of an egress entry differs from the request, response and notice identifiers (R18). -/
def clearOf (request response ident : Nat) : Bool :=
  ident != request && ident != response && ident != response + 1

/-- Settings entry 0 (R185, R18, R45, R197). -/
def checkBus (s : State) (e : Entry) : Bool :=
  let req := leAt e 0 4
  let res := leAt e 4 4
  ident29 req && ident29 res && ident29 (res + 1) && req != res && req != res + 1
    && (entries.all fun i => !(s.egressEntry i).valid || clearOf req res (s.egressEntry i).ident)
    && decide (byteAt e 8 ≤ 2) && decide (byteAt e 14 ≤ 3)

/-- Settings entry 1 (R87). -/
def checkEnergy (e : Entry) : Bool :=
  let x := energySettingsOf e
  inRange 1000 60000 x.capacity && decide (x.reserve < x.capacity) && inRange 0 59999 x.reserve
    && decide (x.standing ≤ 200) && decide (x.standby ≤ 100) && inRange 30 1440 x.horizon && decide (x.margin ≤ 200)
    && decide (x.lowStep ≤ 7) && decide (x.cutoffStep < x.lowStep) && inRange 1300 1500 x.fullVoltage
    && decide (x.taper ≤ 200)

/-- Settings entry 2 (R109, R131). -/
def checkClimate (e : Entry) : Bool :=
  let x := climateSettingsOf e
  decide (x.heatMode ≤ 5) && inRange 50 300 x.heatSet && inRange 50 300 x.comfort && inRange 1 240 x.runLimit
    && decide (x.fridgeMode ≤ 1) && inRangeS (-50) 100 x.fridgeSet && inRange 5 50 x.hysteresis
    && decide (x.offset ≤ 50) && inRange 40 150 x.protectLevel

/-- Settings entry 3 (R143, R164). -/
def checkLights (e : Entry) : Bool :=
  let x := lightSettingsOf e
  inRange 1 7500 x.offFade && decide (x.nightTint ≤ 15) && inRange 30 300 x.repeatInterval && decide (x.repeatCount ≤ 8)

/-- An ingress entry (R11). MODEL'S CHOICE: a valid entry whose two kind bits hold 3, which names no kind, is refused (assumption 39); an
absent action is code 0, and no other code outside 1 to 13 stands for one, all ones included (assumption 66). -/
def checkIngress (e : Entry) : Bool :=
  let x := ingressOf e
  !x.valid ||
    (ident29 x.ident && ident29 x.mask && decide (x.kind ≤ 2) && decide (x.start ≤ 63) && inRange 1 32 x.width
      && decide (x.start + x.width ≤ 64) && inRange 1 1000 x.multiplier && inRange 1 1000 x.divisor
      && (!x.stores || decide (x.target < 32)) && decide (x.action ≤ 13) && (!x.acts || decide (1 ≤ x.action)))

/-- No two items share a byte (R18). -/
def disjointItems : List EgressItem → Bool
  | [] => true
  | x :: xs =>
    (xs.all fun y => decide (x.position + x.width ≤ y.position) || decide (y.position + y.width ≤ x.position))
      && disjointItems xs

/-- An egress entry (R18). -/
def checkEgress (s : State) (e : Entry) : Bool :=
  let x := egressOf e
  ident29 x.ident && decide (x.period ≤ 600)
    && (x.items.all fun y => decide (y.position + y.width ≤ 8) && sourceKnown y.source y.selector)
    && disjointItems x.items && clearOf s.requestIdent s.responseIdent x.ident

/-- The fixed ranges of signals 0 to 7 (R14). -/
def fixedRange : Nat → Int × Int
  | 0 => (0, 3)
  | 1 => (0, 1440)
  | 2 => (0, 1439)
  | 3 => (0, 65535)
  | 4 => (-500, 600)
  | 5 => (0, 1)
  | 6 => (0, 1)
  | 7 => (-500, 850)
  | _ => (-2147483648, 2147483647)

/-- A signal definition (R12). -/
def checkSignalDef (n : Nat) (e : Entry) : Bool :=
  let x := signalDefOf e
  decide (x.lo ≤ x.hi) && decide (x.limit ≤ 600) && decide ((fixedRange n).1 ≤ x.lo) && decide (x.hi ≤ (fixedRange n).2)

/-- The node map as it would stand, with the battery move (R36). -/
def State.mapAfter (s : State) (p : Nat) (e : Entry) : Tables :=
  let moved := positions.foldl
    (fun t q => if q ≠ p ∧ byteAt e 0 = 1 ∧ s.kindAt q = .battery then t.setEntry 4 q [byte 0, byte 0] else t) s.tables
  moved.setEntry 4 p e

/-- A node map as a whole obeys the limits of R36. -/
def mapAllowed (m : Table) : Bool :=
  let kinds := m.map fun e => byteAt e 0
  let lights := (m.filter fun e => byteAt e 0 == 4).map fun e => byteAt e 1
  kinds.count 1 == 1 && decide (kinds.count 2 ≤ 1) && decide (kinds.count 3 ≤ 1) && decide (kinds.count 4 ≤ 4)
    && decide (kinds.count 5 ≤ 2) && decide (kinds.count 6 ≤ 2) && decide lights.Nodup

/-- A node map entry (R36). -/
def checkNodeMap (s : State) (p : Nat) (e : Entry) : Bool :=
  decide (byteAt e 0 ≤ 6) && (byteAt e 0 != 4 || [0, 2, 4, 6].contains (byteAt e 1))
    && mapAllowed ((s.mapAfter p e).get 4)

/-- The roster as a whole obeys the limits of R58. -/
def rosterAllowed (m : Table) : Bool :=
  let valid := (m.map rosterCfgOf).filter (·.valid)
  let ofKind (k : LoadKind) := valid.filter fun c => c.kind = k
  decide ((ofKind .heater).length ≤ 1) && decide ((ofKind .fridge).length ≤ 1)
    && ((List.range 8).all fun c => decide (((ofKind .lights).filter fun x => bitAt x.binding c).length ≤ 1))
    && ((List.range 4).all fun o => decide (((ofKind .outlet).filter fun x => x.binding == o).length ≤ 1))

/-- What a commit changes of a roster entry's place: its validity, kind or binding (R81). -/
def rebinds (old new : RosterCfg) : Bool :=
  old.valid != new.valid || (new.valid && (old.kind != new.kind || old.binding != new.binding))

/-- A roster entry (R58, R81). -/
def checkRoster (s : State) (i : Nat) (e : Entry) : Bool :=
  let x := rosterCfgOf e
  (!x.valid ||
    (inRange 1 15 x.work.priority && decide (x.work.run ≤ 500) && decide (x.work.surge ≤ 1500)
      && inRange 1 240 x.work.limit && (x.kind != .lights || x.binding != 0)
      && rosterAllowed ((s.tables.setEntry 5 i e).get 5)))
    && (!((s.cfg i).valid && rebinds (s.cfg i) x) || (s.live i).grant == .idle)

/-- Leads in falling order, a zero followed only by zeros (R163). -/
def fallingLeads : List Nat → Bool
  | x :: y :: rest => (y == 0 || (x != 0 && decide (y < x))) && fallingLeads (y :: rest)
  | _ => true

/-- A rest profile (R163). -/
def checkProfile (e : Entry) : Bool :=
  let x := profileOf e
  inRange 60 1080 x.required && (x.leads.all fun l => decide (l < x.required)) && fallingLeads x.leads
    && (x.breaks.all fun b => decide (b ≤ 1440)) && fallingLeads x.breaks && decide (x.sunriseLead ≤ 60)
    && decide (1 ≤ x.onCycles) && decide (1 ≤ x.offCycles)

/-- Numbers that rise strictly. -/
def rising : List Int → Bool
  | x :: y :: rest => decide (x < y) && rising (y :: rest)
  | _ => true

/-- A rest-voltage entry (R104). -/
def checkRestVoltage (s : State) (i : Nat) (e : Entry) : Bool :=
  decide (leAt e 0 2 ≤ 2000) && decide (byteAt e 2 ≤ 100)
    && rising (((s.tables.setEntry 11 i e).get 11).map fun x => (leAt x 0 2 : Int))

/-- A preheat lead (R175). -/
def checkLead (s : State) (i : Nat) (e : Entry) : Bool :=
  inRangeS (-500) 850 (leSAt e 0 2) && decide (byteAt e 2 ≤ 120)
    && rising (((s.tables.setEntry 12 i e).get 12).map fun x => leSAt x 0 2)

/-- The commit check of a table's entry (section 10.2). -/
def State.checkEntry (s : State) (t i : Nat) (e : Entry) : Bool :=
  match t, i with
  | 0, 0 => checkBus s e
  | 0, 1 => checkEnergy e
  | 0, 2 => checkClimate e
  | 0, _ => checkLights e
  | 1, _ => checkIngress e
  | 2, _ => checkEgress s e
  | 3, n => checkSignalDef n e
  | 4, p => checkNodeMap s p e
  | 5, n => checkRoster s n e
  | 6, _ => e.all fun b => decide (b.toNat ≤ 63)
  | 7, _ => inRange 1 7500 (sceneOf e).fade
  | 8, _ => decide (byteAt e 0 ≤ 13)
  | 9, _ => checkProfile e
  | 10, _ => inRange 30 100 (byteAt e 0)
  | 11, n => checkRestVoltage s n e
  | 12, n => checkLead s n e
  | _, _ => false

/-! ### Bytes that a layout does not define (R205) -/

/-- The bits of a roster entry's binding byte that its kind defines: all of a LIGHTS entry's channel set, the output and module bits of an
OUTLET, none for a HEATER or a FRIDGE (section 4.1, section 13.3). -/
def bindingBits : LoadKind → Nat
  | .lights => 0xFF
  | .outlet => 0x03
  | _ => 0

/-- The bits each byte of an entry defines, for an entry `b`; bytes beyond the list are defined whole up to the entry's size. MODEL'S CHOICE:
the flag of table 2's byte 0 is its bit 0 (assumption 59); byte 1 of the node map is kept for every kind (assumption 64). -/
def definedBits (b : List Byte) : Nat → Nat → List Nat
  | 0, 0 => List.replicate 9 0xFF ++ [0x03] ++ List.replicate 5 0xFF
  | 0, 1 => List.replicate 14 0xFF
  | 0, 2 => List.replicate 12 0xFF
  | 0, _ => List.replicate 11 0xFF
  | 1, _ => 0x1F :: List.replicate 24 0xFF
  | 2, _ => 0x01 :: List.replicate 6 0xFF ++ [0xFF, 0xFF, 0x3F, 0xFF, 0xFF, 0x3F, 0xFF, 0xFF, 0x3F, 0xFF, 0xFF, 0x3F]
  | 5, _ => 0x0F :: bindingBits (loadKindOf (field (byteAt b 0) 1 2)) :: List.replicate 6 0xFF
  | 7, _ => 0xF1 :: List.replicate 3 0xFF
  | 9, _ => List.replicate 19 0xFF ++ [0x7F]
  | t, _ => List.replicate (entryBytes t) 0xFF

/-- An entry as it is kept: cut to its size, with what its layout does not define read as 0 (R205). -/
def normalEntry (t i : Nat) (b : List Byte) : Entry :=
  padTo (entryBytes t) (((padTo (entryBytes t) b).zip (definedBits b t i)).map fun x => x.1 &&& byte x.2)

/-! ### Commits -/

/-- The lock covers an entry (R192). -/
def lockCovers (t i : Nat) : Bool := t == 1 || t == 5 || t == 9 || t == 10 || t == 11 || (t == 0 && decide (i < 2))

/-- A table entry replaced whole (R186). -/
def putEntry (t i : Nat) (e : Entry) (s : State) : State := s.modTables fun x => x.setEntry t i e

/-- Settings entry 0 committed: a class that becomes sendable makes a frame fall due (R197). The new identifiers take effect once the
answer has been composed, so a notice frame composed here bears the old one (R185). -/
def commitBus (e : Entry) (s : State) : State :=
  let before := s.sendable
  let ident := s.noticeIdent
  let s := putEntry 0 0 e s
  if s.sendable &&& ~~~before = 0 then recomposeAs ident s else noticeDueAs ident s

/-- Settings entry 1 committed (R87, R102, R105). -/
def commitEnergy (e : Entry) (s : State) : State :=
  let old := s.energySettings
  let s := putEntry 0 1 e s
  let new := s.energySettings
  let s := capCharge s
  let s := if old.lowStep = new.lowStep then s else resetCounts .low s
  let s := if old.cutoffStep = new.cutoffStep then s else resetCounts .cutoff s
  if old.fullVoltage = new.fullVoltage ∧ old.taper = new.taper then s
  else s.modEnergy fun x => { x with fullCount := 0 }

/-- Settings entry 2 committed: a start-up value that differs from the one committed before becomes the live one (R109, R131).
MODEL'S CHOICE: the mode first, then the set point, then the fridge's two (assumption 48). -/
def commitClimate (e : Entry) (s : State) : State :=
  let old := s.climate
  let s := putEntry 0 2 e s
  let new := s.climate
  let s := if old.heatMode = new.heatMode then s else heatModeAction new.heatMode s
  let s := if old.heatSet = new.heatSet then s else heatSet new.heatSet s
  let s := if old.fridgeMode = new.fridgeMode then s else setFridgeMode (new.fridgeMode == 1) s
  let s := if old.fridgeSet = new.fridgeSet then s else fridgeSet new.fridgeSet s
  fridgeRefresh (heaterRefresh s)

/-- An egress entry committed (R18). -/
def commitEgress (i : Nat) (e : Entry) (s : State) : State :=
  (setCountdown i (egressOf e).period (putEntry 2 i e s)).modEgress fun x => { x with lastQueued := x.lastQueued.set i none }

/-- The kind or the first channel of a position differs between two entries (R37). -/
def positionChanged (old new : Entry) : Bool :=
  byteAt old 0 != byteAt new 0 || (byteAt new 0 == 4 && byteAt old 1 != byteAt new 1)

/-- A node map committed (R37), with the panels (R47, R57) and the channels (R159) that it moves. -/
def commitNodeMap (p : Nat) (e : Entry) (s : State) : State :=
  let after := s.mapAfter p e
  let changed := positions.filter fun q => positionChanged (s.tables.entry 4 q) (after.entry 4 q)
  let panels := [s.panelPos 0, s.panelPos 1]
  let drivers := channels.map s.lightPosOf
  let s := s.forEach changed fun q t => resetPosition q (nodeKindOf (byteAt (after.entry 4 q) 0)) t
  let s := s.modTables fun _ => { s.tables with nodeMap := after.nodeMap }
  let s := s.forEach [0, 1] fun n t => if t.panelPos n = panels.getD n none then t else setBaseline n none t
  let s := s.forEach channels fun c t =>
    if t.lightPosOf c = drivers.getD c none then t else t.modChannel c fun ch => { ch with fault := 0 }
  fridgeRefresh (heaterInputs s)

/-- The owner of an entry told that it has become valid or been bound anew: it requests if it wants the load (R59, R81); the light engine
makes its test for every valid LIGHTS entry (R158). -/
def tellEntry (i : Nat) (s : State) : State :=
  match (s.cfg i).kind with
  | .heater => heaterRefresh (if s.heater.state = .requesting then request i s else s)
  | .fridge => fridgeRefresh (if s.fridge.state.cycling then request i s else s)
  | .lights => lightTests s
  | .outlet => outletApply (s.cfg i).binding s

/-- A roster entry committed (R80, R81). MODEL'S CHOICE: a valid entry whose kind changes is set up afresh, as one that becomes valid is
(assumption 45). -/
def commitRoster (i : Nat) (e : Entry) (s : State) : State :=
  let old := s.cfg i
  let s := putEntry 5 i e s
  let new := s.cfg i
  if !rebinds old new then s
  else if !new.valid then
    let s := s.modLive i fun _ => Live.init Working.init
    if old.kind = .outlet then s.modRoster fun r => { r with outlets := r.outlets.set old.binding false } else s
  else if old.valid && old.kind == new.kind then tellEntry i (s.modLive i fun l => { l with work := new.work })
  else
    let s := setUpEntry i s
    tellEntry i (if new.kind = .fridge then s.modRet fun r => { r with fridgeDuty := 256 } else s)

/-- A checked entry committed, and its owner told (R186, R189). -/
def commitEntry (t i : Nat) (e : Entry) (s : State) : State :=
  let s := match t, i with
    | 0, 0 => commitBus e s
    | 0, 1 => commitEnergy e s
    | 0, 2 => commitClimate e s
    | 2, n => commitEgress n e s
    | 3, n => redefine n (putEntry 3 n e s)
    | 4, p => commitNodeMap p e s
    | 5, n => commitRoster n e s
    | 9, n => if n = s.ret.profile then restProfile n (putEntry 9 n e s) else putEntry 9 n e s
    | 12, n => preheatNews (putEntry 12 n e s)
    | t, n => putEntry t n e s
  s.modSetup fun x =>
    { x with
      unsaved := x.unsaved.set t true
      unsavedSettings := if t = 0 then x.unsavedSettings.set i true else x.unsavedSettings }

/-! ### Requests and answers (R184, R185) -/

/-- The results of a request (chapter 10). -/
inductive Result where
  | ok | busy | locked | range | order | nosel | unknown
  deriving DecidableEq, Repr

/-- The code of a result. -/
def Result.code : Result → Nat
  | .ok => 0
  | .busy => 1
  | .locked => 2
  | .range => 3
  | .order => 4
  | .nosel => 5
  | .unknown => 6

/-- What a request's handling answers: its result, its data bytes and the state it leaves. -/
structure Answer where
  result : Result
  data : List Byte
  state : State

/-- The setup channel can take the frame at the head of the receive queue: the part runs awake, no response waits, and the frame
bears the request identifier (R4, R184). -/
def State.setupHead (s : State) : Option (List Byte) :=
  match s.bus.rxQueue with
  | f :: _ => if s.awake && s.setup.waiting.isNone && s.isSetupFrame f then some f.data else none
  | [] => none

/-- The response frame (R185): its identifier is the one in force when the request was taken. -/
def responseFrame (ident : Nat) (restarts : Bool) (d : List Byte) (a : Answer) : TxFrame where
  ident := BitVec.ofNat 29 ident
  data := [byte (requestCode d), byte (requestTag d), byte a.result.code] ++ padTo 5 a.data
  restart := restarts

/-- A request with a tag taken, handled whole and answered (R184, R185): too short a frame is answered RANGE. -/
def answer (restarts : Bool) (d : List Byte) (f : State → Answer) (s : State) : State :=
  let ident := s.responseIdent
  let s := dropReceived s
  let a := match shortestLength (requestCode d) with
    | some n => if d.length < n then { result := .range, data := [], state := s } else f s
    | none => { result := .unknown, data := [], state := s }
  offerResponse (responseFrame ident (restarts && a.result == .ok) d a) a.state

/-- The setup request at the head of the queue, if it bears a code, answered; otherwise the command finds no request and nothing
happens. -/
def onRequest (code : Nat) (restarts : Bool) (f : List Byte → State → Answer) (s : State) : State :=
  match s.setupHead with
  | some d => if 2 ≤ d.length ∧ requestCode d = code then answer restarts d (f d) s else s
  | none => s

/-- The store is writing (R191). -/
def State.storeBusy (s : State) : Bool := s.setup.store != .idle

/-- ID's data (R194, section 13.1). -/
def State.identity (s : State) : List Byte :=
  let cause := match s.power.cause with
    | .powerOn => 0
    | .supplyDip => 1
    | .restart => 2
    | .defaults => 3
  let st := match s.setup.store with
    | .idle => 0
    | .saving => 1
    | .lockWriting => 2
  let pw := match s.power.state with
    | .run => 0
    | .quiet => 1
    | .standby => 2
  le 2 0x5C26 ++
    [Config.revision,
     byte (cause + 4 * bit (s.setup.image == .defaults) + 8 * bit s.setup.lock + 16 * bit (s.setup.unsaved.any id)),
     byte (st + 4 * pw)]

/-- ID (R194). -/
def idRequest (s : State) : Answer := { result := .ok, data := s.identity, state := s }

/-- SEL (R187). -/
def selRequest (d : List Byte) (s : State) : Answer :=
  let t := byteAt d 2
  let i := byteAt d 3
  if i < tableEntries t then
    { result := .ok, data := [],
      state := s.modSetup fun x =>
        { x with cursor := some { table := t, index := i, auto := bitAt (byteAt d 4) 0 }, staging := none, readSnap := none } }
  else { result := .range, data := [], state := s }

/-- The cursor after its entry is done: with auto-advance it moves on and wraps (R189, R190). -/
def Cursor.advance (c : Cursor) : Cursor :=
  if c.auto then { c with index := (c.index + 1) % tableEntries c.table } else c

/-- The staging emptied. -/
def dropStaging (s : State) : State := s.modSetup fun x => { x with staging := none }

/-- The last part has been staged: the lock, the check and the commit (R189). -/
def tryCommit (c : Cursor) (parts : List (List Byte)) (s : State) : Result × State :=
  let e := normalEntry c.table c.index parts.flatten
  let s := dropStaging s
  if s.setup.lock && lockCovers c.table c.index then (.locked, s)
  else if s.checkEntry c.table c.index e then
    (.ok, (commitEntry c.table c.index e s).modSetup fun x => { x with cursor := some c.advance })
  else (.range, s)

/-- A part accepted: it is staged, and the table's last part goes on to the commit (R188). -/
def stagePart (c : Cursor) (parts : List (List Byte)) (s : State) : Result × State :=
  if parts.length = tableParts c.table then tryCommit c parts s
  else (.ok, s.modSetup fun x => { x with staging := some { table := c.table, index := c.index, parts := parts } })

/-- The decision table of WRP with a cursor (R188). -/
def wrpDecide (c : Cursor) (part : Nat) (b : List Byte) (s : State) : Result × State :=
  if s.storeBusy then (.busy, s)
  else if tableParts c.table ≤ part then (.range, dropStaging s)
  else if part = 0 then
    if s.setup.lock && lockCovers c.table c.index then (.locked, dropStaging s) else stagePart c [b] s
  else
    match s.setup.staging with
    | some g =>
      if g.parts.length = part ∧ g.table = c.table ∧ g.index = c.index then stagePart c (g.parts ++ [b]) s
      else (.order, dropStaging s)
    | none => (.order, dropStaging s)

/-- WRP (R188, R189): the answer to a last part carries whether it was committed and the cursor index. -/
def wrpRequest (d : List Byte) (s : State) : Answer :=
  match s.setup.cursor with
  | none => { result := .nosel, data := [], state := s }
  | some c =>
    let part := byteAt d 2
    let (r, s') := wrpDecide c part ((d.drop 3).take 5) s
    let data :=
      if part + 1 = tableParts c.table then [byte (bit (r == .ok)), byte ((s'.setup.cursor.map (·.index)).getD 0)] else []
    { result := r, data := data, state := s' }

/-- Five bytes of an entry or an item from part or page `p` on. -/
def pageOf (b : List Byte) (p : Nat) : List Byte := padTo 5 (b.drop (5 * p))

/-- After the last part is read with auto-advance, the cursor moves on and the snapshot is discarded (R190). -/
def afterRead (c : Cursor) (part : Nat) (s : State) : State :=
  if part + 1 = tableParts c.table ∧ c.auto then s.modSetup fun x => { x with cursor := some c.advance, readSnap := none }
  else s

/-- RDP (R190). -/
def rdpRequest (d : List Byte) (s : State) : Answer :=
  match s.setup.cursor with
  | none => { result := .nosel, data := [], state := s }
  | some c =>
    let part := byteAt d 2
    if tableParts c.table ≤ part then { result := .range, data := [], state := s }
    else if part = 0 then
      let e := s.tables.entry c.table c.index
      { result := .ok, data := pageOf e 0,
        state := afterRead c 0 (s.modSetup fun x =>
          { x with readSnap := some { table := c.table, index := c.index, bytes := e } }) }
    else
      match s.setup.readSnap with
      | some r =>
        if r.table = c.table ∧ r.index = c.index then
          { result := .ok, data := pageOf r.bytes part, state := afterRead c part s }
        else { result := .order, data := [], state := s }
      | none => { result := .order, data := [], state := s }

/-! ### The store (R191, R192) -/

/-- The contents a copy's CRC-32 is taken over: its save number and its tables, in table and index order. -/
def copyBytes (n : Nat) (t : Tables) : List Byte :=
  le 4 n ++ ((List.range 13).map fun k => (t.get k).flatten).flatten

/-- A copy with its CRC-32 (section 10.4). -/
def makeCopy (n : Nat) (t : Tables) : ImageCopy where
  saveNumber := n
  tables := t
  crc := crc32 (copyBytes n t)

/-- A copy whose CRC-32 checks. -/
def ImageCopy.checks (c : ImageCopy) : Bool := c.crc == crc32 (copyBytes c.saveNumber c.tables)

/-- The save number of the current image, 0 where there is none. -/
def Store.currentNumber (x : Store) : Nat :=
  match x.current with
  | some k => match x.copies.getD k none with
    | some c => c.saveNumber
    | none => 0
  | none => 0

/-- The copy a save writes: the one that is not current. -/
def Store.target (x : Store) : Nat :=
  match x.current with
  | some 0 => 1
  | _ => 0

/-- A save cut short or failed: its copy's CRC-32, written last, was never written (section 10.4). -/
def Store.tear (x : Store) : Store :=
  if x.writing.isSome then { x with copies := x.copies.set x.target none, writing := none } else x

/-- A request that only the store's state stands before (R191). -/
def whenIdle (s : State) (a : Answer) : Answer := if s.storeBusy then { result := .busy, data := [], state := s } else a

/-- SAV (R191). -/
def savRequest (s : State) : Answer :=
  whenIdle s
    { result := .ok, data := [],
      state := (s.modSetup fun x => { x with store := .saving }).modStore fun x =>
        { x with writing := some (makeCopy (x.currentNumber + 1) s.tables) } }

/-- The class 15 detail: event, reset cause, image state (R196). -/
def nvDetail (event : Nat) (s : State) : List Byte :=
  let cause := match s.power.cause with
    | .powerOn => 0
    | .supplyDip => 1
    | .restart => 2
    | .defaults => 3
  [byte event, byte cause, byte (bit (s.setup.image == .defaults))]

/-- The end of a save (R191). -/
def saveEnds (good : Bool) (s : State) : State :=
  if s.setup.store = .saving then
    let s := s.modSetup fun x => { x with store := .idle }
    if good then
      let n := match s.store.writing with
        | some c => c.saveNumber
        | none => 0
      let s := s.modStore fun x =>
        { x with copies := x.copies.set x.target x.writing, current := some x.target, writing := none }
      let s := s.modSetup fun x =>
        { x with unsaved := List.replicate 13 false, unsavedSettings := List.replicate 4 false, image := .loaded }
      raise .saveDone (le 4 n) s
    else raise .nvFault (nvDetail 0 s) (s.modStore Store.tear)
  else s

/-- LCK meets unsaved edits of what it covers (R192). -/
def State.unsavedLocked (s : State) : Bool :=
  ([1, 5, 9, 10, 11].any fun t => s.setup.unsaved.getD t false)
    || ([0, 1].any fun i => s.setup.unsavedSettings.getD i false)

/-- LCK (R192). -/
def lckRequest (s : State) : Answer :=
  whenIdle s <|
    if s.setup.lock then { result := .ok, data := [], state := s }
    else if s.unsavedLocked then { result := .order, data := [], state := s }
    else { result := .ok, data := [], state := s.modSetup fun x => { x with store := .lockWriting } }

/-- The end of a lock write (R192). -/
def lockWriteEnds (good : Bool) (s : State) : State :=
  if s.setup.store = .lockWriting then
    let s := s.modSetup fun x => { x with store := .idle }
    if good then (s.modStore fun x => { x with mark := .valid }).modSetup fun x => { x with lock := true }
    else raise .nvFault (nvDetail 0 s) s
  else s

/-! ### Restarts and the other requests (R193 to R195) -/

/-- A restart arranged: a DEFAULTS already due is not lost to a later RST (R193, R202). -/
def arrangeRestart (c : ResetCause) (s : State) : State :=
  s.modSetup fun x =>
    match x.restart with
    | some r => { x with restart := some { cause := if r.cause = .defaults then .defaults else c, answerLeft := r.answerLeft } }
    | none => { x with restart := some { cause := c, answerLeft := false } }

/-- DEF (R193). -/
def defRequest (s : State) : Answer := whenIdle s { result := .ok, data := [], state := arrangeRestart .defaults s }

/-- RST (R193). -/
def rstRequest (s : State) : Answer := { result := .ok, data := [], state := arrangeRestart .restart s }

/-- CLR (R194). -/
def clrRequest (d : List Byte) (s : State) : Answer :=
  { result := .ok, data := [], state := clearNotices (BitVec.ofNat 16 (leAt d 2 2)) s }

/-- ACT (R194). MODEL'S CHOICE: a refusal's argument bytes are 0 (assumption 65). -/
def actRequest (d : List Byte) (s : State) : Answer :=
  let code := byteAt d 2
  let a := leSAt d 3 4
  if code = 0 ∨ 13 < code then { result := .unknown, data := [], state := s }
  else
    let s' := handAction .act code a s
    match s.checkAction code a with
    | .take arg => { result := .ok, data := leSOpt 4 arg, state := s' }
    | .refuse => { result := .range, data := [], state := s' }
    | .locked => { result := .locked, data := [], state := s' }

/-- RFR (R194). -/
def rfrRequest (s : State) : Answer := { result := .ok, data := [], state := reframe s }

/-- STA (R195); an item that takes no selector ignores it. -/
def staRequest (d : List Byte) (s : State) : Answer :=
  let item := byteAt d 2
  let page := byteAt d 4
  match selectors item with
  | none => { result := .unknown, data := [], state := s }
  | some n =>
    let sel := if n = 0 then 0 else byteAt d 3
    if n ≠ 0 ∧ n ≤ sel then { result := .range, data := [], state := s }
    else
      let b := s.itemBytes item sel
      if b.length ≤ 5 * page then { result := .range, data := [], state := s }
      else if page = 0 then
        { result := .ok, data := pageOf b 0,
          state := s.modSetup fun x => { x with statusSnap := some { item := item, selector := sel, bytes := b } } }
      else
        match s.setup.statusSnap with
        | some g =>
          if g.item = item ∧ g.selector = sel then { result := .ok, data := pageOf g.bytes page, state := s }
          else { result := .order, data := [], state := s }
        | none => { result := .order, data := [], state := s }

end Sys2Proof.Machine
end

