-- ==== Sys2Proof/Machine/PowerStates.lean ====
section
/-! DEFINITION. Machine/PowerStates.lean: the power states (sections 11.3), the minute tick as a whole, resets and start-up
(sections 11.4 and 11.5). -/

namespace Sys2Proof.Machine

/-! ### RUN, QUIET and STANDBY (R199, R200) -/

/-- A CAN activity report (R199): the quiet timer starts again, and QUIET becomes RUN, where a frame falls due if any flag is
sendable (R198). -/
def canActivity (s : State) : State :=
  let was := s.power.state
  let s := s.modPower fun p => { p with quietTimer := some 0, state := if p.state = .quiet then .run else p.state }
  if was = .quiet then noticeDueIfAny (s.modPower fun p => { p with standbyTimer := none }) else s

/-- The quiet timer expires: RUN becomes QUIET; in QUIET it does nothing more (R199). -/
def quietExpires (s : State) : State :=
  let was := s.power.state
  let s := s.modPower fun p => { p with quietTimer := none, state := if p.state = .run then .quiet else p.state }
  if was = .run then (if s.sendable = 0 then recomposeWaiting s else noticeDue s) else s

/-- Entry to STANDBY, every block doing its part (R200); the round in progress on the loop goes on to its end (R21). -/
def enterStandby (s : State) : State :=
  let s := s.modPower fun p => { p with state := .standby, standbyTimer := none, quietTimer := none }
  let s := (s.modBus Bus.sleep).modNotices fun n => { n with waiting := none }
  lightSleep (energySleep (s.modTx fun t => { t with finishing := true }))

/-- FRESH signals turn STALE at a wake, each consumer told (R13). -/
def signalsWake (s : State) : State := s.forEach (List.range 32) turnStale

/-- A wake (R201). -/
def wake (st : PowerState) (s : State) : State :=
  let s := s.modPower fun p => { p with state := st, quietTimer := some 0 }
  noticeDueIfAny (startTransmit (signalsWake (loopWake s)))

/-- An edge matches the wake-line edge setting (R197, R201). -/
def State.edgeMatches (s : State) : WakeEdge → Bool
  | .rising => s.wakeEdge == 1 || s.wakeEdge == 3
  | .falling => s.wakeEdge == 2 || s.wakeEdge == 3

/-- The handling of a STANDBY minute tick calls for a wake (R201): the queue head is due soon, or a warning became active, or a
PREHEAT or SUNRISE was handed over. -/
def wakeCalled (before after : State) : Bool :=
  (match after.ret.queue with
   | [] => false
   | w :: _ => decide (w.due ≤ after.ret.clock + 5))
    || (after.ret.active.isSome && after.ret.active != before.ret.active)
    || (after.ret.preheat.any (·.isOpen) && after.ret.preheat != before.ret.preheat)
    || (after.restRec.sunriseGiven && !before.restRec.sunriseGiven)

/-- A minute tick: the rest clock's part in the order of R161, then the heater's (R110, R114) and the accountant's (R86); in STANDBY
it may wake the part (R201). -/
def minutePasses (s : State) : State :=
  let t := energyMinute (heaterMinute (restMinute s))
  if s.power.state = .standby ∧ wakeCalled s t then wake .quiet t else t

/-! ### Resets (R202) -/

/-- The cause that stands when a reset comes during start-up: POWER_ON over the others, DEFAULTS over SUPPLY_DIP and RESTART. -/
def moreSevere (old new : ResetCause) : ResetCause :=
  match old, new with
  | .powerOn, _ => .powerOn
  | _, .powerOn => .powerOn
  | .defaults, _ => .defaults
  | _, c => c

/-- A reset of a cause (R202): every block stops where it stands, a store write is cut short, and only the store, the retention area
(but for POWER_ON) and the commands still waiting outside are left. MODEL'S CHOICE: a reset that meets a running part takes its own cause,
also where RST or DEF has arranged a restart, whose erase is then not made (assumption 69). -/
def resetWith (c : ResetCause) (s : State) : State :=
  let cause := if s.phase = .held then moreSevere s.power.cause c else c
  State.heldIn cause s.store.tear (if cause = .powerOn then Retention.init 45000 else s.ret) s.pending

/-- The restart that RST or DEF arranged (R193). -/
def restartNow (s : State) : State :=
  match s.setup.restart with
  | some r => resetWith r.cause s
  | none => s

/-! ### Start-up (R203, R204) -/

/-- Both copies and the lock mark erased (R193, R203). -/
def Store.erased (x : Store) : Store := { x with copies := [none, none], current := none, mark := .absent }

/-- The store as start-up finds it: a damaged copy no longer checks, a damaged mark is not valid. -/
def Store.damaged (x : Store) (d : StoreDamage) : Store :=
  { x with
    copies := [if d.copy0 then none else x.copies.getD 0 none, if d.copy1 then none else x.copies.getD 1 none]
    mark := if d.mark && x.mark != .absent then .invalid else x.mark }

/-- A copy that is present and checks. -/
def Store.good (x : Store) (k : Nat) : Option ImageCopy :=
  match x.copies.getD k none with
  | some c => if c.checks then some c else none
  | none => none

/-- The copy with the higher save number among those that check (section 10.4). -/
def Store.best (x : Store) : Option Nat :=
  match x.good 0, x.good 1 with
  | some a, some b => if a.saveNumber < b.saveNumber then some 1 else some 0
  | some _, none => some 0
  | none, some _ => some 1
  | none, none => none

/-- What steps 1 to 4 of start-up find: the store, the tables, the image state, the lock and the reported cause. -/
structure Loaded where
  store : Store
  tables : Tables
  image : ImageState
  lock : Bool
  cause : ResetCause

/-- Start-up carried on as a DEFAULTS start-up (R203, steps 3 and 4). MODEL'S CHOICE: it erases both copies, also where only the lock mark
is not valid (assumption 49). -/
def loadDefaults (x : Store) (c : ResetCause) : Loaded where
  store := x.erased
  tables := defaultTables
  image := .defaults
  lock := false
  cause := if c = .powerOn then .powerOn else .defaults

/-- Steps 1 to 4 of start-up (R203). -/
def loadImage (c : ResetCause) (x : Store) : Loaded :=
  let x := if c = .defaults then x.erased else x
  match x.best with
  | none => loadDefaults x c
  | some k =>
    match x.good k, x.mark with
    | none, _ => loadDefaults x c
    | _, .invalid => loadDefaults x c
    | some i, m =>
      { store := { x with current := some k }, tables := i.tables, image := .loaded, lock := m == .valid, cause := c }

/-- Step 6 of start-up: each block takes its start-up values (R203). -/
def blocksStartUp (s : State) : State :=
  let s := nodesStartUp s
  let s := s.forEach s.validEntries setUpEntry
  let s := energyStartUp (s.power.cause == .powerOn) s
  let s := egressStartUp s
  let s := s.modPanel fun p => { p with backlight := s.lightSettings.dayBacklight }
  let s := fridgeStartUp (heaterStartUp s)
  heaterRefresh (restStartUp s)

/-- Step 7 of start-up: the loop starts and reception opens (R203, R204). -/
def openReception (s : State) : State :=
  let s := startTransmit s
  let s := raise .nvFault (nvDetail (if s.setup.image = .defaults then 1 else 2) s) s
  let s := if s.heater.state = .lockout then
      raise .heaterLockout (byte s.ret.failedStarts :: allOnes 1 ++ [byte 1]) s
    else s
  noticeDueIfAny <| { s with phase := .running }.modPower fun p => { p with state := .run, quietTimer := some 0 }

/-- Start-up as a whole (R203): the store's damage found, the image loaded, the retention area checked, the blocks started, and
reception opened. -/
def startUpWith (d : StoreDamage) (s : State) : State :=
  let l := loadImage s.power.cause (s.store.damaged d)
  let lost := l.cause ≠ .powerOn ∧ d.retention
  let s := { s with store := l.store, tables := l.tables }
  let s := s.modSetup fun x => { x with image := l.image, lock := l.lock }
  let s := s.modPower fun p => { p with cause := if lost then .powerOn else l.cause }
  let s := if lost then s.modRet fun _ => Retention.init s.energySettings.capacity else s
  openReception (blocksStartUp s)

end Sys2Proof.Machine
end

