-- ==== Sys2Proof/Machine/Settle.lean ====
section
/-! DEFINITION. Machine/Settle.lean: the steps that follow of themselves from what another step has counted, and what every command
from outside does about them (assumption 2).

A row of the table such as SIGNAL_STALE or LEVEL_ASSERT is a whole step that comes about as soon as a count, an age or a mark has made it
due. It can be commanded by its own row, and every command from outside first takes the steps that are due. -/

namespace Sys2Proof.Machine

/-! ### The steps that follow -/

/-- SIGNAL_STALE: a FRESH signal that has reached its age limit turns STALE (R13). -/
def signalStaleStep (n : Nat) (s : State) : State := if s.staleDue n then qualify (turnStale n s) else s

/-- BUS_OFF that follows: the transmit error count has passed 255 (R20). -/
def busOffStep (s : State) : State :=
  if 255 < s.bus.txErrors ∧ ¬ s.bus.busOff then s.modBus Bus.goOff else s

/-- PRIORITY_FRAME_ADMITTED: a waiting frame takes a place that has freed, while the cab receiver is on (R19). -/
def admissionStep (s : State) : State := if s.awake then admitWaiting s else s

/-- BATTERY_BLIND_SET (R84). -/
def blindStep (s : State) : State :=
  if s.energy.blindDue then s.modEnergy fun e => { e with blind := true, blindDue := false } else s

/-- LOOP_FAILED_ASSERT (R31). -/
def loopFailedStep (s : State) : State := if s.tx.failedDue then qualify (loopFails s) else s

/-- ERROR_WINDOW_END (R32). -/
def windowEndStep (s : State) : State := if 16 ≤ s.tx.windowCycles then windowEnd s else s

/-- COMMAND_STALL (R35). -/
def commandStallStep (p : Nat) (s : State) : State :=
  if (s.loopPos p).stallDue then s.modLoopPos p fun x => { x with stall := true } else s

/-- STATUS_MESSAGE: the oldest complete message is tested (R34). -/
def statusMessageStep (s : State) : State := takeMessage s

/-- RECEIVED_CYCLE_END (R38, R39, R43): taken once the cycle's messages have all been tested. -/
def receivedCycleEndStep (s : State) : State :=
  if s.rx.endDue ∧ s.rx.ready = [] then receivedCycleEnds s else s

/-- NODE_PRESENT (R38). -/
def nodePresentStep (p : Nat) (s : State) : State := if (s.node p).presentDue then gainNode p s else s

/-- NODE_LOST (R38). -/
def nodeLostStep (p : Nat) (s : State) : State := if (s.node p).lostDue then loseNode .lost p s else s

/-- ESTIMATE_WINDOW_CLOSE: the window has run its 3750 cycles (R103). -/
def estimateCloseStep (s : State) : State :=
  if s.energy.window.any (fun n => decide (3750 ≤ n)) then s.modEnergy fun e => { e with window := none } else s

/-- LEVEL_ASSERT (R101). -/
def levelAssertStep (l : WatchLevel) (s : State) : State := if s.assertDue l then qualify (assertLevel l s) else s

/-- LEVEL_CLEAR (R101, R69). -/
def levelClearStep (l : WatchLevel) (s : State) : State := if s.clearDue l then qualify (clearLevel l s) else s

/-- FULL_CHARGE_EVENT (R105). -/
def fullChargeStep (s : State) : State := if 7500 ≤ s.energy.fullCount then fullCharge s else s

/-- MANUAL_LIMIT_EXPIRY (R110). -/
def manualLimitStep (s : State) : State := if s.heater.manualDue then qualify (manualExpires s) else s

/-- PREHEAT_WINDOW_CLOSE (R114, R176). -/
def preheatCloseStep (s : State) : State := if s.heater.windowDue then qualify (windowExpires s) else s

/-! ### Settling -/

/-- The pass of the egress scheduler carried to its end. -/
def egressSettle : Nat → State → State
  | 0, s => s
  | n + 1, s => if s.egress.passAt.isSome then egressSettle n (countdownExpires s) else s

/-- The loop's, the heater's and the accountant's steps that are due. -/
def dueSteps (s : State) : State :=
  let s := s.forEach (List.range 32) signalStaleStep
  let s := drainReceived s
  let s := levelClearStep .low (levelAssertStep .low (levelClearStep .cutoff (levelAssertStep .cutoff s)))
  let s := estimateCloseStep (blindStep (fullChargeStep s))
  let s := s.forEach positions commandStallStep
  let s := loopFailedStep (windowEndStep s)
  preheatCloseStep (manualLimitStep s)

/-- Every step that is due taken, in one fixed order; a restart whose answer has left comes before all else (R193). -/
def settle (s : State) : State :=
  if s.phase = .held then s
  else if s.setup.restart.any (·.answerLeft) then restartNow s
  else admissionStep (admissionStep (dueSteps (egressSettle 17 (admissionStep (admissionStep (busOffStep s))))))

/-- A command from outside: what is due is settled, then the command is taken while the part runs, and the standby conditions are
looked at again (R200). -/
def external (f : State → State) (s : State) : State :=
  let s := settle s
  if s.phase = .held then s else qualify (f s)

/-- A step that follows, commanded by its own row. -/
def internal (f : State → State) (s : State) : State := if s.phase = .held then s else qualify (f s)

/-! ### Seconds (assumption 3) -/

/-- A timer that runs has expired. -/
def whenRuns (t : Option Nat) (f : State → State) (s : State) : State := if t.isSome then f s else s

/-- The surge limit of the holder expires (R75). -/
def surgeLimitExpires (s : State) : State :=
  match s.roster.holder with
  | some h => surgeDone h.entry s
  | none => s

/-- The ignition timer expires: the start fails (R119). -/
def ignitionExpires (s : State) : State :=
  if s.heater.state = .starting then heaterRefresh (heaterFails false s) else s

/-- The repeat timer of the notice unit expires (R198). -/
def noticeRepeatExpires (s : State) : State :=
  if s.sendable = 0 then s.modNotices fun n => { n with repeatTimer := none } else noticeDue s

/-- The bus is rejoined one second after bus-off (R20). -/
def rejoinBus (s : State) : State := if s.bus.busOff then s.modBus Bus.rejoin else s

/-- The protect timer still counts: it has not reached 600 s (R139). -/
def State.protectRuns (s : State) : Bool := s.fridge.protectTimer.any fun n => decide (n < 600)

/-- One second added to a timer that runs; the protect timer stops at 600 s. -/
def countSecond (s : State) : State :=
  let up (t : Option Nat) : Option Nat := t.map (· + 1)
  let s := s.modRoster fun r => { r with holder := r.holder.map fun h => { h with elapsed := h.elapsed + 1 } }
  let s := s.modHeater fun h => { h with levelHold := up h.levelHold, ignition := up h.ignition, purge := up h.purge }
  let s := s.modFridge fun f =>
    { f with
      minOn := up f.minOn, minOff := up f.minOff, surgeHold := up f.surgeHold,
      protectTimer := if s.protectRuns then up f.protectTimer else f.protectTimer }
  let s := s.modRest fun r => { r with repeatTimer := up r.repeatTimer }
  let s := s.modNotices fun n => { n with repeatTimer := up n.repeatTimer }
  s.modPower fun p => { p with quietTimer := up p.quietTimer, standbyTimer := up p.standbyTimer }

/-- A timer has reached its limit. -/
def reached (limit : Nat) (t : Option Nat) : Bool := t.any fun n => decide (limit ≤ n)

/-- One second passes while no command waits: every second timer counts, and those that reach their limits expire, each as its own
row has it; a round that STANDBY found in progress is over by then (R21). -/
def secondPasses (s : State) : State :=
  let off := s.bus.busOff
  let restarting := s.setup.restart.isSome
  let protecting := s.protectRuns
  let s := countSecond (roundEnds s)
  let s := if off then rejoinBus s else s
  let s := if s.roster.holder.any (fun h => decide (h.limit ≤ h.elapsed)) then qualify (surgeLimitExpires s) else s
  let s := if reached 150 s.heater.ignition then qualify (ignitionExpires s) else s
  let s := if reached 240 s.heater.purge then qualify (purgeExpires s) else s
  let s := if reached 60 s.heater.levelHold then qualify (levelHoldExpires s) else s
  let s := if reached 2 s.fridge.surgeHold then qualify (surgeHoldExpires s) else s
  let s := if reached 60 s.fridge.minOn then qualify (minimumOnExpires s) else s
  let s := if reached 180 s.fridge.minOff then qualify (minimumOffExpires s) else s
  let s := if protecting && reached 600 s.fridge.protectTimer then qualify (protectExpires s) else s
  let s := if reached s.rest.repeatLimit s.rest.repeatTimer then qualify (repeatExpires s) else s
  let s := if reached 1 s.notices.repeatTimer then noticeRepeatExpires s else s
  let s := if reached 10 s.power.quietTimer then quietExpires s else s
  let s := qualify s
  let s := if reached 60 s.power.standbyTimer then enterStandby s else s
  if restarting then restartNow s else s

end Sys2Proof.Machine
end

