-- ==== Sys2Proof/Machine/BerthLoop.lean ====
section
/-! DEFINITION. Machine/BerthLoop.lean: the commands of the berth loop (chapter 2). -/

namespace Sys2Proof.Machine

/-- A transmit cycle boundary: the cycle that ends is dealt with, then the next one starts (R22). In STANDBY no cycle starts (R21). -/
def transmitCycle (s : State) : State := if s.awake then beginCycle (endCycle s) else roundEnds s

/-- The bits received during one transmit round, while the loop runs (R24, R30). In STANDBY none is looked at, and the round ends (R21). -/
def receivedRound (bits : BitVec 121) (s : State) : State := if s.awake then receiveRound bits s else roundEnds s

/-- TRANSMIT_CYCLE (R21, R22). -/
def execTransmitCycle (s : State) : Host.Outcome State Fault Refusal :=
  .next (external transmitCycle s)

/-- LOOP_FAILED_ASSERT (R31, R40). -/
def execLoopFailedAssert (s : State) : Host.Outcome State Fault Refusal :=
  .next (internal loopFailedStep s)

/-- ERROR_WINDOW_END (R32). -/
def execErrorWindowEnd (s : State) : Host.Outcome State Fault Refusal :=
  .next (internal windowEndStep s)

/-- COMMAND_STALL of a position (R35). -/
def execCommandStall (p : Fin 12) (s : State) : Host.Outcome State Fault Refusal :=
  .next (internal (commandStallStep p.val) s)

/-- RECEIVED_ROUND (R24 to R33). -/
def execReceivedRound (bits : BitVec 121) (s : State) : Host.Outcome State Fault Refusal :=
  .next (external (receivedRound bits) s)

/-- RECEIVED_CYCLE_END (R38, R39, R43). -/
def execReceivedCycleEnd (s : State) : Host.Outcome State Fault Refusal :=
  .next (internal receivedCycleEndStep s)

/-- STATUS_MESSAGE (R34, R35, R41 to R43). -/
def execStatusMessage (s : State) : Host.Outcome State Fault Refusal :=
  .next (internal statusMessageStep s)

/-- NODE_PRESENT of a position (R38). -/
def execNodePresent (p : Fin 12) (s : State) : Host.Outcome State Fault Refusal :=
  .next (internal (nodePresentStep p.val) s)

/-- NODE_LOST of a position (R38). -/
def execNodeLost (p : Fin 12) (s : State) : Host.Outcome State Fault Refusal :=
  .next (internal (nodeLostStep p.val) s)

end Sys2Proof.Machine
end

