-- ==== Sys2Proof/WellFormed.lean ====
section
/-! DEFINITION. WellFormed.lean: which commands can exist at all. -/

namespace Sys2Proof

/-- A CAN frame: at most 8 data bytes, none in a remote frame, and an 11-bit identifier unless it is extended (R1). -/
def CanFrame.wellFormed (f : CanFrame) : Bool :=
  decide (f.data.length ≤ 8) && (!f.remote || f.data.isEmpty) && (f.extended || decide (f.ident.toNat < 2048))

/-- The supply events and restarts that RESET takes are all four causes; every other operand is in range by its
type, so a received frame is the one operand that can be ill formed. -/
def Instr.wellFormed : Instr → Bool
  | .frameReceived f => f.wellFormed
  | _ => true

end Sys2Proof
end

