-- ==== Sys2Proof/Machine/CabBus.lean ====
section
/-! DEFINITION. Machine/CabBus.lean: the commands of the cab bus, the signal store and the egress scheduler (chapter 1). -/

namespace Sys2Proof.Machine

/-- FRAME_RECEIVED (R1, R3): while the part runs awake and is not bus-off, activity is reported and an extended data frame is offered
to the receive queue; a correct reception lowers the receive error count, as CAN has it (assumption 8). -/
def frameReceived (f : CanFrame) (s : State) : State :=
  if s.awake && !s.bus.busOff then
    let s := canActivity (s.modBus fun b => { b with rxErrors := b.rxErrors - 1 })
    if f.extended && !f.remote then offerReceived { ident := f.ident, data := f.data } s else s
  else s

/-- The head of the receive queue taken by the matcher, unless it is a setup frame (R4). -/
def ingressTakes (s : State) : State :=
  match s.bus.rxQueue with
  | f :: _ => if s.awake && !s.isSetupFrame f then matchFrame f (dropReceived s) else s
  | [] => s

/-- The frame being transmitted has been sent (R20); the answer to RST or DEF lets the restart go on (R193). -/
def transmitted (s : State) : State :=
  match s.bus.current with
  | some f =>
    let s := s.modBus Bus.sent
    if f.restart then s.modSetup fun x => { x with restart := x.restart.map fun r => { r with answerLeft := true } } else s
  | none => s

/-- One age tick of the signal store (R13), which stops in STANDBY. -/
def ageTick (s : State) : State := if s.awake then s.modSignals (·.map SignalRec.tick) else s

/-- The interface goes bus-off (R20). -/
def goBusOff (s : State) : State := if s.awake && !s.bus.busOff then s.modBus Bus.goOff else s

/-- FRAME_RECEIVED (R1). An operand that is no CAN frame is refused. -/
def execFrameReceived (f : CanFrame) (s : State) : Host.Outcome State Fault Refusal :=
  if f.wellFormed then .next (external (frameReceived f) s) else .refused .illFormedFrame

/-- INGRESS_MATCH (R4 to R10). -/
def execIngressMatch (s : State) : Host.Outcome State Fault Refusal :=
  .next (external ingressTakes s)

/-- SIGNAL_AGE_TICK (R13). -/
def execSignalAgeTick (s : State) : Host.Outcome State Fault Refusal :=
  .next (external ageTick s)

/-- SIGNAL_STALE of a signal (R13). -/
def execSignalStale (n : Fin 32) (s : State) : Host.Outcome State Fault Refusal :=
  .next (internal (signalStaleStep n.val) s)

/-- EGRESS_PASS (R15, R17). -/
def execEgressPass (s : State) : Host.Outcome State Fault Refusal :=
  .next (external (passOver entries) s)

/-- EGRESS_COUNTDOWN_EXPIRY (R15): the entry at which the pass stands. -/
def execEgressCountdownExpiry (s : State) : Host.Outcome State Fault Refusal :=
  .next (internal countdownExpires s)

/-- FRAME_TRANSMITTED (R20). -/
def execFrameTransmitted (s : State) : Host.Outcome State Fault Refusal :=
  .next (external transmitted s)

/-- TRANSMIT_ERROR (R20): a lost arbitration, or a bus error. -/
def execTransmitError (busError : Bool) (s : State) : Host.Outcome State Fault Refusal :=
  .next (external (fun t => t.modBus (·.sendFailed busError)) s)

/-- BUS_OFF (R20). -/
def execBusOff (s : State) : Host.Outcome State Fault Refusal :=
  .next (internal goBusOff s)

/-- BUS_OFF_RECOVERY (R20), one second after bus-off. -/
def execBusOffRecovery (s : State) : Host.Outcome State Fault Refusal :=
  .next (external rejoinBus s)

/-- PRIORITY_FRAME_ADMITTED (R19). -/
def execPriorityFrameAdmitted (s : State) : Host.Outcome State Fault Refusal :=
  .next (internal admissionStep s)

end Sys2Proof.Machine
end

