-- ==== Sys2Proof/Machine/Climate.lean ====
section
/-! DEFINITION. Machine/Climate.lean: the commands of the heater and fridge controllers (chapters 6 and 7). -/

namespace Sys2Proof.Machine

/-- IGNITION_TIMEOUT (R119). -/
def execIgnitionTimeout (s : State) : Host.Outcome State Fault Refusal :=
  .next (external (fun t => whenRuns t.heater.ignition ignitionExpires t) s)

/-- PURGE_LIMIT (R124). -/
def execPurgeLimit (s : State) : Host.Outcome State Fault Refusal :=
  .next (external (fun t => whenRuns t.heater.purge purgeExpires t) s)

/-- LEVEL_HOLD_EXPIRY (R116). -/
def execLevelHoldExpiry (s : State) : Host.Outcome State Fault Refusal :=
  .next (external (fun t => whenRuns t.heater.levelHold levelHoldExpires t) s)

/-- MANUAL_LIMIT_EXPIRY (R110). -/
def execManualLimitExpiry (s : State) : Host.Outcome State Fault Refusal :=
  .next (internal manualLimitStep s)

/-- PREHEAT_WINDOW_CLOSE (R114, R176). -/
def execPreheatWindowClose (s : State) : Host.Outcome State Fault Refusal :=
  .next (internal preheatCloseStep s)

/-- MINIMUM_ON_EXPIRY (R135). -/
def execMinimumOnExpiry (s : State) : Host.Outcome State Fault Refusal :=
  .next (external (fun t => whenRuns t.fridge.minOn minimumOnExpires t) s)

/-- MINIMUM_OFF_EXPIRY (R134, R136). -/
def execMinimumOffExpiry (s : State) : Host.Outcome State Fault Refusal :=
  .next (external (fun t => whenRuns t.fridge.minOff minimumOffExpires t) s)

/-- SURGE_HOLD_EXPIRY (R135). -/
def execSurgeHoldExpiry (s : State) : Host.Outcome State Fault Refusal :=
  .next (external (fun t => whenRuns t.fridge.surgeHold surgeHoldExpires t) s)

/-- PROTECT_TIMER_EXPIRY (R139). -/
def execProtectTimerExpiry (s : State) : Host.Outcome State Fault Refusal :=
  .next (external (fun t => if t.protectRuns then protectExpires t else t) s)

end Sys2Proof.Machine
end

