-- ==== Sys2Proof/Machine/NightBudget.lean ====
section
/-! DEFINITION. Machine/NightBudget.lean: the commands of the energy accountant and the load roster (chapters 4 and 5). -/

namespace Sys2Proof.Machine

/-- A budget tick, in RUN and QUIET (R95). -/
def budgetTick (s : State) : State := if s.awake then budgetTickBody s else s

/-- BATTERY_BLIND_SET (R84). -/
def execBatteryBlindSet (s : State) : Host.Outcome State Fault Refusal :=
  .next (internal blindStep s)

/-- ESTIMATE_WINDOW_CLOSE (R103). -/
def execEstimateWindowClose (s : State) : Host.Outcome State Fault Refusal :=
  .next (internal estimateCloseStep s)

/-- LEVEL_ASSERT of a level (R101). -/
def execLevelAssert (l : WatchLevel) (s : State) : Host.Outcome State Fault Refusal :=
  .next (internal (levelAssertStep l) s)

/-- LEVEL_CLEAR of a level (R101, R69). -/
def execLevelClear (l : WatchLevel) (s : State) : Host.Outcome State Fault Refusal :=
  .next (internal (levelClearStep l) s)

/-- FULL_CHARGE_EVENT (R105). -/
def execFullChargeEvent (s : State) : Host.Outcome State Fault Refusal :=
  .next (internal fullChargeStep s)

/-- BUDGET_TICK (R95). -/
def execBudgetTick (s : State) : Host.Outcome State Fault Refusal :=
  .next (external budgetTick s)

/-- SURGE_LIMIT_EXPIRY (R75). -/
def execSurgeLimitExpiry (s : State) : Host.Outcome State Fault Refusal :=
  .next (external surgeLimitExpires s)

end Sys2Proof.Machine
end

