-- ==== Sys2Proof/Machine/SetupChannel.lean ====
section
/-! DEFINITION. Machine/SetupChannel.lean: the commands of the setup channel and the store (chapter 10). -/

namespace Sys2Proof.Machine

/-- A setup frame without a tag is discarded without an answer (R184). -/
def discardNoTag (s : State) : State :=
  match s.setupHead with
  | some d => if d.length < 2 then dropReceived s else s
  | none => s

/-- A request code the part does not know is answered UNKNOWN (R184). -/
def answerUnknown (s : State) : State :=
  match s.setupHead with
  | some d =>
    if 2 ≤ d.length ∧ shortestLength (requestCode d) = none then
      answer false d (fun t => { result := .unknown, data := [], state := t }) s
    else s
  | none => s

/-- SETUP_NO_TAG (R184). -/
def execSetupNoTag (s : State) : Host.Outcome State Fault Refusal :=
  .next (external discardNoTag s)

/-- UNKNOWN_REQUEST (R184). -/
def execUnknownRequest (s : State) : Host.Outcome State Fault Refusal :=
  .next (external answerUnknown s)

/-- ID (R194): the request at the head of the receive queue. -/
def execIdReq (s : State) : Host.Outcome State Fault Refusal :=
  .next (external (onRequest 0x01 false (fun _ t => idRequest t)) s)

/-- SEL (R187): the request at the head of the receive queue. -/
def execSelReq (s : State) : Host.Outcome State Fault Refusal :=
  .next (external (onRequest 0x02 false selRequest) s)

/-- WRP (R188, R189): the request at the head of the receive queue. -/
def execWrpReq (s : State) : Host.Outcome State Fault Refusal :=
  .next (external (onRequest 0x03 false wrpRequest) s)

/-- RDP (R190): the request at the head of the receive queue. -/
def execRdpReq (s : State) : Host.Outcome State Fault Refusal :=
  .next (external (onRequest 0x04 false rdpRequest) s)

/-- SAV (R191): the request at the head of the receive queue. -/
def execSavReq (s : State) : Host.Outcome State Fault Refusal :=
  .next (external (onRequest 0x05 false (fun _ t => savRequest t)) s)

/-- SAVE_COMPLETE (R191): the save's write and check have succeeded or failed. -/
def execSaveComplete (ok : Bool) (s : State) : Host.Outcome State Fault Refusal :=
  .next (external (saveEnds ok) s)

/-- DEF (R193). -/
def execDefReq (s : State) : Host.Outcome State Fault Refusal :=
  .next (external (onRequest 0x06 true (fun _ t => defRequest t)) s)

/-- LCK (R192). -/
def execLckReq (s : State) : Host.Outcome State Fault Refusal :=
  .next (external (onRequest 0x07 false (fun _ t => lckRequest t)) s)

/-- LOCK_WRITE_COMPLETE (R192): the lock mark's write has succeeded or failed. -/
def execLockWriteComplete (ok : Bool) (s : State) : Host.Outcome State Fault Refusal :=
  .next (external (lockWriteEnds ok) s)

/-- CLR (R194, R196). -/
def execClrReq (s : State) : Host.Outcome State Fault Refusal :=
  .next (external (onRequest 0x08 false clrRequest) s)

/-- ACT (R194, R52). -/
def execActReq (s : State) : Host.Outcome State Fault Refusal :=
  .next (external (onRequest 0x09 false actRequest) s)

/-- RFR (R194, R28). -/
def execRfrReq (s : State) : Host.Outcome State Fault Refusal :=
  .next (external (onRequest 0x0A false (fun _ t => rfrRequest t)) s)

/-- RST (R193). -/
def execRstReq (s : State) : Host.Outcome State Fault Refusal :=
  .next (external (onRequest 0x0B true (fun _ t => rstRequest t)) s)

/-- RESTART_TRIGGER (R193): the answer has left, or one second has passed. -/
def execRestartTrigger (s : State) : Host.Outcome State Fault Refusal :=
  .next (internal restartNow s)

/-- STA (R195). -/
def execStaReq (s : State) : Host.Outcome State Fault Refusal :=
  .next (external (onRequest 0x0C false staRequest) s)

end Sys2Proof.Machine
end

