-- ==== Sys2Proof/Machine/Supervision.lean ====
section
/-! DEFINITION. Machine/Supervision.lean: the commands of the minute clock, the warnings, the notices, the power states, resets and start-up (chapters 9 and 11). -/

namespace Sys2Proof.Machine

/-- The standby qualification timer has run its 60 s with its conditions holding (R200). -/
def standbyExpires (s : State) : State := if (qualify s).power.standbyTimer.isSome then enterStandby s else s

/-- CAN activity seen by the wake detector wakes the part to RUN (R201); awake and on the bus, it is an activity report (R199). -/
def canWakes (s : State) : State :=
  if s.power.state = .standby then wake .run s
  else if s.bus.busOff then s
  else canActivity s

/-- An edge on the panel wake line wakes a part in STANDBY whose setting it matches to QUIET (R201). -/
def wakeLine (e : WakeEdge) (s : State) : State :=
  if s.power.state = .standby ∧ s.edgeMatches e then wake .quiet s else s

/-- MINUTE_TICK (R161, R166, R86, R110, R114, R201). -/
def execMinuteTick (s : State) : Host.Outcome State Fault Refusal :=
  .next (external minutePasses s)

/-- REPEAT_TIMER_EXPIRY (R180). -/
def execRepeatTimerExpiry (s : State) : Host.Outcome State Fault Refusal :=
  .next (external (fun t => whenRuns t.rest.repeatTimer repeatExpires t) s)

/-- NOTICE_REPEAT (R198). -/
def execNoticeRepeat (s : State) : Host.Outcome State Fault Refusal :=
  .next (external (fun t => whenRuns t.notices.repeatTimer noticeRepeatExpires t) s)

/-- QUIET_TIMER_EXPIRY (R199). -/
def execQuietTimerExpiry (s : State) : Host.Outcome State Fault Refusal :=
  .next (external (fun t => whenRuns t.power.quietTimer quietExpires t) s)

/-- STANDBY_ENTRY (R200). -/
def execStandbyEntry (s : State) : Host.Outcome State Fault Refusal :=
  .next (external standbyExpires s)

/-- CAN_WAKE (R201, R1). -/
def execCanWake (s : State) : Host.Outcome State Fault Refusal :=
  .next (external canWakes s)

/-- WAKE_LINE_EDGE (R201). -/
def execWakeLineEdge (e : WakeEdge) (s : State) : Host.Outcome State Fault Refusal :=
  .next (external (wakeLine e) s)

/-- RESET of a cause (R202). -/
def execReset (c : ResetCause) (s : State) : Host.Outcome State Fault Refusal :=
  .next (resetWith c s)

/-- START_UP (R203, R204), which follows a reset; a part that runs has none to make. -/
def execStartUp (d : StoreDamage) (s : State) : Host.Outcome State Fault Refusal :=
  .next (if s.phase = .held then qualify (startUpWith d s) else s)

end Sys2Proof.Machine
end

