-- ==== Sys2Proof/Machine/Dispatch.lean ====
section
/-! DEFINITION. Machine/Dispatch.lean: one arm per row of spec/opcode_table.json, in the table's order. -/

namespace Sys2Proof.Machine

/-- The effect of a command on everything but the queue of waiting commands. -/
def exec (i : Instr) (s : State) : Host.Outcome State Fault Refusal :=
  match i with
  | .frameReceived f => Sys2Proof.Machine.execFrameReceived f s
  | .ingressMatch => Sys2Proof.Machine.execIngressMatch s
  | .setupNoTag => Sys2Proof.Machine.execSetupNoTag s
  | .unknownRequest => Sys2Proof.Machine.execUnknownRequest s
  | .idReq => Sys2Proof.Machine.execIdReq s
  | .selReq => Sys2Proof.Machine.execSelReq s
  | .wrpReq => Sys2Proof.Machine.execWrpReq s
  | .rdpReq => Sys2Proof.Machine.execRdpReq s
  | .savReq => Sys2Proof.Machine.execSavReq s
  | .saveComplete ok => Sys2Proof.Machine.execSaveComplete ok s
  | .defReq => Sys2Proof.Machine.execDefReq s
  | .lckReq => Sys2Proof.Machine.execLckReq s
  | .lockWriteComplete ok => Sys2Proof.Machine.execLockWriteComplete ok s
  | .clrReq => Sys2Proof.Machine.execClrReq s
  | .actReq => Sys2Proof.Machine.execActReq s
  | .rfrReq => Sys2Proof.Machine.execRfrReq s
  | .rstReq => Sys2Proof.Machine.execRstReq s
  | .restartTrigger => Sys2Proof.Machine.execRestartTrigger s
  | .staReq => Sys2Proof.Machine.execStaReq s
  | .signalAgeTick => Sys2Proof.Machine.execSignalAgeTick s
  | .signalStale n => Sys2Proof.Machine.execSignalStale n s
  | .egressPass => Sys2Proof.Machine.execEgressPass s
  | .egressCountdownExpiry => Sys2Proof.Machine.execEgressCountdownExpiry s
  | .frameTransmitted => Sys2Proof.Machine.execFrameTransmitted s
  | .transmitError busError => Sys2Proof.Machine.execTransmitError busError s
  | .busOff => Sys2Proof.Machine.execBusOff s
  | .busOffRecovery => Sys2Proof.Machine.execBusOffRecovery s
  | .priorityFrameAdmitted => Sys2Proof.Machine.execPriorityFrameAdmitted s
  | .transmitCycle => Sys2Proof.Machine.execTransmitCycle s
  | .batteryBlindSet => Sys2Proof.Machine.execBatteryBlindSet s
  | .loopFailedAssert => Sys2Proof.Machine.execLoopFailedAssert s
  | .errorWindowEnd => Sys2Proof.Machine.execErrorWindowEnd s
  | .commandStall p => Sys2Proof.Machine.execCommandStall p s
  | .receivedRound bits => Sys2Proof.Machine.execReceivedRound bits s
  | .receivedCycleEnd => Sys2Proof.Machine.execReceivedCycleEnd s
  | .statusMessage => Sys2Proof.Machine.execStatusMessage s
  | .nodePresent p => Sys2Proof.Machine.execNodePresent p s
  | .nodeLost p => Sys2Proof.Machine.execNodeLost p s
  | .estimateWindowClose => Sys2Proof.Machine.execEstimateWindowClose s
  | .levelAssert l => Sys2Proof.Machine.execLevelAssert l s
  | .levelClear l => Sys2Proof.Machine.execLevelClear l s
  | .fullChargeEvent => Sys2Proof.Machine.execFullChargeEvent s
  | .budgetTick => Sys2Proof.Machine.execBudgetTick s
  | .surgeLimitExpiry => Sys2Proof.Machine.execSurgeLimitExpiry s
  | .ignitionTimeout => Sys2Proof.Machine.execIgnitionTimeout s
  | .purgeLimit => Sys2Proof.Machine.execPurgeLimit s
  | .levelHoldExpiry => Sys2Proof.Machine.execLevelHoldExpiry s
  | .manualLimitExpiry => Sys2Proof.Machine.execManualLimitExpiry s
  | .preheatWindowClose => Sys2Proof.Machine.execPreheatWindowClose s
  | .minimumOnExpiry => Sys2Proof.Machine.execMinimumOnExpiry s
  | .minimumOffExpiry => Sys2Proof.Machine.execMinimumOffExpiry s
  | .surgeHoldExpiry => Sys2Proof.Machine.execSurgeHoldExpiry s
  | .protectTimerExpiry => Sys2Proof.Machine.execProtectTimerExpiry s
  | .minuteTick => Sys2Proof.Machine.execMinuteTick s
  | .repeatTimerExpiry => Sys2Proof.Machine.execRepeatTimerExpiry s
  | .noticeRepeat => Sys2Proof.Machine.execNoticeRepeat s
  | .quietTimerExpiry => Sys2Proof.Machine.execQuietTimerExpiry s
  | .standbyEntry => Sys2Proof.Machine.execStandbyEntry s
  | .canWake => Sys2Proof.Machine.execCanWake s
  | .wakeLineEdge e => Sys2Proof.Machine.execWakeLineEdge e s
  | .reset c => Sys2Proof.Machine.execReset c s
  | .startUp d => Sys2Proof.Machine.execStartUp d s

end Sys2Proof.Machine
end

