-- ==== Sys2Proof/Safety.lean ====
section
/-! DEFINITION. Safety.lean: the terms in which statements about the machine are made: when nothing is due, how a setup request is
answered, and the invariants that every step keeps. -/

namespace Sys2Proof.Machine

/-! ### When a command meets a part with nothing left to do -/

/-- The part runs and nothing that follows of itself is due: settling changes nothing (assumption 2). -/
def State.Settled (s : State) : Prop := s.phase = .running ∧ settle s = s

/-- The part runs, in RUN or QUIET, and nothing is due. -/
def State.Ready (s : State) : Prop := s.Settled ∧ s.power.state ≠ .standby

/-! ### Frames -/

/-- The blocks of the state, by the names of its fields. -/
inductive Block where
  | phase | bus | signals | egress | tx | rx | nodes | panel | roster | energy | heater
  | fridge | lights | rest | setup | store | notices | power | ret | tables | pending
  deriving DecidableEq, Repr

/-- Two states agree in a block. -/
def Block.Same (s t : State) : Block → Prop
  | .phase => t.phase = s.phase
  | .bus => t.bus = s.bus
  | .signals => t.signals = s.signals
  | .egress => t.egress = s.egress
  | .tx => t.tx = s.tx
  | .rx => t.rx = s.rx
  | .nodes => t.nodes = s.nodes
  | .panel => t.panel = s.panel
  | .roster => t.roster = s.roster
  | .energy => t.energy = s.energy
  | .heater => t.heater = s.heater
  | .fridge => t.fridge = s.fridge
  | .lights => t.lights = s.lights
  | .rest => t.rest = s.rest
  | .setup => t.setup = s.setup
  | .store => t.store = s.store
  | .notices => t.notices = s.notices
  | .power => t.power = s.power
  | .ret => t.ret = s.ret
  | .tables => t.tables = s.tables
  | .pending => t.pending = s.pending

/-- `t` differs from `s` in the listed blocks at most: every register, queue, record and table of every other block reads as before. -/
def State.OnlyIn (s : State) (bs : List Block) (t : State) : Prop := ∀ b, b ∉ bs → b.Same s t

/-! ### Setup requests (R184, R185) -/

/-- The setup request with data `d` stands at the head of the receive queue, it bears a tag and has at least its shortest length, and a
response can join the transmit queue at once. -/
structure State.Asked (s : State) (d : List Byte) : Prop where
  ready : s.Ready
  head : ∃ i : Ident, s.bus.rxQueue.head? = some { ident := i, data := d } ∧ i.toNat = s.requestIdent
  tag : 2 ≤ d.length
  free : s.setup.waiting = none
  room : s.bus.queued < 8

/-- The response of section 13.1 to the request `d`. -/
def State.response (s : State) (d : List Byte) (r : Result) (data : List Byte) (restarts : Bool) : TxFrame where
  ident := BitVec.ofNat 29 s.responseIdent
  data := [byte (byteAt d 0), byte (byteAt d 1), byte r.code] ++ padTo 5 data
  restart := restarts

/-- The interface after the request at the head has left the receive queue and its response has joined the priority class. -/
def State.answered (s : State) (d : List Byte) (r : Result) (data : List Byte) (restarts : Bool) : Bus :=
  ({ s.bus with
    rxQueue := s.bus.rxQueue.tail, prioQueue := s.bus.prioQueue ++ [s.response d r data restarts] } : Bus).takeUp

/-- A request answered with a result and no other effect. -/
def State.OnlyAnswers (s : State) (d : List Byte) (c : Instr) (r : Result) (data : List Byte) : Prop :=
  exec c s = .next (qualify { s with bus := s.answered d r data false })

/-! ### Invariants -/

/-- The two queues of the cab bus interface within their places (R3, section 1.6). -/
def Bus.Bounded (b : Bus) : Prop := b.rxQueue.length ≤ 16 ∧ b.queued ≤ 8

/-- The warning queue in its order, one entry for each kind and index, at most 8 of them (R170). -/
def WarningsOk (q : List Warning) : Prop :=
  q.length ≤ 8 ∧ q.Pairwise (fun a b => a.before b = true) ∧ (q.map fun w => (w.kind, w.index)).Nodup

/-- The residue below one step of the charge count in both directions (section 5.1, R83). -/
def Retention.ResidueOk (r : Retention) : Prop := -4500 < r.residue ∧ r.residue < 4500

/-- The holder of the surge slot and every queued entry are valid entries in ON, each with one surge place, and nothing waits for a
slot that is free (R72 to R76). -/
def State.SlotOk (s : State) : Prop :=
  (∀ h, s.roster.holder = some h → (s.cfg h.entry).valid = true ∧ (s.live h.entry).grant = .on) ∧
  (∀ p ∈ s.roster.queue, (s.cfg p.entry).valid = true ∧ (s.live p.entry).grant = .on) ∧
  ((s.roster.holder.toList.map (·.entry)) ++ s.roster.queue.map (·.entry)).Nodup ∧
  (s.roster.holder = none → s.roster.queue = [])

/-- The live part of an entry as the grant states have it (R59 to R68): a shed reason in SHEDDING and SHED and in no other state, and
want as the state says it. -/
def Live.Ok (l : Live) : Prop :=
  ((l.reason ≠ .none) ↔ (l.grant = .shedding ∨ l.grant = .shed)) ∧
  ((l.grant = .waiting ∨ l.grant = .on ∨ l.grant = .shed) → l.want = true) ∧
  ((l.grant = .idle ∨ l.grant = .stopping) → l.want = false)

/-- Every channel an overlay in use covers is linked to such an overlay, and no channel is linked to one that is out of use or does not
cover it (R154, R156). -/
def Lights.LinksOk (l : Lights) : Prop :=
  l.channels.length = 8 ∧ l.overlays.length = 2 ∧
  ∀ c < 8,
    match (l.channels.getD c Channel.init).link with
    | some r => r < 2 ∧ (l.overlays.getD r Overlay.init).inUse = true ∧ bitAt (l.overlays.getD r Overlay.init).mask c = true
    | none => ∀ r < 2, ¬ ((l.overlays.getD r Overlay.init).inUse = true ∧ bitAt (l.overlays.getD r Overlay.init).mask c = true)

/-- A part held in reset holds the reset values of everything but its cause, its store, its retention area and the commands that wait
(R202). -/
def State.HeldOk (s : State) : Prop := s.phase = .held → s = State.heldIn s.power.cause s.store s.ret s.pending

/-- The kind of entry `i` of a roster table, if it is valid. -/
def Tables.validKind (t : Tables) (i : Nat) : Option LoadKind :=
  if (rosterCfgOf (t.entry 5 i)).valid then some (rosterCfgOf (t.entry 5 i)).kind else none

/-- A roster table has at most one valid HEATER entry and at most one valid FRIDGE entry, as every commit leaves it (R58). -/
def Tables.OneEach (t : Tables) : Prop :=
  ∀ k ∈ [LoadKind.heater, .fridge], ∀ i < 16, ∀ j < 16, t.validKind i = some k → t.validKind j = some k → i = j

/-- The roster table in force has at most one valid entry of either kind (R58). -/
def State.OneEach (s : State) : Prop := s.tables.OneEach

/-- So has the table of every image in the store, and of the one a save is writing, which are the tables in force of their time (R191). -/
def State.ImagesOneEach (s : State) : Prop :=
  ∀ c : ImageCopy, some c ∈ s.store.copies ∨ s.store.writing = some c → c.tables.OneEach

/-- The law of R108: RUN is commanded only while the heater's entry is ON and the controller is in STARTING or RUNNING (the second half is
what `heaterRun` says). -/
def State.HeaterLaw (s : State) : Prop :=
  s.heaterRun = true → ∃ i ∈ s.validEntries, (s.cfg i).kind = .heater ∧ (s.live i).grant = .on

/-- The law of R136: while the compressor is commanded on the minimum-off timer is not running, nor while the fridge's entry waits in the
surge queue, from which the compressor would be commanded on without another test. -/
def State.FridgeLaw (s : State) : Prop :=
  (s.fridge.state = .cooling → s.fridge.minOff = none) ∧
  (∀ p ∈ s.roster.queue, (s.cfg p.entry).kind = .fridge → s.fridge.minOff = none ∧ s.fridge.state ≠ .cooling)

/-- The law of R69: an entry whose protect flag is set is SHED only while CUTOFF is asserted; only the fridge's entry is ever protected, and
it is never left in SHEDDING. -/
def State.ProtectLaw (s : State) : Prop :=
  ∀ i ∈ s.validEntries,
    ((s.cfg i).kind = .fridge → (s.live i).grant ≠ .shedding) ∧
    ((s.live i).protect = true → (s.cfg i).kind = .fridge ∧ ((s.live i).grant = .shed → s.energy.cutoff.asserted = true))

/-- The second sentence of the law of R170, for the queue and for the active warning that may be displaced into it: rest kinds only while a
rest period is open, and, in a part that runs, BREAK_SOON only while DRIVER_ACTIVITY is DRIVE. -/
def State.KindsInSeason (s : State) : Prop :=
  (s.restOpen = false →
    (∀ w ∈ s.ret.queue, w.kind ≠ .restLead ∧ w.kind ≠ .restComplete) ∧
    (∀ a, s.ret.active = some a → a.kind ≠ .restLead ∧ a.kind ≠ .restComplete)) ∧
  (s.phase = .running →
    (s.drive = true → s.rest.driving = true) ∧
    (s.drive = false →
      (∀ w ∈ s.ret.queue, w.kind ≠ .breakSoon) ∧ (∀ a, s.ret.active = some a → a.kind ≠ .breakSoon)))

/-- The charge count within 0..C in a part that runs (R83). -/
def State.ChargeOk (s : State) : Prop := s.phase = .running → s.ret.charge ≤ s.energySettings.capacity

/-- The table entries that the lock covers (R192). -/
def Tables.locked (t : Tables) : List Entry :=
  t.entry 0 0 :: t.entry 0 1 :: (t.get 1 ++ t.get 5 ++ t.get 9 ++ t.get 10 ++ t.get 11)

/-! ### The heater -/

/-- Demand stands through a handling that ends in `t`: the mode is MANUAL, or there is demand in the end and the handling could not open a
preheat window, no wake minute standing and no queued warning having come due (R114, R115). -/
def State.DemandStands (s t : State) : Prop :=
  s.heater.mode.isManual = true ∨
    (t.heater.demand = true ∧ s.rest.wake = none ∧ ∀ w ∈ s.ret.queue, s.ret.clock < w.due)

/-- Demand is present or absent, with its marks and sources in agreement: working it out again changes nothing (R113 to R115). -/
structure State.DemandIs (s : State) (d : Bool) : Prop where
  held : s.heater.demand = d
  sources : s.demandNow = d
  marks : (heaterMarks s).heater = s.heater

/-- A start or a run has failed between `s` and `t` (R119, R120, R126): the count has risen, the third failure is LOCKOUT, and the node
purges; where it stands PRESENT at IDLE the stop is over at once, and before the third failure the controller asks for the slot again. -/
structure State.HeaterFailed (s t : State) : Prop where
  count : t.ret.failedStarts = min 3 (s.ret.failedStarts + 1)
  lockout : 2 ≤ s.ret.failedStarts → t.heater.state = .lockout ∧ t.ret.lockout = true ∧ t.notices.flags.getLsbD 1 = true
  purging : t.heaterIdle = false → t.heater.purge = some 0 ∧
    (s.ret.failedStarts < 2 → t.heater.state = .retryWait ∧ t.ret.lockout = s.ret.lockout) ∧
    (2 ≤ s.ret.failedStarts → t.heater.purgeOutstanding = true)
  ended : t.heaterIdle = true → t.heater.purge = none ∧
    (s.ret.failedStarts < 2 → t.heater.state = .requesting ∨ t.heater.state = .starting) ∧
    (2 ≤ s.ret.failedStarts → t.heater.purgeOutstanding = false)

/-! ### Passing seconds and passes of the egress scheduler -/

/-- No second timer of the roster, the heater, the fridge, a warning or the notices is one second from its limit. -/
structure State.SecondsLeft (s : State) : Prop where
  holder : ∀ h, s.roster.holder = some h → h.elapsed + 1 < h.limit
  ignition : ∀ n, s.heater.ignition = some n → n + 1 < 150
  purge : ∀ n, s.heater.purge = some n → n + 1 < 240
  levelHold : ∀ n, s.heater.levelHold = some n → n + 1 < 60
  surgeHold : ∀ n, s.fridge.surgeHold = some n → n + 1 < 2
  minOn : ∀ n, s.fridge.minOn = some n → n + 1 < 60
  minOff : ∀ n, s.fridge.minOff = some n → n + 1 < 180
  protect : ∀ n, s.fridge.protectTimer = some n → n ≠ 599
  warning : ∀ n, s.rest.repeatTimer = some n → n + 1 < s.rest.repeatLimit
  notice : s.notices.repeatTimer = none

/-- A valid entry with a period (R15). -/
def State.periodic (s : State) (i : Nat) : Prop := (s.egressEntry i).valid = true ∧ (s.egressEntry i).period ≠ 0

/-- A countdown. -/
def State.countdown (s : State) (i : Nat) : Nat := s.egress.countdown.getD i 0

/-- The countdowns of `t` are those of `s` after a pass over the entries from `k` on (R15): each periodic one lowered by 1 in index order,
up to the first that reaches 0, at which the pass stands; without such a one the pass has ended. -/
def State.PassedFrom (s : State) (k : Nat) (t : State) : Prop :=
  (∀ i, i < k ∨ 16 ≤ i → t.countdown i = s.countdown i) ∧
  (t.egress.passAt = none → ∀ i, k ≤ i → i < 16 →
    (s.periodic i → 1 < s.countdown i ∧ t.countdown i = s.countdown i - 1) ∧
    (¬ s.periodic i → t.countdown i = s.countdown i)) ∧
  (∀ j, t.egress.passAt = some j →
    k ≤ j ∧ j < 16 ∧ s.periodic j ∧ s.countdown j ≤ 1 ∧ t.countdown j = 0 ∧
    (∀ i, k ≤ i → i < j →
      (s.periodic i → 1 < s.countdown i ∧ t.countdown i = s.countdown i - 1) ∧
      (¬ s.periodic i → t.countdown i = s.countdown i)) ∧
    (∀ i, j < i → t.countdown i = s.countdown i))

/-- The signals after a pass that has ended: in RUN the changed marks of signals 8 to 31 are cleared (R17). -/
def State.marksCleared (s : State) : List SignalRec :=
  if s.power.state = .run then s.signals.take 8 ++ (s.signals.drop 8).map fun r => { r with changed := false } else s.signals

end Sys2Proof.Machine
end

