-- ==== Sys2Proof/Certificates/Slice0/Obligations.lean ====
section
/-! DEFINITION. Certificates/Slice0/Obligations.lean: the statements for the provers.

`s.Settled` says that the part runs with nothing left to do (assumption 2), `s.Ready` that it does so in RUN or QUIET.
`qualify` starts or discards the standby qualification timer (R200) and changes nothing else, as
`Obligations.QualifyOnlyTimes` says. -/

open Sys2Proof Sys2Proof.Machine

/-! ### The machine as a whole -/

/-- A step takes the command at the front of the queue and runs it on the state with the queue's rest. -/
def Obligations.StepTakesTheFront : Prop :=
  ∀ (c : Instr) (rest : List Instr) (s : State), s.pending = c :: rest → step s = exec c { s with pending := rest }

/-- No command touches the queue of the commands that wait. -/
def Obligations.CommandsLeaveTheQueue : Prop :=
  ∀ (c : Instr) (s t : State), exec c s = .next t → t.pending = s.pending

/-- An operand that is no CAN frame is refused; every other command answers a next state, and a part held in reset takes nothing but RESET
and START_UP.
An empty queue: a part held in reset idles; one that runs with nothing due counts one second on every second timer that runs, and where none
reaches its limit (the surge limit of the holder, ignition 150, purge 240, level hold 60, surge hold 2, minimum-on 60, minimum-off 180,
protect 600, the repeat interval latched, notice repeat 1, quiet 10, standby 60) nothing else changes, but that a round which entry to
STANDBY found in progress is over. At 10 s RUN becomes QUIET, where the standby timer runs in QUIET alone, as every step leaves it
(QualifyOnlyTimes); at 60 s with its conditions holding QUIET becomes STANDBY; a part in bus-off rejoins the bus; an arranged restart is
carried out.
MODEL'S CHOICE: the refusal (assumption 33), the part held in reset (assumption 4), and that on an empty queue a part held in reset idles
while a part that runs counts one second (assumption 3); that a running protect timer stands still at 600 (assumption 24); the end of the
round that STANDBY found in progress (assumption 60). -/
def Obligations.RefusalsAndIdling : Prop :=
  ((∀ (f : CanFrame) (s : State), f.wellFormed = false → exec (.frameReceived f) s = .refused .illFormedFrame) ∧
  (∀ (c : Instr) (s : State), c.wellFormed = true → ∃ t, exec c s = .next t) ∧
  (∀ (c : Instr) (s : State), c.wellFormed = true → s.phase = .held → (∀ k, c ≠ .reset k) → (∀ d, c ≠ .startUp d) →
    exec c s = .next s)) ∧
  (∀ s : State, s.pending = [] →
    (s.phase = .held → step s = .next s) ∧ (s.Settled → step s = .next (qualify (secondPasses s)))) ∧
  (∀ s : State, s.pending = [] → s.Settled → s.SecondsLeft → s.bus.busOff = false → s.setup.restart = none →
    ((∀ n, s.power.quietTimer = some n → n + 1 < 10) → (∀ n, s.power.standbyTimer = some n → n + 1 < 60) →
      step s = .next (qualify { s with
        tx := { s.tx with finishing := false }
        roster := { s.roster with holder := s.roster.holder.map fun h => { h with elapsed := h.elapsed + 1 } }
        heater := { s.heater with
          levelHold := s.heater.levelHold.map (· + 1), ignition := s.heater.ignition.map (· + 1)
          purge := s.heater.purge.map (· + 1) }
        fridge := { s.fridge with
          minOn := s.fridge.minOn.map (· + 1), minOff := s.fridge.minOff.map (· + 1)
          surgeHold := s.fridge.surgeHold.map (· + 1)
          protectTimer := s.fridge.protectTimer.map fun n => if n < 600 then n + 1 else n }
        rest := { s.rest with repeatTimer := s.rest.repeatTimer.map (· + 1) }
        power := { s.power with
          quietTimer := s.power.quietTimer.map (· + 1), standbyTimer := s.power.standbyTimer.map (· + 1) } })) ∧
    (∀ n, (s.power.standbyTimer ≠ none → s.power.state = .quiet) → s.power.state = .run → s.power.quietTimer = some n → 9 ≤ n → ∃ t, step s = .next t ∧ t.power.state = .quiet) ∧
    (∀ n, s.power.state = .quiet → s.mayStandBy = true → s.power.standbyTimer = some n → 59 ≤ n →
      ∃ t, step s = .next t ∧ t.power.state = .standby)) ∧
  (∀ s : State, s.pending = [] → s.Settled →
    (s.bus.busOff = true → s.setup.restart = none → ∃ t, step s = .next t ∧ t.bus.busOff = false) ∧
    (∀ r, s.setup.restart = some r → ∃ t, step s = .next t ∧ t.phase = .held ∧ t.power.cause = r.cause))

/-- `qualify` starts or discards the standby qualification timer: it runs in QUIET while the six conditions hold, keeps its count while they
go on holding, and is discarded otherwise (R200); nothing else changes. Every step leaves the timer as `qualify` would: it runs in QUIET
while the conditions hold, and at no other time. -/
def Obligations.QualifyOnlyTimes : Prop :=
  (∀ s : State, s.OnlyIn [.power] (qualify s) ∧
    (qualify s).power = { s.power with
      standbyTimer := if s.phase = .running ∧ s.power.state = .quiet ∧ s.mayStandBy = true
        then some (s.power.standbyTimer.getD 0) else none }) ∧
  (∀ (s : State) (t : State), qualify s = s → step s = .next t → qualify t = t)

/-- RESET: the part is held with its cause, the commands waiting outside are left, the retention area survives every cause but POWER_ON, a
store write is cut short, and everything else is at its reset value (R202).
MODEL'S CHOICE: the reset values that the manual does not state (assumptions 30, 31); the cause is RESET's own, also where a restart with
another cause has been arranged (assumption 69). -/
def Obligations.ResetHolds : Prop :=
  ∀ (c : ResetCause) (s : State), s.phase = .running →
    exec (.reset c) s = .next { State.reset with
      power := { State.reset.power with cause := c }
      store := s.store.tear
      ret := if c = .powerOn then Retention.init 45000 else s.ret
      pending := s.pending }

/-- START_UP: the part runs in RUN with its quiet timer started; its tables, image state and lock come from the best copy in the store, or
are the defaults, unlocked, where there is none or the lock mark is damaged; the voltage watch is clear; class 15 is latched with NV_DEFAULTS
or START, the reported cause and the image state (R203, R204, R102). The reported cause is DEFAULTS where defaults were loaded, but POWER_ON
is kept; a retention area that does not check is reported as POWER_ON and takes the POWER_ON values. Otherwise it is kept: the charge is held
to C (R85), the clock, the profile and the lockout stand (R127), no BREAK_SOON is queued, and a warning that was active is queued again, due
now (R182). After POWER_ON the charge is half of C, ESTIMATED, with the estimate window open (R103). Every mapped position is SEEKING and
every countdown is at its period.
MODEL'S CHOICE: what is found damaged is the command's operand (assumption 14), a part held in reset holds reset values (assumption 4), and a
damaged lock mark alone also erases both copies (assumption 49). -/
def Obligations.StartUpOpens : Prop :=
  ∀ (c : ResetCause) (st : Store) (r : Retention) (q : List Instr) (d : StoreDamage),
    ∃ t, exec (.startUp d) (State.heldIn c st r q) = .next t ∧
      t.phase = .running ∧ t.power.state = .run ∧ t.power.quietTimer = some 0 ∧ t.pending = q ∧
      t.energy.low = Level.init ∧ t.energy.cutoff = Level.init ∧ t.bus.rxQueue = [] ∧
      t.notices.flags.getLsbD 15 = true ∧ t.rx.state = .search ∧ t.tx.round = 0 ∧
      (∀ p < 12, t.node p = NodeRec.never (seekingFor (t.kindAt p))) ∧
      (∀ i < 16, t.countdown i = (t.egressEntry i).period) ∧
      t.ret.active = none ∧ t.rest.repeatTimer = none ∧ t.panel.pattern = 0 ∧ t.panel.strike = 0 ∧
      (let x := if c = .defaults then (st.damaged d).erased else st.damaged d
       let bad : Bool := x.best.isNone || x.mark == .invalid
       let loaded : ResetCause := if bad = true ∧ c ≠ .powerOn then .defaults else c
       let lost : Prop := loaded ≠ .powerOn ∧ d.retention = true
       let cap := t.energySettings.capacity
       (∀ k i, x.best = some k → x.good k = some i → x.mark ≠ .invalid →
          t.tables = i.tables ∧ t.setup.image = .loaded ∧ t.setup.lock = (x.mark == .valid) ∧ t.store.current = some k) ∧
       (x.best = none ∨ x.mark = .invalid →
          t.tables = defaultTables ∧ t.setup.image = .defaults ∧ t.setup.lock = false ∧
          t.store.copies = [none, none] ∧ t.store.current = none ∧ t.store.mark = .absent) ∧
       t.notices.details.getD 15 [] = padTo 4 (nvDetail (if bad = true then 1 else 2) t) ∧
       (lost → t.power.cause = .powerOn ∧ t.ret.clock = 0 ∧ t.ret.queue = [] ∧ t.ret.lockout = false ∧ t.restRec.state = .none) ∧
       (¬ lost → t.power.cause = loaded ∧ t.ret.clock = r.clock ∧ t.ret.profile = r.profile ∧ t.ret.alarm = r.alarm ∧
          t.ret.lockout = r.lockout ∧ t.ret.failedStarts = r.failedStarts ∧ t.restRec.state = r.rest.state ∧
          t.restRec.accumulated = r.rest.accumulated ∧ t.restRec.provisional = r.rest.provisional ∧
          (r.lockout = true → t.heater.state = .lockout ∧ t.notices.flags.getLsbD 1 = true) ∧
          (r.lockout = false → t.heater.state = .off) ∧
          (∀ w ∈ t.ret.queue, w.kind ≠ .breakSoon) ∧
          (∀ a, r.active = some a → a.kind ∈ [WarnKind.restShort, .restComplete, .restLead] → r.queue.length ≤ 4 →
            { kind := a.kind, index := a.index, due := r.clock, figure := a.entryFigure } ∈ t.ret.queue)) ∧
       (¬ lost → loaded ≠ .powerOn →
          t.ret.charge = min r.charge cap ∧ t.ret.residue = (if cap < r.charge then 0 else r.residue) ∧
          t.ret.estimated = r.estimated ∧ t.energy.window = none) ∧
       (lost ∨ loaded = .powerOn →
          t.ret.charge = cap / 2 ∧ t.ret.residue = 0 ∧ t.ret.estimated = true ∧ t.energy.window = some 0))

/-! ### Invariants that every step keeps -/

/-- Every invariant of Safety.lean holds of the state after reset. -/
def Obligations.ResetMeetsTheInvariants : Prop :=
  State.reset.HeldOk ∧ State.reset.bus.Bounded ∧ WarningsOk State.reset.ret.queue ∧ State.reset.ret.ResidueOk ∧
    State.reset.SlotOk ∧ (∀ l ∈ State.reset.roster.live, l.Ok) ∧ State.reset.lights.LinksOk ∧ State.reset.OneEach ∧ State.reset.ImagesOneEach ∧
    State.reset.HeaterLaw ∧ State.reset.FridgeLaw ∧ State.reset.ProtectLaw ∧ State.reset.KindsInSeason ∧ State.reset.ChargeOk

/-- A part held in reset holds the reset values of everything but its cause, store, retention area and queue, whatever step it came by.
MODEL'S CHOICE: the part held in reset and its unstated values (assumptions 4, 30). -/
def Obligations.HeldStateIsReset : Prop :=
  ∀ s t : State, s.HeldOk → step s = .next t → t.HeldOk

/-- No step puts more than 16 frames in the receive queue or more than 8 in the transmit queue. -/
def Obligations.BusQueuesStayBounded : Prop :=
  ∀ s t : State, s.bus.Bounded → step s = .next t → t.bus.Bounded

/-- The warning queue stays in order, with one entry for each kind and index and at most 8 of them. -/
def Obligations.WarningQueueStaysOrdered : Prop :=
  ∀ s t : State, WarningsOk s.ret.queue → step s = .next t → WarningsOk t.ret.queue

/-- The law of R83: the residue stays within −4499 to 4499, and the charge count of a part that runs within 0 to C, while no percentage of
the rest-voltage table is above 100. -/
def Obligations.ChargeCountStaysInRange : Prop :=
  (∀ s t : State, s.ret.ResidueOk → step s = .next t → t.ret.ResidueOk) ∧
  (∀ s t : State, (∀ i < 8, (s.restPoint i).2 ≤ 100) → s.ChargeOk → step s = .next t → t.ChargeOk)

/-- The holder of the surge slot and every entry in its queue are valid and ON, each once, and a free slot has no queue. -/
def Obligations.SurgePlacesStayOn : Prop :=
  ∀ s t : State, s.HeldOk → s.SlotOk → step s = .next t → t.SlotOk

/-- A shed reason stands in SHEDDING and SHED only, and want agrees with the grant state, entry by entry. The roster table in force, and that
of every image stored or being written, keeps at most one valid HEATER and at most one valid FRIDGE entry, whatever is committed, saved or
loaded (R58). -/
def Obligations.RosterEntriesStayConsistent : Prop :=
  (∀ s t : State, (∀ l ∈ s.roster.live, l.Ok) → step s = .next t → ∀ l ∈ t.roster.live, l.Ok) ∧
  (∀ s t : State, s.OneEach → s.ImagesOneEach → step s = .next t → t.OneEach ∧ t.ImagesOneEach)

/-- Overlay links and overlay records keep naming each other: a channel that an overlay in use covers is linked to such an overlay, and no
channel to one out of use or that does not cover it.
MODEL'S CHOICE: the second half, where a record is used again with another mask: R154 does not say that a channel of its old mask alone
loses its link, or goes to the other record where that covers it (assumption 56). -/
def Obligations.OverlayLinksStayRight : Prop :=
  ∀ s t : State, s.lights.LinksOk → step s = .next t → t.lights.LinksOk

/-- The law of R108: in every state a step leads to, the heater is commanded RUN only while its roster entry is ON. -/
def Obligations.HeaterRunsOnlyWhileOn : Prop :=
  ∀ s t : State, s.HeldOk → s.SlotOk → s.OneEach → s.HeaterLaw → step s = .next t → t.HeaterLaw

/-- The law of R136: no step leads to a compressor commanded on while the minimum-off timer runs, and a command that ends COOLING in a part
that goes on running starts that timer at 0. -/
def Obligations.CompressorKeepsItsRest : Prop :=
  (∀ s t : State, s.HeldOk → s.SlotOk → s.OneEach → s.FridgeLaw → step s = .next t → t.FridgeLaw) ∧
  (∀ (c : Instr) (s t : State), s.fridge.state = .cooling → exec c s = .next t → t.phase = .running → t.fridge.state ≠ .cooling →
    t.fridge.minOff = some 0)

/-- The law of R69: no step leads to a protected entry that is SHED or SHEDDING while CUTOFF is clear. -/
def Obligations.ProtectedLoadsStayUnlessCutoff : Prop :=
  ∀ s t : State, s.HeldOk → s.SlotOk → s.OneEach → s.ProtectLaw → step s = .next t → t.ProtectLaw

/-- The law of R170, its second sentence: rest-kind entries only while a rest is open, BREAK_SOON entries only while the activity is DRIVE.
-/
def Obligations.WarningKindsKeepTheirSeason : Prop :=
  ∀ s t : State, s.HeldOk → s.KindsInSeason → step s = .next t → t.KindsInSeason

/-- The law of R166, command by command: while a rest stays open its accumulated minutes never decrease, and accumulated plus provisional
minutes rise by at most 1 at a minute tick and by nothing at any other command. -/
def Obligations.RestMinutesNeverFall : Prop :=
  ∀ (c : Instr) (s t : State), s.restOpen = true → s.restRec.accumulated ≤ 65535 → exec c s = .next t → t.restOpen = true →
    s.restRec.accumulated ≤ t.restRec.accumulated ∧
    t.restRec.accumulated + t.restRec.provisional ≤
      s.restRec.accumulated + s.restRec.provisional + (if c = .minuteTick then 1 else 0)

/-- While the lock is set and the part goes on running, no command changes an entry that the lock covers, and none clears the lock. -/
def Obligations.LockedTablesStay : Prop :=
  ∀ (c : Instr) (s t : State), s.phase = .running → s.setup.lock = true → exec c s = .next t → t.phase = .running →
    t.setup.lock = true ∧ t.tables.locked = s.tables.locked

/-! ### Cab bus frames and the signal store (chapter 1) -/

/-- FRAME_RECEIVED in RUN, off the bus-off state: activity restarts the quiet timer; an extended data frame joins the tail of the receive
queue, or is counted as overrun when all 16 places are taken; a standard or a remote frame is not looked at further. FRAME_RECEIVED in QUIET
brings RUN with the quiet timer at 0, and the frame joins the queue or is counted in the same way; in STANDBY, where the receiver is off, and
in bus-off it changes nothing.
MODEL'S CHOICE: a frame received lowers the receive error count, as CAN has it (assumption 8). -/
def Obligations.FramesAreReceived : Prop :=
  (∀ (f : CanFrame) (s : State), f.wellFormed = true → s.Settled → s.power.state = .run → s.bus.busOff = false →
    exec (.frameReceived f) s = .next (qualify { s with
      power := { s.power with quietTimer := some 0 }
      bus :=
        if f.extended = true ∧ f.remote = false then
          if s.bus.rxQueue.length < 16 then
            { s.bus with
              rxErrors := s.bus.rxErrors - 1, rxQueue := s.bus.rxQueue ++ [{ ident := f.ident, data := f.data }] }
          else
            { s.bus with
              rxErrors := s.bus.rxErrors - 1, counts := { s.bus.counts with overrun := sat16 s.bus.counts.overrun } }
        else { s.bus with rxErrors := s.bus.rxErrors - 1 } })) ∧
  (∀ (f : CanFrame) (s : State), f.wellFormed = true → s.Settled →
    (s.power.state = .quiet → s.bus.busOff = false →
      ∃ t, exec (.frameReceived f) s = .next t ∧ s.OnlyIn [.bus, .power, .notices] t ∧
        t.power = { s.power with state := .run, quietTimer := some 0, standbyTimer := none } ∧
        t.notices.flags = s.notices.flags ∧ t.notices.details = s.notices.details ∧
        t.bus.rxQueue = (if f.extended = true ∧ f.remote = false ∧ s.bus.rxQueue.length < 16
          then s.bus.rxQueue ++ [{ ident := f.ident, data := f.data }] else s.bus.rxQueue) ∧
        t.bus.counts.overrun = (if f.extended = true ∧ f.remote = false ∧ 16 ≤ s.bus.rxQueue.length
          then sat16 s.bus.counts.overrun else s.bus.counts.overrun)) ∧
    (s.power.state = .standby ∨ s.bus.busOff = true → exec (.frameReceived f) s = .next (qualify s)))

/-- INGRESS_MATCH takes the head of the receive queue. A frame that no entry claims is counted as unmatched; one whose field runs past its
data is counted as short; one whose field is not available is dropped without an effect. A STORE entry with a target signal 8 to 31 writes
the scaled value, clamped to the signal's range: FRESH, age 0, the changed mark set by a new value or a quality of NONE; a clamp is counted;
nothing else changes. An ACTION entry hands its action to its owner: with a CONSTANT argument whatever the frame's data, with a FIELD
argument for the scaled value. A STORE_ACTION entry stores first and acts after, on the scaled value before the clamp, or on its constant;
its action is handed over too where signal 0 holds its value. -/
def Obligations.IngressTakesTheHead : Prop :=
  (∀ (s : State) (f : RxFrame) (rest : List RxFrame), s.Ready → s.bus.rxQueue = f :: rest → s.isSetupFrame f = false →
    (s.claimant f = none →
      exec .ingressMatch s = .next (qualify { s with
        bus := { s.bus with rxQueue := rest, counts := { s.bus.counts with unmatched := sat16 s.bus.counts.unmatched } } })) ∧
    (∀ e, s.claimant f = some e → e.reads = true → e.raw f.data = none →
      exec .ingressMatch s = .next (qualify { s with
        bus := { s.bus with rxQueue := rest, counts := { s.bus.counts with short := sat16 s.bus.counts.short } } })) ∧
    (∀ e raw, s.claimant f = some e → e.reads = true → e.raw f.data = some raw → e.available raw = false →
      exec .ingressMatch s = .next (qualify { s with bus := { s.bus with rxQueue := rest } }))) ∧
  (∀ (s : State) (f : RxFrame) (rest : List RxFrame) (e : IngressEntry) (raw : Nat),
    s.Ready → s.bus.rxQueue = f :: rest → s.isSetupFrame f = false → s.claimant f = some e →
    8 ≤ e.target → e.raw f.data = some raw → e.available raw = true →
    let d := s.signalDef e.target
    let w := clampI d.lo d.hi (e.scale raw)
    let stored := { s with
      bus :=
        if w = e.scale raw then { s.bus with rxQueue := rest }
        else { s.bus with rxQueue := rest, counts := { s.bus.counts with clamped := sat16 s.bus.counts.clamped } }
      signals := s.signals.modify e.target fun r =>
        { value := w, quality := .fresh, age := 0, changed := r.changed || r.quality == .none || r.value != w } }
    (e.kind = 0 → exec .ingressMatch s = .next (qualify stored)) ∧
    (e.kind = 2 →
      exec .ingressMatch s =
        .next (qualify (handAction .ingress e.action (if e.fromField = true then e.scale raw else e.constant) stored)))) ∧
  (∀ (s : State) (f : RxFrame) (rest : List RxFrame) (e : IngressEntry),
    s.Ready → s.bus.rxQueue = f :: rest → s.isSetupFrame f = false → s.claimant f = some e → e.kind = 1 →
    (e.fromField = false →
      exec .ingressMatch s =
        .next (qualify (handAction .ingress e.action e.constant { s with bus := { s.bus with rxQueue := rest } }))) ∧
    (∀ raw, e.fromField = true → e.raw f.data = some raw → e.available raw = true →
      exec .ingressMatch s =
        .next (qualify (handAction .ingress e.action (e.scale raw) { s with bus := { s.bus with rxQueue := rest } })))) ∧
  (∀ (s : State) (f : RxFrame) (rest : List RxFrame) (e : IngressEntry) (raw : Nat),
    s.Ready → s.bus.rxQueue = f :: rest → s.isSetupFrame f = false → s.claimant f = some e → e.kind = 2 → e.target = 0 →
    e.raw f.data = some raw → e.available raw = true →
    (e.scale raw < (s.signalDef 0).lo ∨ (s.signalDef 0).hi < e.scale raw) →
    exec .ingressMatch s =
      .next (qualify (handAction .ingress e.action (if e.fromField = true then e.scale raw else e.constant) { s with
        bus := { s.bus with rxQueue := rest, counts := { s.bus.counts with clamped := sat16 s.bus.counts.clamped } } })))

/-- DRIVER_ACTIVITY is never clamped: a scaled value outside its range is held, with the clamp count alone raised; one inside it is stored,
FRESH at age 0, and the rest clock has taken the changed mark. REST then opens a rest (R165), in night mode where no sunrise can start
at once (R153), or credits an open one's provisional minutes (R168); any other activity closes an open rest (R169).
A store into one of signals 1 to 7 writes the clamped value, its mark taken by its consumer: the minute clock follows TIME_OF_DAY and
DATE_DAY that are both FRESH where it is 2 minutes off or more, the outdoor reading follows OUTSIDE_TEMP, and IGNITION at 1 acknowledges an
active WAKE where no queued warning has come due. DRIVE_REMAINING forms the BREAK_SOON entries: one for each lead that is set and not
served, due when the remaining time reaches it. A store into it in DRIVE that brings news, a value that differs or a record that was not
FRESH, forms them: with no queued warning due and the leads still ahead they stand in the queue beside the other entries, and a single lead
already passed is announced at once; a store that brings no news leaves the queue as it is (R173).
MODEL'S CHOICE: a lead already passed is due at the clock (assumption 25). -/
def Obligations.DriverActivityIsHeld : Prop :=
  (∀ (s : State) (f : RxFrame) (rest : List RxFrame) (e : IngressEntry) (raw : Nat),
    s.Ready → s.bus.rxQueue = f :: rest → s.isSetupFrame f = false → s.claimant f = some e → e.kind = 0 → e.target = 0 →
    e.raw f.data = some raw → e.available raw = true →
    let d := s.signalDef 0
    ((e.scale raw < d.lo ∨ d.hi < e.scale raw) →
      exec .ingressMatch s = .next (qualify { s with
        bus := { s.bus with rxQueue := rest, counts := { s.bus.counts with clamped := sat16 s.bus.counts.clamped } } })) ∧
    (d.lo ≤ e.scale raw → e.scale raw ≤ d.hi → s.signals ≠ [] →
      ∃ t, exec .ingressMatch s = .next t ∧
        t.signals = s.signals.set 0 { value := e.scale raw, quality := .fresh, age := 0, changed := false } ∧
        s.OnlyIn [.bus, .signals, .panel, .roster, .heater, .fridge, .lights, .rest, .notices, .power, .ret] t ∧
        (e.scale raw = 0 → s.restOpen = false →
          t.restRec.state = .resting ∧ t.restRec.start = s.ret.clock ∧ t.restRec.accumulated = 0 ∧
          t.restRec.provisional = 0 ∧ t.restRec.required = s.profile.required ∧ t.notices.flags.getLsbD 8 = true ∧
          (s.profile.sunriseLead = 0 → (∀ x ∈ s.ret.queue, x.kind ≠ .sunrise) → t.lights.sunrise = false ∧ t.night = true)) ∧
        (e.scale raw = 0 → s.restOpen = true → t.restOpen = true ∧ t.restRec.provisional = 0 ∧
          t.restRec.accumulated =
            (if 0 < s.restRec.provisional then min 65535 (s.restRec.accumulated + s.restRec.provisional)
              else s.restRec.accumulated)) ∧
        (e.scale raw ≠ 0 → s.restOpen = true →
          t.restRec.state = .none ∧ t.restRec.lastClosed = some (s.restRec.accumulated, s.restRemaining) ∧
          t.restRec.provisional = 0 ∧ t.rest.dataStale = false ∧ t.notices.flags.getLsbD 8 = true))) ∧
  (∀ (s : State) (f : RxFrame) (rest : List RxFrame) (e : IngressEntry) (raw : Nat),
    s.Ready → s.bus.rxQueue = f :: rest → s.isSetupFrame f = false → s.claimant f = some e → e.kind = 0 →
    1 ≤ e.target → e.target < 8 → s.signals.length = 32 → e.raw f.data = some raw → e.available raw = true →
    let w := clampI (s.signalDef e.target).lo (s.signalDef e.target).hi (e.scale raw)
    ∃ t, exec .ingressMatch s = .next t ∧
      t.signals = s.signals.set e.target { value := w, quality := .fresh, age := 0, changed := false } ∧
      s.OnlyIn [.bus, .signals, .panel, .roster, .heater, .fridge, .lights, .rest, .notices, .power, .ret] t ∧
      (e.target = 2 ∨ e.target = 3 →
        (∀ m d, t.freshSignal 2 = some m → t.freshSignal 3 = some d →
          let now := (d * 1440 + m).toNat
          t.ret.clock = if now + 2 ≤ s.ret.clock ∨ s.ret.clock + 2 ≤ now then now else s.ret.clock) ∧
        ((t.freshSignal 2 = none ∨ t.freshSignal 3 = none) → t.ret.clock = s.ret.clock)) ∧
      (e.target = 4 ∨ e.target = 7 → t.heater.outdoor = t.outdoorNow) ∧
      (e.target = 5 → w = 1 → (∀ x ∈ s.ret.queue, s.ret.clock < x.due) →
        ∀ a, s.ret.active = some a → a.kind = .wake → t.ret.active = none ∧ t.panel.pattern = 0 ∧ t.rest.repeatTimer = none) ∧
      (e.target = 6 → s.OnlyIn [.bus, .signals, .power] t)) ∧
  (∀ (s : State) (left : Int) (i : Nat), s.freshSignal 1 = some left → s.drive = true → i < 2 → s.ret.queue.length ≤ 6 →
    let b := s.profile.breaks.getD i 0
    (b ≠ 0 → s.rest.breakServed.getD i false = false →
      { kind := .breakSoon, index := i, due := s.ret.clock + (left - b).toNat, figure := 0 } ∈ (formBreaks s).ret.queue) ∧
    (b = 0 ∨ s.rest.breakServed.getD i false = true →
      ∀ w ∈ (formBreaks s).ret.queue, w.kind = .breakSoon → w.index ≠ i)) ∧
  (∀ (s : State) (f : RxFrame) (rest : List RxFrame) (e : IngressEntry) (raw : Nat),
    s.Ready → s.bus.rxQueue = f :: rest → s.isSetupFrame f = false → s.claimant f = some e → e.kind = 0 →
    e.target = 1 → s.signals.length = 32 → e.raw f.data = some raw → e.available raw = true → s.drive = true →
    (∀ x ∈ s.ret.queue, s.ret.clock < x.due) →
    let w := clampI (s.signalDef 1).lo (s.signalDef 1).hi (e.scale raw)
    let news := (s.signal 1).changed = true ∨ (s.signal 1).quality ≠ .fresh ∨ (s.signal 1).value ≠ w
    let lead := fun i => s.profile.breaks.getD i 0
    let unserved := fun i => lead i ≠ 0 ∧ s.rest.breakServed.getD i false = false
    (¬ news → ∃ t, exec .ingressMatch s = .next t ∧ t.ret = s.ret ∧ t.rest = s.rest) ∧
    (news → s.ret.queue.length ≤ 6 → (∀ i < 2, unserved i → (lead i : Int) < w) →
      ∃ t, exec .ingressMatch s = .next t ∧ t.ret = { s.ret with queue := t.ret.queue } ∧ t.rest = s.rest ∧
        (∀ i < 2, unserved i →
          { kind := .breakSoon, index := i, due := s.ret.clock + (w - lead i).toNat, figure := 0 } ∈ t.ret.queue) ∧
        (∀ x ∈ t.ret.queue, x.kind = .breakSoon → x.index < 2 ∧ unserved x.index) ∧
        (∀ x : Warning, x.kind ≠ .breakSoon → (x ∈ t.ret.queue ↔ x ∈ s.ret.queue))) ∧
    (∀ i < 2, news → s.ret.queue.length ≤ 6 → unserved i → w ≤ lead i → ¬ unserved (1 - i) →
      s.rest.sweeping = true → s.ret.active = none →
      ∃ t, exec .ingressMatch s = .next t ∧
        t.ret.active = some { kind := .breakSoon, index := i, figure := w.toNat, entryFigure := 0, repeats := 0 } ∧
        t.rest.breakServed = s.rest.breakServed.set i true ∧ (∀ x ∈ t.ret.queue, x.kind ≠ .breakSoon) ∧
        t.panel.pattern = s.profile.chimes.getD 4 0 ∧ t.panel.strike = (s.panel.strike + 1) % 16))

/-- The scaled value: the product divided toward zero, plus the offset, saturated to 32 bits, with the manual's two examples. -/
def Obligations.ScalingTruncates : Prop :=
  (∀ (e : IngressEntry) (raw : Nat),
    let x : Int := if e.signedField = true then signed e.width raw else (raw : Int)
    e.scale raw = max (-2147483648) (min 2147483647 (Int.tdiv (x * e.multiplier) e.divisor + e.offset))) ∧
  (∀ e : IngressEntry, e.signedField = true → e.width = 8 → e.multiplier = 1 → e.divisor = 2 → e.offset = 0 →
    e.scale 0xF9 = -3) ∧
  (∀ e : IngressEntry, e.signedField = false → e.multiplier = 10 → e.divisor = 32 → e.offset = -2730 → e.scale 8250 = -152)

/-- SIGNAL_AGE_TICK raises the age of every record that is not NONE by 1, up to 65535; SIGNAL_STALE turns a FRESH record whose age has
reached a limit above 0 STALE with its value and age as they were, and no other record changes. -/
def Obligations.SignalsAge : Prop :=
  (∀ s : State, s.Ready →
    exec .signalAgeTick s = .next (qualify { s with
      signals := s.signals.map fun r => if r.quality = .none then r else { r with age := min 65535 (r.age + 1) } })) ∧
  (∀ (n : Fin 32) (s : State), s.phase = .running → (s.signal n.val).quality = .fresh → 1 ≤ (s.signalDef n.val).limit →
    (s.signalDef n.val).limit ≤ (s.signal n.val).age →
    ∃ t, exec (.signalStale n) s = .next t ∧
      (t.signal n.val).quality = .stale ∧ (t.signal n.val).value = (s.signal n.val).value ∧
      (t.signal n.val).age = (s.signal n.val).age ∧ (∀ m, m ≠ n.val → t.signal m = s.signal m) ∧
      s.OnlyIn [.bus, .signals, .panel, .roster, .heater, .fridge, .lights, .rest, .notices, .power, .ret] t)

/-- EGRESS_PASS lowers the countdown of each valid periodic entry by 1, in index order, up to the first that reaches 0, at which the pass
stands; without one the pass ends. EGRESS_COUNTDOWN_EXPIRY: in RUN the frame of the entry at which the pass stands is composed and offered,
in the other power states not; its countdown is reloaded, and the pass goes on with the next entry in the same way. A pass that ends clears
in RUN the changed marks of signals 8 to 31; without a pass that stands there is nothing to do.
An on-change entry met by a pass in RUN is composed; a payload that differs from the one last queued is offered, and becomes the one last
queued only if the queue takes it; an equal one is not offered. Outside RUN nothing is composed. A composed payload is as long as its
highest item needs, with 0xFF in the bytes that no item covers. At its position an item of w bytes holds, least significant byte first, its
source's value: an unsigned one clamped to 0 .. 2^(8w) − 2 under the saturate rule, a signed one to −2^(8w−1) .. 2^(8w−1) − 1, and without
the rule the low 8w bits, in two's complement; a source with no value, as a signal that is not FRESH, gives 0xFF in each byte (R16).
MODEL'S CHOICE: the pass stands at an entry until its expiry is taken (assumption 2); of a bit set or a record an item carries the first w
bytes, 0 past its end (assumption 22). -/
def Obligations.EgressPassesAndSends : Prop :=
  (∀ s : State, s.Ready → s.egress.countdown.length = 16 →
    ∃ t, exec .egressPass s = .next t ∧ s.OnlyIn [.bus, .signals, .egress, .power] t ∧ s.PassedFrom 0 t ∧
      t.signals = (if t.egress.passAt = none then s.marksCleared else s.signals) ∧
      (s.power.state ≠ .run → t.bus = s.bus ∧ t.egress.lastQueued = s.egress.lastQueued)) ∧
  (∀ s : State, s.phase = .running → s.egress.countdown.length = 16 →
    (s.egress.passAt = none → exec .egressCountdownExpiry s = .next (qualify s)) ∧
    (∀ i, s.egress.passAt = some i → i < 16 →
      let r := { s with egress := { s.egress with countdown := s.egress.countdown.set i (s.egressEntry i).period } }
      ∃ t, exec .egressCountdownExpiry s = .next t ∧ s.OnlyIn [.bus, .signals, .egress, .power] t ∧ r.PassedFrom (i + 1) t ∧
        t.signals = (if t.egress.passAt = none then s.marksCleared else s.signals) ∧
        (s.power.state ≠ .run → t.bus = s.bus ∧ t.egress.lastQueued = s.egress.lastQueued) ∧
        ((∀ j, i < j → j < 16 → (s.egressEntry j).valid = false) →
          t.bus = (if s.power.state = .run then s.bus.offerEgress (s.egressFrame (s.egressEntry i)) else s.bus)))) ∧
  (∀ (s : State) (i : Nat), s.Ready → s.power.state = .run → i < 16 → (s.egressEntry i).valid = true →
    (s.egressEntry i).period = 0 → (∀ j, j < 16 → j ≠ i → (s.egressEntry j).valid = false) →
    let f := s.egressFrame (s.egressEntry i)
    ∃ t, exec .egressPass s = .next t ∧ s.OnlyIn [.bus, .signals, .egress, .power] t ∧
      (s.egress.lastQueued.getD i none = some f.data → t.bus = s.bus ∧ t.egress.lastQueued = s.egress.lastQueued) ∧
      (s.egress.lastQueued.getD i none ≠ some f.data → t.bus = s.bus.offerEgress f ∧
        (s.bus.busOff = false → s.bus.queued < 8 → t.egress.lastQueued = s.egress.lastQueued.set i (some f.data)) ∧
        (s.bus.busOff = true ∨ 8 ≤ s.bus.queued → t.egress.lastQueued = s.egress.lastQueued))) ∧
  (∀ (s : State) (e : EgressEntry), disjointItems e.items = true →
    (s.compose e).length = e.length ∧ (∀ n, (∀ x ∈ e.items, x.position + x.width ≤ n) → e.length ≤ n) ∧
    (∀ k < e.length, (∀ x ∈ e.items, k < x.position ∨ x.position + x.width ≤ k) → byteAt (s.compose e) k = 255) ∧
    ∀ x ∈ e.items,
      let top : Int := 2 ^ (8 * x.width)
      let half : Int := 2 ^ (8 * x.width - 1)
      let sent := ((s.compose e).drop x.position).take x.width
      x.position + x.width ≤ e.length ∧
      (∀ size v, s.source x.source x.selector = some (.number false size (some v)) →
        unLe sent = (if x.saturate = true then max 0 (min (top - 2) v) else v % top)) ∧
      (∀ size v, s.source x.source x.selector = some (.number true size (some v)) →
        unLe sent = (if x.saturate = true then max (-half) (min (half - 1) v) else v) % top) ∧
      (∀ sg size, s.source x.source x.selector = some (.number sg size none) → sent = List.replicate x.width (byte 255)) ∧
      (x.source = 1 → x.selector < 32 → (s.signal x.selector).quality ≠ .fresh → sent = List.replicate x.width (byte 255)) ∧
      (∀ b, s.source x.source x.selector = some (.bytes b) → ∀ k < x.width, byteAt sent k = byteAt b k))

/-- FRAME_TRANSMITTED removes the head of the class that is being sent; the next head is the oldest priority frame if there is one, else the
oldest egress frame; the answer to RST or DEF has then left.
TRANSMIT_ERROR keeps every frame and sends the head again; BUS_OFF abandons and counts every egress frame and keeps the priority frames;
BUS_OFF_RECOVERY rejoins with the error counts at 0 and the head frame sent again.
MODEL'S CHOICE: the error counts' own motion (assumption 8), and that after an error the head is taken anew, so that an egress frame yields to
a priority frame that has come meanwhile (assumption 9). -/
def Obligations.TransmissionsEnd : Prop :=
  (∀ (s : State) (f : TxFrame) (rest : List TxFrame), s.Ready → s.bus.busOff = false →
    let after := if f.restart = true then { s.setup with restart := s.setup.restart.map fun r => { r with answerLeft := true } }
      else s.setup
    (s.bus.sending = some .priority → s.bus.prioQueue = f :: rest →
      exec .frameTransmitted s = .next (qualify { s with
        setup := after
        bus := { s.bus with
          prioQueue := rest, txErrors := s.bus.txErrors - 1
          sending := if rest ≠ [] then some .priority else if s.bus.egressQueue ≠ [] then some .egress else none } })) ∧
    (s.bus.sending = some .egress → s.bus.egressQueue = f :: rest →
      exec .frameTransmitted s = .next (qualify { s with
        setup := after
        bus := { s.bus with
          egressQueue := rest, txErrors := s.bus.txErrors - 1
          sending := if s.bus.prioQueue ≠ [] then some .priority else if rest ≠ [] then some .egress else none } }))) ∧
  ((∀ (s : State) (b : Bool), s.Settled → s.bus.sending ≠ none →
    exec (.transmitError b) s = .next (qualify { s with
      bus := { s.bus with
        sending := if s.bus.prioQueue ≠ [] then some .priority else if s.bus.egressQueue ≠ [] then some .egress else none
        txErrors := s.bus.txErrors + (if b = true then 8 else 0) } })) ∧
  (∀ s : State, s.phase = .running → s.power.state ≠ .standby → s.bus.busOff = false →
    exec .busOff s = .next (qualify { s with
      bus := { s.bus with
        egressQueue := [], sending := none, busOff := true, txErrors := max 256 s.bus.txErrors
        counts := { s.bus.counts with
          dropped := min 65535 (s.bus.counts.dropped + s.bus.egressQueue.length), busOff := sat16 s.bus.counts.busOff } } })) ∧
  (∀ s : State, s.Settled → s.bus.busOff = true → s.bus.sending = none →
    exec .busOffRecovery s = .next (qualify { s with
      bus := { s.bus with
        busOff := false, txErrors := 0, rxErrors := 0
        sending := if s.bus.prioQueue ≠ [] then some .priority else if s.bus.egressQueue ≠ [] then some .egress else none } })))

/-- PRIORITY_FRAME_ADMITTED: a waiting setup response joins before a waiting notice frame, each as soon as there is a place; one that waits
removes nothing from a full queue.
A frame on its arrival: a priority frame joins the tail of its class while there is a place; at a full queue the oldest egress frame that is
not being transmitted is removed and counted as dropped, and without one the frame waits with its owner. An egress frame joins while there
is a place, and is refused and counted at a full queue and in bus-off.
MODEL'S CHOICE: an idle interface takes the head up at once (assumption 9). -/
def Obligations.WaitingFramesJoin : Prop :=
  (∀ s : State, s.phase = .running → s.power.state ≠ .standby →
    (∀ f, s.setup.waiting = some f → s.bus.queued < 8 →
      exec .priorityFrameAdmitted s = .next (qualify { s with
        bus := ({ s.bus with prioQueue := s.bus.prioQueue ++ [f] } : Bus).takeUp
        setup := { s.setup with waiting := none } })) ∧
    (∀ f, s.setup.waiting = none → s.notices.waiting = some f → s.bus.queued < 8 →
      exec .priorityFrameAdmitted s = .next (qualify { s with
        bus := ({ s.bus with prioQueue := s.bus.prioQueue ++ [f] } : Bus).takeUp
        notices := { s.notices with waiting := none } })) ∧
    (8 ≤ s.bus.queued → exec .priorityFrameAdmitted s = .next (qualify s))) ∧
  (∀ (b : Bus) (f : TxFrame),
    (b.queued < 8 → b.placePriority f = ({ b with prioQueue := b.prioQueue ++ [f] } : Bus).takeUp) ∧
    (∀ e es, 8 ≤ b.queued → b.sending ≠ some .egress → b.egressQueue = e :: es →
      b.placePriority f = ({ b with
        prioQueue := b.prioQueue ++ [f], egressQueue := es
        counts := { b.counts with dropped := min 65535 (b.counts.dropped + 1) } } : Bus).takeUp) ∧
    (∀ d e es, 8 ≤ b.queued → b.sending = some .egress → b.egressQueue = d :: e :: es →
      b.placePriority f = { b with
        prioQueue := b.prioQueue ++ [f], egressQueue := d :: es
        counts := { b.counts with dropped := min 65535 (b.counts.dropped + 1) } }) ∧
    (b.busOff = false → b.queued < 8 →
      b.offerEgress f = ({ b with egressQueue := b.egressQueue ++ [f] } : Bus).takeUp) ∧
    (b.busOff = true ∨ 8 ≤ b.queued →
      b.offerEgress f = { b with counts := { b.counts with dropped := min 65535 (b.counts.dropped + 1) } })) ∧
  (∀ (s : State) (i : Ident) (d : List Byte) (rest : List RxFrame), s.Ready → s.setup.waiting = none →
    s.bus.rxQueue = { ident := i, data := d } :: rest → i.toNat = s.requestIdent → 2 ≤ d.length → byteAt d 0 = 0x01 →
    8 ≤ s.bus.queued →
    (s.bus.egressQueue = [] ∨ (s.bus.sending = some .egress ∧ s.bus.egressQueue.length = 1) →
      exec .idReq s = .next (qualify { s with
        bus := { s.bus with rxQueue := rest }
        setup := { s.setup with waiting := some (s.response d .ok s.identity false) } })) ∧
    (∀ e es, s.bus.sending ≠ some .egress → s.bus.egressQueue = e :: es →
      exec .idReq s = .next (qualify { s with
        bus := ({ s.bus with
          rxQueue := rest, prioQueue := s.bus.prioQueue ++ [s.response d .ok s.identity false], egressQueue := es
          counts := { s.bus.counts with dropped := min 65535 (s.bus.counts.dropped + 1) } } : Bus).takeUp })))

/-! ### The setup channel (chapter 10) -/

/-- A setup frame without a tag is discarded without an answer; an unknown request code is answered UNKNOWN; a request shorter than its
shortest length is answered RANGE; none of them has another effect. -/
def Obligations.BadRequests : Prop :=
  (∀ (s : State) (i : Ident) (d : List Byte) (rest : List RxFrame), s.Ready → s.setup.waiting = none →
    s.bus.rxQueue = { ident := i, data := d } :: rest → i.toNat = s.requestIdent → d.length < 2 →
    exec .setupNoTag s = .next (qualify { s with bus := { s.bus with rxQueue := rest } })) ∧
  (∀ (s : State) (d : List Byte), s.Asked d → shortestLength (byteAt d 0) = none →
    s.OnlyAnswers d .unknownRequest .unknown []) ∧
  (∀ (s : State) (d : List Byte) (n : Nat), s.Asked d → shortestLength (byteAt d 0) = some n → d.length < n →
    ∀ c ∈ [(0x02, Instr.selReq), (0x03, .wrpReq), (0x04, .rdpReq), (0x08, .clrReq), (0x09, .actReq), (0x0C, .staReq)],
      byteAt d 0 = c.1 → s.OnlyAnswers d c.2 .range [])

/-- ID answers the part code 0x5C26, the revision byte, and the flags and states of R194; the revision byte is a free value (assumption 13).
SEL names an entry that exists: the cursor is set, the staging is emptied and the read snapshot discarded; a table or an index out of range
is answered RANGE and leaves the cursor. -/
def Obligations.IdAndSelAnswer : Prop :=
  (∀ (s : State) (d : List Byte), s.Asked d → byteAt d 0 = 0x01 →
    s.OnlyAnswers d .idReq .ok s.identity ∧
    s.identity.take 3 = [byte 0x26, byte 0x5C, Config.revision] ∧ s.identity.length = 5) ∧
  (∀ (s : State) (d : List Byte), s.Asked d → byteAt d 0 = 0x02 → 5 ≤ d.length →
    (byteAt d 3 < tableEntries (byteAt d 2) →
      exec .selReq s = .next (qualify { s with
        bus := s.answered d .ok [] false
        setup := { s.setup with
          cursor := some { table := byteAt d 2, index := byteAt d 3, auto := bitAt (byteAt d 4) 0 }
          staging := none, readSnap := none } })) ∧
    (tableEntries (byteAt d 2) ≤ byteAt d 3 → s.OnlyAnswers d .selReq .range []))

/-- WRP stages a part in its turn, with no answer data and no other effect. It is answered NOSEL without a cursor, BUSY while the store
writes, LOCKED for part 0 of what the lock covers, RANGE for a part past the last and ORDER for one out of its turn; the last three empty
the staging. The last part of an entry whose
check passes commits it: the entry replaced, its table marked unsaved (in table 0 the entry too), the cursor advanced, the staging empty,
and in a table without live state nothing else. An entry whose check fails is answered RANGE and one the lock covers LOCKED, with the tables
as they were. What a commit does beyond that: settings 0 answer under the old identifier; settings 1 hold the charge to C; settings 2 make a
changed start-up value the live one; an egress entry loads its countdown and forgets its last payload; a signal definition puts its signal
at NONE with its value kept; a moved node is SEEKING and never received; a roster entry that keeps its kind and binding changes no live
state, and one bound anew, made valid or made not valid is IDLE, or WAITING where its owner wants it; the active profile's requirement is that
of an open rest, and a profile that is not the active one changes no rest; a preheat lead forms the preheat entries anew.
MODEL'S CHOICE: a refused last part answers the cursor index too (assumption 20); the working copy of an entry bound anew, made not valid or
made of another kind (assumptions 23, 30 and 45). -/
def Obligations.WrpStagesAndCommits : Prop :=
  (∀ (s : State) (d : List Byte), s.Asked d → byteAt d 0 = 0x03 → 8 ≤ d.length →
    (s.setup.cursor = none → s.OnlyAnswers d .wrpReq .nosel []) ∧
    (∀ c : Cursor, s.setup.cursor = some c → byteAt d 2 + 1 ≠ tableParts c.table →
      (s.storeBusy = true → s.OnlyAnswers d .wrpReq .busy []) ∧
      (s.storeBusy = false →
        (tableParts c.table ≤ byteAt d 2 →
          exec .wrpReq s = .next (qualify { s with
            bus := s.answered d .range [] false, setup := { s.setup with staging := none } })) ∧
        (byteAt d 2 = 0 → 0 < tableParts c.table → s.setup.lock = true → lockCovers c.table c.index = true →
          exec .wrpReq s = .next (qualify { s with
            bus := s.answered d .locked [] false, setup := { s.setup with staging := none } })) ∧
        (0 < byteAt d 2 → byteAt d 2 < tableParts c.table →
          (∀ g, s.setup.staging = some g → g.parts.length ≠ byteAt d 2 ∨ g.table ≠ c.table ∨ g.index ≠ c.index) →
          exec .wrpReq s = .next (qualify { s with
            bus := s.answered d .order [] false, setup := { s.setup with staging := none } }))))) ∧
  (∀ (s : State) (d : List Byte) (c : Cursor) (ps : List (List Byte)), s.Asked d → byteAt d 0 = 0x03 → 8 ≤ d.length →
    s.setup.cursor = some c → s.storeBusy = false → byteAt d 2 + 1 < tableParts c.table → ps.length = byteAt d 2 →
    (byteAt d 2 = 0 → (s.setup.lock && lockCovers c.table c.index) = false) →
    (byteAt d 2 ≠ 0 → s.setup.staging = some { table := c.table, index := c.index, parts := ps }) →
    exec .wrpReq s = .next (qualify { s with
      bus := s.answered d .ok [] false
      setup := { s.setup with
        staging := some { table := c.table, index := c.index, parts := ps ++ [(d.drop 3).take 5] } } })) ∧
  (∀ (s : State) (d : List Byte) (c : Cursor) (ps : List (List Byte)), s.Asked d → byteAt d 0 = 0x03 → 8 ≤ d.length →
    s.setup.cursor = some c → s.storeBusy = false →
    byteAt d 2 + 1 = tableParts c.table → ps.length = byteAt d 2 →
    (byteAt d 2 ≠ 0 → s.setup.staging = some { table := c.table, index := c.index, parts := ps }) →
    let e := normalEntry c.table c.index (ps ++ [(d.drop 3).take 5]).flatten
    let locked := s.setup.lock && lockCovers c.table c.index
    let done := { s.setup with
      staging := none, cursor := some c.advance, unsaved := s.setup.unsaved.set c.table true
      unsavedSettings := if c.table = 0 then s.setup.unsavedSettings.set c.index true else s.setup.unsavedSettings }
    let new := { s with tables := s.tables.setEntry c.table c.index e }
    let plain := { new with bus := s.answered d .ok [byte 1, byte c.advance.index] false, setup := done }
    (locked = false → s.checkEntry c.table c.index e = false →
      exec .wrpReq s = .next (qualify { s with
        bus := s.answered d .range [byte 0, byte c.index] false
        setup := { s.setup with staging := none } })) ∧
    (locked = true →
      exec .wrpReq s = .next (qualify { s with
        bus := s.answered d .locked [byte 0, byte c.index] false
        setup := { s.setup with staging := none } })) ∧
    (locked = false → s.checkEntry c.table c.index e = true →
      (c.table ∈ [1, 6, 7, 8, 10, 11] ∨ (c.table = 0 ∧ c.index = 3) ∨ (c.table = 9 ∧ c.index ≠ s.ret.profile) ∨
          (c.table = 5 ∧ rebinds (s.cfg c.index) (rosterCfgOf e) = false) →
        exec .wrpReq s = .next (qualify plain)) ∧
      (c.table = 2 →
        exec .wrpReq s = .next (qualify { plain with
          egress := { s.egress with
            countdown := s.egress.countdown.set c.index (egressOf e).period
            lastQueued := s.egress.lastQueued.set c.index none } })) ∧
      ∃ t, exec .wrpReq s = .next t ∧
        (c.table ≠ 4 → t.tables = new.tables) ∧
        ({ t.setup with waiting := none } : Setup) = { done with waiting := none } ∧
        (t.bus.prioQueue.getLast? = some (s.response d .ok [byte 1, byte c.advance.index] false) ∨
          t.setup.waiting = some (s.response d .ok [byte 1, byte c.advance.index] false)) ∧
        t.store = s.store ∧ t.ret.clock = s.ret.clock ∧
        (c.index < (s.tables.get c.table).length →
          t.tables.entry c.table c.index = e ∧
          (c.table = 0 → c.index = 0 → t.requestIdent = leAt e 0 4 ∧ t.responseIdent = leAt e 4 4) ∧
          (c.table = 0 → c.index = 1 →
            t.ret.charge = min s.ret.charge (energySettingsOf e).capacity ∧
            t.ret.residue = (if (energySettingsOf e).capacity < s.ret.charge then 0 else s.ret.residue)) ∧
          (c.table = 0 → c.index = 2 →
            let old := s.climate
            let new := climateSettingsOf e
            t.heater.mode = (if old.heatMode = new.heatMode then s.heater.mode else heatModeOf new.heatMode) ∧
            t.heater.setPoint = (if old.heatSet = new.heatSet then s.heater.setPoint else new.heatSet) ∧
            t.fridge.on = (if old.fridgeMode = new.fridgeMode then s.fridge.on else new.fridgeMode == 1) ∧
            t.fridge.setPoint = (if old.fridgeSet = new.fridgeSet then s.fridge.setPoint else new.fridgeSet)) ∧
          (c.table = 3 → c.index < s.signals.length →
            t.signal c.index = { (s.signal c.index) with quality := .none, age := 0, changed := false } ∧
            ∀ m, m ≠ c.index → t.signal m = s.signal m) ∧
          (c.table = 4 → s.nodes.length = 12 → t.tables = s.mapAfter c.index e ∧ ∀ p < 12,
            (positionChanged (s.tables.entry 4 p) (t.tables.entry 4 p) = true →
              t.node p = NodeRec.never (seekingFor (t.kindAt p))) ∧
            (positionChanged (s.tables.entry 4 p) (t.tables.entry 4 p) = false → t.node p = s.node p)) ∧
          (c.table = 5 → rebinds (s.cfg c.index) (rosterCfgOf e) = true → c.index < s.roster.live.length →
            ((t.live c.index).grant = .idle ∨ (t.live c.index).grant = .waiting) ∧
            (t.live c.index).work = (if (rosterCfgOf e).valid = true then (rosterCfgOf e).work else Working.init)) ∧
          (c.table = 9 → c.index = s.ret.profile → s.restOpen = true → t.restRec.required = (profileOf e).required) ∧
          (c.table = 12 → (∀ w ∈ (formPreheat new).ret.queue, s.ret.clock < w.due) → t.ret = (formPreheat new).ret))))

/-- RDP of part 0 snapshots the entry and answers its first bytes; a later part answers from the snapshot of the same entry and is ORDER
without one; a part past the last is RANGE; without a cursor it is NOSEL. With auto-advance the last part moves the cursor on and discards
the snapshot. -/
def Obligations.RdpReadsAnEntry : Prop :=
  ∀ (s : State) (d : List Byte), s.Asked d → byteAt d 0 = 0x04 → 3 ≤ d.length →
    (s.setup.cursor = none → s.OnlyAnswers d .rdpReq .nosel []) ∧
    (∀ c : Cursor, s.setup.cursor = some c →
      let last : Bool := decide (byteAt d 2 + 1 = tableParts c.table) && c.auto
      (tableParts c.table ≤ byteAt d 2 → s.OnlyAnswers d .rdpReq .range []) ∧
      (byteAt d 2 = 0 → 0 < tableParts c.table →
        let e := s.tables.entry c.table c.index
        exec .rdpReq s = .next (qualify { s with
          bus := s.answered d .ok (e.take 5) false
          setup :=
            if last = true then { s.setup with cursor := some c.advance, readSnap := none }
            else { s.setup with readSnap := some { table := c.table, index := c.index, bytes := e } } })) ∧
      (0 < byteAt d 2 → byteAt d 2 < tableParts c.table →
        (∀ r, s.setup.readSnap = some r → r.table = c.table → r.index = c.index →
          exec .rdpReq s = .next (qualify { s with
            bus := s.answered d .ok (r.bytes.drop (5 * byteAt d 2)) false
            setup := if last = true then { s.setup with cursor := some c.advance, readSnap := none } else s.setup })) ∧
        ((∀ r, s.setup.readSnap = some r → r.table ≠ c.table ∨ r.index ≠ c.index) → s.OnlyAnswers d .rdpReq .order [])))

/-- SAV begins a save of the committed tables under the next save number, LCK a lock write unless edits of what it covers are unsaved or the
lock is set already, DEF and RST arrange a restart that their answer's leaving sets off; while the store writes, SAV, LCK and DEF are BUSY.
MODEL'S CHOICE: the save number of a store without an image counts from 0 (assumption 12). -/
def Obligations.StoreRequests : Prop :=
  ∀ (s : State) (d : List Byte), s.Asked d →
    (s.storeBusy = true →
      (byteAt d 0 = 0x05 → s.OnlyAnswers d .savReq .busy []) ∧ (byteAt d 0 = 0x07 → s.OnlyAnswers d .lckReq .busy []) ∧
      (byteAt d 0 = 0x06 → s.OnlyAnswers d .defReq .busy [])) ∧
    (s.storeBusy = false →
      (byteAt d 0 = 0x05 →
        exec .savReq s = .next (qualify { s with
          bus := s.answered d .ok [] false
          setup := { s.setup with store := .saving }
          store := { s.store with writing := some (makeCopy (s.store.currentNumber + 1) s.tables) } })) ∧
      (byteAt d 0 = 0x07 → s.setup.lock = true → s.OnlyAnswers d .lckReq .ok []) ∧
      (byteAt d 0 = 0x07 → s.setup.lock = false → s.unsavedLocked = true → s.OnlyAnswers d .lckReq .order []) ∧
      (byteAt d 0 = 0x07 → s.setup.lock = false → s.unsavedLocked = false →
        exec .lckReq s = .next (qualify { s with
          bus := s.answered d .ok [] false, setup := { s.setup with store := .lockWriting } })) ∧
      (byteAt d 0 = 0x06 → s.setup.restart = none →
        exec .defReq s = .next (qualify { s with
          bus := s.answered d .ok [] true
          setup := { s.setup with restart := some { cause := .defaults, answerLeft := false } } }))) ∧
    (byteAt d 0 = 0x0B → s.setup.restart = none →
      exec .rstReq s = .next (qualify { s with
        bus := s.answered d .ok [] true
        setup := { s.setup with restart := some { cause := .restart, answerLeft := false } } }))

/-- SAVE_COMPLETE: a good save makes the written copy the current image, clears every unsaved mark and latches SAVE_DONE with the save
number; a failed one leaves the current image and the marks and latches NV_FAULT. LOCK_WRITE_COMPLETE: a good write sets the lock and its
mark; a failed one leaves the lock clear and latches NV_FAULT.
MODEL'S CHOICE: a failed save leaves its copy absent (assumption 12). -/
def Obligations.StoreWritesComplete : Prop :=
  (∀ (s : State) (c : ImageCopy), s.Settled → s.setup.store = .saving → s.store.writing = some c → s.store.copies.length = 2 →
    s.notices.details.length = 16 →
    (∃ t, exec (.saveComplete true) s = .next t ∧ s.OnlyIn [.bus, .setup, .store, .notices, .power] t ∧
      t.setup = { s.setup with
        store := .idle, image := .loaded, unsaved := List.replicate 13 false, unsavedSettings := List.replicate 4 false } ∧
      t.store = { s.store with
        copies := s.store.copies.set s.store.target (some c), current := some s.store.target, writing := none } ∧
      t.notices.flags.getLsbD 14 = true ∧ t.notices.details.getD 14 [] = le 4 c.saveNumber) ∧
    (∃ t, exec (.saveComplete false) s = .next t ∧ s.OnlyIn [.bus, .setup, .store, .notices, .power] t ∧
      t.setup = { s.setup with store := .idle } ∧
      t.store = { s.store with copies := s.store.copies.set s.store.target none, writing := none } ∧
      t.notices.flags.getLsbD 15 = true ∧ (t.notices.details.getD 15 []).head? = some (byte 0))) ∧
  (∀ s : State, s.Settled → s.setup.store = .lockWriting → s.notices.details.length = 16 →
    exec (.lockWriteComplete true) s = .next (qualify { s with
      setup := { s.setup with store := .idle, lock := true }, store := { s.store with mark := .valid } }) ∧
    (∃ t, exec (.lockWriteComplete false) s = .next t ∧ s.OnlyIn [.bus, .setup, .notices, .power] t ∧
      t.setup = { s.setup with store := .idle } ∧
      t.notices.flags.getLsbD 15 = true ∧ (t.notices.details.getD 15 []).head? = some (byte 0)))

/-- RESTART_TRIGGER carries an arranged restart out as a reset of its cause.
MODEL'S CHOICE: the tables of a held part (assumption 31). -/
def Obligations.RestartTriggers : Prop :=
  ∀ (s : State) (r : RestartDue), s.phase = .running → s.setup.restart = some r →
    ∃ t, exec .restartTrigger s = .next t ∧ t.phase = .held ∧ t.power.cause = r.cause ∧ t.tables = defaultTables ∧
      t.bus = Bus.init ∧ t.notices = Notices.init ∧ t.store = s.store.tear ∧ t.pending = s.pending ∧
      (r.cause ≠ .powerOn → t.ret = s.ret)

/-- CLR clears the flags of its mask and their details, and no others. RFR from IN_SYNC loses sync: SEARCH is entered with every history
empty, and every record is stale; from the other states SEARCH is entered and no record changes. -/
def Obligations.ClrAndRfrAct : Prop :=
  (∀ (s : State) (d : List Byte), s.Asked d → byteAt d 0 = 0x08 → 4 ≤ d.length →
    let mask := BitVec.ofNat 16 (leAt d 2 2)
    ∃ t, exec .clrReq s = .next t ∧ s.OnlyIn [.bus, .notices, .power] t ∧ t.bus = s.answered d .ok [] false ∧
      t.notices.flags = s.notices.flags &&& ~~~mask ∧
      (∀ k < 16, t.notices.details.getD k [] =
        if mask.getLsbD k = true then padTo 4 [] else s.notices.details.getD k (padTo 4 [])) ∧
      t.notices.repeatTimer = s.notices.repeatTimer) ∧
  (∀ (s : State) (d : List Byte), s.Asked d → byteAt d 0 = 0x0A →
    ∃ t, exec .rfrReq s = .next t ∧ t.rx.state = .search ∧ t.rx.hist = List.replicate 121 Hist.init ∧
      t.rx.candidate = none ∧ t.rx.record = [] ∧ t.rx.last = s.rx.last ∧
      (s.rx.state = .inSync → ∀ r ∈ t.nodes, r.stale = true) ∧ (s.rx.state ≠ .inSync → t.nodes = s.nodes) ∧
      t.tables = s.tables ∧ t.store = s.store ∧ t.signals = s.signals ∧ t.egress = s.egress)

/-- ACT: a code outside 1 to 13 is UNKNOWN, an argument that its check refuses is RANGE and is counted, REST_PROFILE under the lock is
LOCKED and counted; an action that is taken stands in the dispatch record as TAKEN with its argument after the check, which the answer
carries, and has its owner's effect: HEAT_MODE, HEAT_SET, HEAT_STEP and HEAT_RESET (R109, R126), FRIDGE_MODE and FRIDGE_SET (R131, R132),
SCENE, LIGHTS_OFF and LIGHT_STEP (R148 to R150), OUTLET (R78), ACK (R181), REST_PROFILE (R164) and ALARM_SET (R174).
A press from a panel is one such action: key k short is entry 2k of its panel, long 2k + 1, and an entry that holds NONE does nothing (R49).
An accepted message of a PRESENT panel dispatches as many presses of a key as its counter has risen by, modulo 16, and becomes the baseline;
the first one only becomes the baseline (R47, R48).
MODEL'S CHOICE: bytes 3 to 6 of a RANGE, LOCKED or UNKNOWN answer are 0 (assumption 65); an action without an argument is answered with all
ones there, an absent optional field (R205, assumption 20); the standby conditions are looked at after each press (assumption 36). -/
def Obligations.ActDispatches : Prop :=
  (∀ (s : State) (d : List Byte), s.Asked d → byteAt d 0 = 0x09 → 7 ≤ d.length →
    let code := byteAt d 2
    let a := leSAt d 3 4
    let refused : Panel := { s.panel with
      refused := sat16 s.panel.refused
      record := some { code := code, argument := some a, source := .act, taken := false } }
    ((code = 0 ∨ 13 < code) → s.OnlyAnswers d .actReq .unknown []) ∧
    (1 ≤ code → code ≤ 13 → s.checkAction code a = .refuse →
      exec .actReq s = .next (qualify { s with bus := s.answered d .range [] false, panel := refused })) ∧
    (1 ≤ code → code ≤ 13 → s.checkAction code a = .locked →
      exec .actReq s = .next (qualify { s with bus := s.answered d .locked [] false, panel := refused })) ∧
    (1 ≤ code → code ≤ 13 → ∀ arg, s.checkAction code a = .take arg →
      let quiet : Prop := ∀ w ∈ s.ret.queue, s.ret.clock < w.due
      ∃ t, exec .actReq s = .next t ∧ t.panel.refused = s.panel.refused ∧
        t.panel.record = some { code := code, argument := arg, source := .act, taken := true } ∧
        s.OnlyIn [.bus, .panel, .roster, .heater, .fridge, .lights, .rest, .setup, .notices, .power, .ret] t ∧
        (t.bus.prioQueue.getLast? = some (s.response d .ok (leSOpt 4 arg) false) ∨
          t.setup.waiting = some (s.response d .ok (leSOpt 4 arg) false)) ∧
        (code ∈ [7, 8, 9] → t.bus = s.answered d .ok (leSOpt 4 arg) false) ∧
        (code = 1 → t.heater.mode = heatModeOf a.toNat ∧ (a = 0 → quiet → t.heater.window = none)) ∧
        (code = 2 → t.heater.setPoint = clampI 50 300 a) ∧
        (code = 3 → t.heater.setPoint = clampI 50 300 (s.heater.setPoint + clampI (-250) 250 a)) ∧
        (code = 4 →
          (s.heater.state = .lockout → t.heater.state ≠ .lockout ∧ t.ret.failedStarts = 0 ∧ t.ret.lockout = false) ∧
          (s.heater.state ≠ .lockout → t.heater = s.heater ∧ t.ret = s.ret)) ∧
        (code = 5 → t.fridge.on = (a == 1)) ∧
        (code = 6 → t.fridge.setPoint = clampI (-50) 100 a) ∧
        (code = 7 → s.lights.channels.length = 8 → ∀ c < 8,
          let e := s.scene a.toNat c
          t.channel c = if e.include_ = true then ({ s.channel c with pending := some e.tint } : Channel).startFade e.level e.fade
            else s.channel c) ∧
        (code = 8 → s.lights.channels.length = 8 → ∀ c < 8,
          t.channel c = if 0 < (s.channel c).target then (s.channel c).startFade 0 s.lightSettings.offFade else s.channel c) ∧
        (code = 9 → s.lights.channels.length = 8 → ∀ c < 8,
          let dest := (clampI 0 255 ((s.channel c).target + clampI (-255) 255 a)).toNat
          t.channel c = if s.bunk c = true ∧ dest ≠ (s.channel c).target then (s.channel c).startFade dest 4 else s.channel c) ∧
        (code = 10 → ∀ i, s.outletEntry (a / 10).toNat = some i → i < s.roster.live.length → (a / 10).toNat < s.roster.outlets.length →
          t.roster.outlets = s.roster.outlets.set (a / 10).toNat (a % 10 == 1) ∧ (t.live i).want = (a % 10 == 1)) ∧
        (code = 11 → quiet → t.ret.active = none) ∧
        (code = 12 → t.ret.profile = a.toNat ∧
          (s.restOpen = true → t.restRec.required = (profileOf (s.tables.entry 9 a.toNat)).required)) ∧
        (code = 13 → a = 0 → t.ret.alarm = none) ∧
        (code = 13 → a ≠ 0 → t.ret.alarm = some (s.ret.clock + (clampI 1 1440 a).toNat) ∧ t.rest.wake = t.ret.alarm))) ∧
  (∀ (s : State) (src : ActionSource) (code : Nat) (a : Int),
    (s.checkAction code a = .refuse ∨ s.checkAction code a = .locked →
      handAction src code a s = { s with panel := { s.panel with
        refused := sat16 s.panel.refused
        record := some { code := code, argument := some a, source := src, taken := false } } }) ∧
    (∀ i c, s.keyAction i = (code, c) →
      press i s = if code = 0 then s else qualify (handAction .panelKey code c s))) ∧
  (∀ (s : State) (p : Nat), (s.node p).presence ≠ .present → panelMessage p s = s) ∧
  (∀ (s : State) (p : Nat) (new : List Nat), (s.node p).presence = .present → (s.node p).counters = some new →
    let n := s.panelNumber p
    (s.baseline n = none → panelMessage p s = setBaseline n (some new) s) ∧
    (∀ old, s.baseline n = some old → (∀ k < 8, presses old new k = 0) → panelMessage p s = setBaseline n (some new) s) ∧
    (∀ old k, s.baseline n = some old → k < 8 → (∀ j < 8, j ≠ k → presses old new j = 0) →
      panelMessage p s = setBaseline n (some new)
        (pressTimes (8 * n + (if k < 4 then 2 * k else 2 * (k - 4) + 1)) (presses old new k) s)))

/-- STA of page 0 snapshots the item and answers its first five bytes; a later page answers from the snapshot of the same item; an item the
part does not know is UNKNOWN, a selector or a page out of range RANGE.
MODEL'S CHOICE: an item without a selector ignores the selector byte (assumption 20). -/
def Obligations.StaReadsAnItem : Prop :=
  ∀ (s : State) (d : List Byte), s.Asked d → byteAt d 0 = 0x0C → 5 ≤ d.length →
    let item := byteAt d 2
    (selectors item = none → s.OnlyAnswers d .staReq .unknown []) ∧
    (∀ n, selectors item = some n →
      let sel := if n = 0 then 0 else byteAt d 3
      (n ≠ 0 → n ≤ byteAt d 3 → s.OnlyAnswers d .staReq .range []) ∧
      ((n = 0 ∨ byteAt d 3 < n) →
        let b := State.itemBytes { s with bus := { s.bus with rxQueue := s.bus.rxQueue.tail } } item sel
        (b.length ≤ 5 * byteAt d 4 → s.OnlyAnswers d .staReq .range []) ∧
        (byteAt d 4 = 0 → b ≠ [] →
          exec .staReq s = .next (qualify { s with
            bus := s.answered d .ok (b.take 5) false
            setup := { s.setup with statusSnap := some { item := item, selector := sel, bytes := b } } })) ∧
        (0 < byteAt d 4 → 5 * byteAt d 4 < b.length →
          (∀ g, s.setup.statusSnap = some g → g.item = item → g.selector = sel →
            s.OnlyAnswers d .staReq .ok (g.bytes.drop (5 * byteAt d 4))) ∧
          ((∀ g, s.setup.statusSnap = some g → g.item ≠ item ∨ g.selector ≠ sel) → s.OnlyAnswers d .staReq .order []))))

/-! ### The berth loop (chapter 2) -/

/-- The eight bytes of a command sum to 0 modulo 256, with direction 0, its kind and its sequence in the header (R22, R205).
TRANSMIT_CYCLE: after the end of the cycle just sent, each mapped position holds the command of its owner's payload, its sequence raised
modulo 16 where the payload has changed or the raise is due, and each position mapped NONE holds eight zero bytes; the round is 0, and the
out-of-sync count has risen, up to 5, unless the receiver is in sync. Every unechoed item is one cycle older, and a raised sequence joins
its position's list at age 0; where the list holds 8 the oldest leaves (R35).
The line: a round is its marker bit and then, slot by slot, byte k of each position's message, least significant bit first, with an even
parity bit and a stop bit of 1, 121 bits in all, and a slot sent is received without a slot error as the byte it was. While the part is
held the line stays at 1; in STANDBY the round in progress at its entry is finished, no cycle starts, and then the line stays at 1 (R21,
R205).
MODEL'S CHOICE: the parts of the end of a cycle come in one order (assumption 6), and what the ended cycle makes due, such as LOOP_FAILED,
comes after the payloads are copied (assumption 11); in STANDBY TRANSMIT_CYCLE and RECEIVED_ROUND end the round in progress (assumption
60). -/
def Obligations.CyclesCarryCheckedCommands : Prop :=
  (∀ (k : NodeKind) (seq : Nat) (p : List Byte), seq < 16 → p.length = 6 →
    (commandMessage k seq p).length = 8 ∧ ((commandMessage k seq p).map BitVec.toNat).sum % 256 = 0 ∧
    byteAt (commandMessage k seq p) 0 = 2 * k.code + 16 * seq ∧ ((commandMessage k seq p).drop 1).take 6 = p) ∧
  (∀ s : State, s.Ready →
    let e := endCycle s
    ∃ t, exec .transmitCycle s = .next t ∧
      t.tx.round = 0 ∧ t.tx.windowCycles = s.tx.windowCycles + 1 ∧
      t.tx.outOfSync = (if s.rx.state = .inSync then s.tx.outOfSync else min 5 (s.tx.outOfSync + 1)) ∧
      (∀ p < 12, s.kindAt p = .none → (t.loopPos p).message = padTo 8 [] ∧
        (t.loopPos p).unechoed = (s.loopPos p).unechoed.map fun u => { u with cycles := u.cycles + 1 }) ∧
      (∀ p < 12, s.kindAt p ≠ .none →
        (t.loopPos p).sent = e.payload p ∧ (t.loopPos p).raise = false ∧
        (t.loopPos p).seq = (if (s.loopPos p).raise = true ∨ e.payload p ≠ (s.loopPos p).sent
          then ((s.loopPos p).seq + 1) % 16 else (s.loopPos p).seq) ∧
        (t.loopPos p).message = commandMessage (s.kindAt p) (t.loopPos p).seq (e.payload p) ∧
        (let aged := (s.loopPos p).unechoed.map fun u => { u with cycles := u.cycles + 1 }
         (t.loopPos p).unechoed =
           if (s.loopPos p).raise = true ∨ e.payload p ≠ (s.loopPos p).sent then
             (if aged.length < 8 then aged else aged.drop (aged.length - 7)) ++ [{ seq := (t.loopPos p).seq, cycles := 0 }]
           else aged)) ∧
      t.lineBits = t.tx.roundBits ∧
      s.OnlyIn [.tx, .panel, .roster, .energy, .heater, .fridge, .lights, .rest, .ret, .power] t) ∧
  (∀ b : Byte, (slotBits b).length = 10 ∧ slotError (slotBits b) = false ∧ byte (bitsValue ((slotBits b).take 8)) = b) ∧
  (∀ s : State, s.tx.roundBits.length = 121 ∧ s.tx.roundBits.head? = some (marker s.tx.round) ∧
    (∀ p < 12, (s.tx.roundBits.drop (1 + 10 * p)).take 10 = slotBits ((s.loopPos p).message.getD s.tx.round 0)) ∧
    (s.phase = .held → s.lineBits = List.replicate 121 true) ∧
    (s.phase = .running → s.power.state = .standby →
      s.lineBits = if s.tx.finishing = true then s.tx.roundBits else List.replicate 121 true)) ∧
  (∀ (s : State) (bits : BitVec 121), s.Settled → s.power.state = .standby →
    let rested := { s with tx := { s.tx with finishing := false } }
    exec .transmitCycle s = .next (qualify rested) ∧ exec (.receivedRound bits) s = .next (qualify rested))

/-- The law of R151: at a cycle step the output of a channel without an overlay, whose roster entry is WAITING, SHEDDING or SHED, is
composed at the shed cap or below; the components are its tint's scaled by that level (R152). -/
def Obligations.CappedLightsStayBelowTheShedCap : Prop :=
  ∀ (s : State) (c i : Nat), c < 8 → s.lights.channels.length = 8 → (s.channel c).link = none → s.lightEntryOf c = some i →
    ((s.live i).grant = .waiting ∨ (s.live i).grant = .shedding ∨ (s.live i).grant = .shed) →
    let o := ((cycleStep s).channel c).out
    o.level ≤ s.lightSettings.shedCap ∧ o.warm = (s.tint o.tint).1 * o.level / 255 ∧ o.cool = (s.tint o.tint).2.1 * o.level / 255 ∧
      o.red = (s.tint o.tint).2.2 * o.level / 255

/-- A fade of `n` steps to a target goes in a straight line, truncated toward the start, and ends on its target after exactly `n` cycle
steps (R146, R147). -/
def Obligations.FadesReachTheirTarget : Prop :=
  ∀ (c : Channel) (target n k : Nat), c.level ≤ 255 → target ≤ 255 → target ≠ c.level → 1 ≤ n → 1 ≤ k → k ≤ n →
    let d := Nat.iterate Channel.step k (c.startFade target n)
    (d.level : Int) = c.level + Int.tdiv (((target : Int) - c.level) * k) n ∧ (d.fade = none ↔ k = n) ∧
      (k = n → d.level = target)

/-- RECEIVED_ROUND in HOLD looks at no bit; in the other states it takes the round's 121 bits one after another, position 0 first, and then
the round number is one more modulo 8; in SEARCH, while no position has yet eight bits, every bit joins its position's history and nothing
else is found.
Bit by bit: in SEARCH the first history that matches the marker pattern becomes the candidate (R24) and a further one sets MIMIC_SEEN (R25);
the last bit of that round enters CONFIRM, or under MIMIC_STRICT with a mimic searches again. In CONFIRM a bit at the candidate that is not
the expected one searches again, and the eighth that is right enters IN_SYNC with the candidate's alignment: the out-of-sync count and
LOOP_FAILED clear, LOOP_REALIGNED latched where the last alignment was another (R26, R29, R31). In IN_SYNC a marker bit joins the comparison
record, and K errors among the newest N lose sync, to SEARCH or HOLD as AUTO_REFRAME says, with every record stale (R27); a slot's tenth bit
adds its byte to its position's message and counts a slot error (R32, R33), and the last slot of round 7 completes the twelve messages.
STATUS_MESSAGE: a message with a slot error, a wrong check sum or a command's direction bit, or one that a node map commit dropped, is set
aside with no other effect.
MODEL'S CHOICE: a round brings its 121 bits, position 0 first (assumption 29); the messages wait in the order of their positions (assumption
40). -/
def Obligations.ReceivedBitsAreSifted : Prop :=
  (∀ (s : State) (bits : BitVec 121), s.Ready →
    (s.rx.state = .hold →
      exec (.receivedRound bits) s = .next (qualify { s with tx := { s.tx with round := (s.tx.round + 1) % 8 } })) ∧
    (s.rx.state ≠ .hold →
      let u := (List.range 121).foldl (fun u i => receiveBit i (bits.getLsbD i) u) s
      exec (.receivedRound bits) s = .next (qualify { u with tx := { u.tx with round := (s.tx.round + 1) % 8 } })) ∧
    (s.rx.state = .search → s.rx.candidate = none → s.rx.hist.length = 121 → (∀ h ∈ s.rx.hist, h.count < 7) →
      exec (.receivedRound bits) s = .next (qualify { s with
        tx := { s.tx with round := (s.tx.round + 1) % 8 }
        rx := { s.rx with
          hist := (List.range 121).map fun i => (s.rx.hist.getD i Hist.init).push (bits.getLsbD i) } }))) ∧
  (∀ (s : State) (m : ReadyMsg) (rest : List ReadyMsg), s.phase = .running → s.rx.ready = m :: rest →
    (m.bad = true ∨ m.dropped = true ∨ (m.bytes.map BitVec.toNat).sum % 256 ≠ 0 ∨ bitAt (byteAt m.bytes 0) 0 = false) →
    exec .statusMessage s = .next (qualify { s with rx := { s.rx with ready := rest } })) ∧
  (∀ (s : State) (i : Nat) (b : Bool),
    let x := { s.rx with hist := s.rx.hist.modify i (Hist.push b) }
    let seen := { s with rx := x }
    let again := { s with rx := x.toSearch }
    (s.rx.state = .search → i < 120 →
      (∀ r, x.matchAt i = some r →
        (s.rx.candidate = none → receiveBit i b s = { s with rx := { x with
          candidate := some { position := i, round := r, phase := (r + 8 - s.tx.round % 8) % 8 }, mimicSeen := false } }) ∧
        (∀ c, s.rx.candidate = some c → c.position ≠ i → receiveBit i b s = { s with rx := { x with mimicSeen := true } })) ∧
      (x.matchAt i = none → receiveBit i b s = seen)) ∧
    (s.rx.state = .search → i = 120 →
      (∀ r, x.matchAt i = some r → s.rx.candidate = none → s.strict = false →
        receiveBit i b s = { s with rx := { x with
          state := .confirm, confirmed := 0, mimicSeen := false
          candidate := some { position := i, round := r, phase := (r + 8 - s.tx.round % 8) % 8 } } }) ∧
      (∀ c, s.rx.candidate = some c → c.position ≠ i → (x.matchAt i).isSome = true →
        receiveBit i b s =
          if s.strict = true then again else { s with rx := { x with state := .confirm, confirmed := 0, mimicSeen := true } }) ∧
      (∀ c, s.rx.candidate = some c → x.matchAt i = none →
        receiveBit i b s =
          if s.strict = true ∧ s.rx.mimicSeen = true then again
          else { s with rx := { x with state := .confirm, confirmed := 0 } }) ∧
      (s.rx.candidate = none → x.matchAt i = none → receiveBit i b s = seen)) ∧
    (∀ c, s.rx.state = .confirm → s.rx.candidate = some c →
      (i ≠ c.position → (x.matchAt i).isSome = true → s.strict = false →
        receiveBit i b s = { s with rx := { x with mimicSeen := true } }) ∧
      (i ≠ c.position → (x.matchAt i).isSome = true → s.strict = true → receiveBit i b s = again) ∧
      (i ≠ c.position → x.matchAt i = none → s.strict = false ∨ s.rx.mimicSeen = false → receiveBit i b s = seen) ∧
      (i = c.position → b ≠ marker (c.round + 1 + s.rx.confirmed) → receiveBit i b s = again) ∧
      (i = c.position → b = marker (c.round + 1 + s.rx.confirmed) → s.strict = false ∨ s.rx.mimicSeen = false → s.rx.confirmed + 1 < 8 →
        receiveBit i b s = { s with rx := { x with confirmed := s.rx.confirmed + 1 } }) ∧
      (i = c.position → b = marker (c.round + 1 + s.rx.confirmed) → s.strict = false ∨ s.rx.mimicSeen = false → s.rx.confirmed + 1 = 8 →
        let t := receiveBit i b s
        t.rx.state = .inSync ∧ t.rx.last = some { position := c.position, phase := c.phase } ∧ t.rx.record = [] ∧
        t.rx.candidate = none ∧ t.tx = { s.tx with outOfSync := 0, failed := false } ∧
        (∀ a, s.rx.last = some a → a ≠ { position := c.position, phase := c.phase } → t.notices.flags.getLsbD 11 = true) ∧
        (s.tx.failed = true → t.notices.flags.getLsbD 2 = true) ∧
        ((s.rx.last = none ∨ s.rx.last = t.rx.last) → s.tx.failed = false → t.notices = s.notices ∧ t.bus = s.bus) ∧
        s.OnlyIn [.bus, .tx, .rx, .notices] t))) ∧
  (∀ (s : State) (i : Nat) (b : Bool) (a : Machine.Alignment), s.rx.state = .inSync → s.rx.last = some a →
    let x := { s.rx with hist := s.rx.hist.modify i (Hist.push b) }
    let round := (s.rx.round + 1) % 8
    let record := (s.rx.record ++ [b != marker round]).drop (s.rx.record.length + 1 - 8)
    let newest := record.drop (record.length - s.lossRule.2)
    (i = a.position → (newest.filter id).length < s.lossRule.1 →
      receiveBit i b s = { s with rx := { x with
        round := round, record := record, slotBits := [], slot := 0, assembling := x.assembling || round == 0
        parts := if round = 0 then List.replicate 12 Assembly.init else x.parts } }) ∧
    (i = a.position → s.lossRule.1 ≤ (newest.filter id).length →
      (receiveBit i b s).rx.state = (if s.autoReframe = true then .search else .hold) ∧
      (receiveBit i b s).rx.last = some a ∧ ∀ r ∈ (receiveBit i b s).nodes, r.stale = true) ∧
    (i ≠ a.position → 12 ≤ s.rx.slot → receiveBit i b s = { s with rx := x }) ∧
    (i ≠ a.position → s.rx.slot < 12 → s.rx.slotBits.length ≠ 9 →
      receiveBit i b s = { s with rx := { x with slotBits := s.rx.slotBits ++ [b] } }) ∧
    (i ≠ a.position → s.rx.slot < 12 → s.rx.slotBits.length = 9 →
      let bits := s.rx.slotBits ++ [b]
      let parts := if s.rx.assembling = true then s.rx.parts.modify s.rx.slot fun p =>
          { p with bytes := p.bytes ++ [byte (bitsValue (bits.take 8))], bad := p.bad || slotError bits }
        else s.rx.parts
      let tx := if slotError bits = true then { s.tx with windowErrors := s.tx.windowErrors + 1 } else s.tx
      (s.rx.slot = 11 ∧ s.rx.round = 7 ∧ s.rx.assembling = true →
        receiveBit i b s = { s with tx := tx, rx := { x with
          slotBits := [], slot := 12, endDue := true, parts := List.replicate 12 Assembly.init
          ready := positions.map fun p =>
            { position := p, bytes := (parts.getD p Assembly.init).bytes, bad := (parts.getD p Assembly.init).bad
              dropped := (parts.getD p Assembly.init).dropped } } }) ∧
      (s.rx.slot ≠ 11 ∨ s.rx.round ≠ 7 ∨ s.rx.assembling = false →
        receiveBit i b s = { s with tx := tx, rx := { x with slotBits := [], slot := s.rx.slot + 1, parts := parts } })))

/-- STATUS_MESSAGE of a message whose framing, check sum and direction are right. Of a battery: its values in the record, the held current of
the accountant, the hold count at 0, BATTERY_BLIND clear. Of any mapped kind: the record takes the measurements, and each debounced field a
value that comes twice in a row (R43); its stale mark clears; MISMATCH becomes SEEKING; its sequence is the last echoed one, and leaves the
unechoed list with every older item (R35). Its owner acts: a heater in STARTING sees its start at GLOW and IGNITE, ends it well at FLAME, and
fails it at PURGE, at FAULT and, once the start is seen, at IDLE; one in RUNNING fails at any phase but FLAME, and FAULT latches HEATER_FAULT
(R119); a failed start in RETRY_WAIT and an outstanding purge in LOCKOUT end at IDLE (R120, R126); the fridge in HELD, told of a held change to
STOPPED before the acceptance (R42), starts its compressor whatever the reading where nothing else stops it, and without a held change a
reading at or below the effective set point ends HELD (R134); its protect timer runs from the protect level and stops at the set point (R139);
light faults reach their channels (R159); a PRESENT panel's counters become its baseline (R47); a new output fault switches the output off
(R79). A value outside a field's list discards the message whole. A message of another kind turns the position MISMATCH, stale, with its notice, and in MISMATCH does nothing
more (R39).
MODEL'S CHOICE: a held output fault acts in every presence state (assumption 44); where no held change comes, a reading ends HELD before a
node made ready by the message can start (assumption 62). -/
def Obligations.BatteryMessageAccepted : Prop :=
  (∀ (s : State) (m : ReadyMsg) (rest : List ReadyMsg), s.phase = .running → s.rx.ready = m :: rest → m.position < 12 →
    s.nodes.length = 12 → s.tx.pos.length = 12 → m.bad = false → m.dropped = false →
    (m.bytes.map BitVec.toNat).sum % 256 = 0 → bitAt (byteAt m.bytes 0) 0 = true → field (byteAt m.bytes 0) 1 3 = 1 →
    s.kindAt m.position = .battery →
    ∃ t, exec .statusMessage s = .next t ∧
      (t.node m.position).measures = .battery (leSAt m.bytes 1 2) (leAt m.bytes 3 2) (leSAt m.bytes 5 1) ∧
      (t.node m.position).stale = false ∧ (t.node m.position).result = .accepted ∧
      t.energy.held = some (leSAt m.bytes 1 2) ∧ t.energy.holdCount = 0 ∧ t.energy.blind = false ∧ t.energy.heard = true ∧
      (t.loopPos m.position).lastEcho = some (field (byteAt m.bytes 0) 4 4) ∧
      (∀ p, p ≠ m.position → t.node p = s.node p ∧ t.loopPos p = s.loopPos p) ∧
      s.OnlyIn [.bus, .tx, .rx, .nodes, .roster, .energy, .notices, .ret, .power] t) ∧
  (∀ (s : State) (m : ReadyMsg) (rest : List ReadyMsg), s.phase = .running → s.rx.ready = m :: rest → m.position < 12 →
    s.nodes.length = 12 → s.tx.pos.length = 12 → m.bad = false → m.dropped = false →
    (m.bytes.map BitVec.toNat).sum % 256 = 0 → bitAt (byteAt m.bytes 0) 0 = true →
    let p := m.position
    let k := s.kindAt p
    let old := s.node p
    let taken := { s.rx with ready := rest }
    (field (byteAt m.bytes 0) 1 3 ≠ k.code →
      (old.presence = .mismatch →
        exec .statusMessage s = .next (qualify { s with
          rx := taken, nodes := s.nodes.modify p fun r => { r with result := .foreign } })) ∧
      (old.presence ≠ .mismatch → ∃ t, exec .statusMessage s = .next t ∧
        t.node p = { old with presence := .mismatch, count := 0, stale := true, result := .foreign } ∧
        (∀ q, q ≠ p → t.node q = s.node q) ∧ t.notices.flags.getLsbD 12 = true ∧ t.rx = taken ∧ t.tx = s.tx ∧
        s.OnlyIn [.bus, .rx, .nodes, .panel, .roster, .heater, .fridge, .lights, .rest, .notices, .power, .ret] t)) ∧
    (field (byteAt m.bytes 0) 1 3 = k.code →
      (decodeStatus k m.bytes = none → exec .statusMessage s = .next (qualify { s with rx := taken })) ∧
      (∀ d, decodeStatus k m.bytes = some d → ∃ t, exec .statusMessage s = .next t ∧
        t.node p = { old with
          presence := if old.presence = .mismatch then .seeking else old.presence
          count := if old.presence = .mismatch then 0 else old.count
          stale := false, measures := d.measures, result := .accepted
          heldA := debounce old.heldA old.candA d.fieldA, candA := d.fieldA
          heldB := debounce old.heldB old.candB d.fieldB, candB := d.fieldB } ∧
        (∀ q, q ≠ p → t.node q = s.node q ∧ t.loopPos q = s.loopPos q) ∧
        t.loopPos p = (s.loopPos p).echo (field (byteAt m.bytes 0) 4 4) ∧ t.rx = taken ∧
        s.OnlyIn [.bus, .tx, .rx, .nodes, .panel, .roster, .energy, .heater, .fridge, .lights, .rest, .notices, .power, .ret] t ∧
        (k = .heater → s.positionsOf .heater = [p] → s.DemandStands t → old.heldA ≠ (t.node p).heldA →
          let phase := (t.node p).heldA
          let stays := t.heater.state = s.heater.state ∧ t.heater.ignition = s.heater.ignition ∧
            t.ret.failedStarts = s.ret.failedStarts ∧ t.notices.flags.getLsbD 4 = s.notices.flags.getLsbD 4
          (s.heater.state = .starting →
            (phase = some 1 ∨ phase = some 2 → stays ∧ t.heater.startSeen = true) ∧
            (phase = some 0 → s.heater.startSeen = false → stays ∧ t.heater.startSeen = false) ∧
            (phase = some 0 → s.heater.startSeen = true → s.HeaterFailed t) ∧
            (phase = some 4 ∨ phase = some 5 → s.HeaterFailed t) ∧
            (phase = some 3 →
              t.heater.state = .running ∧ t.heater.ignition = none ∧ t.heater.ignitionTime = s.heater.ignition ∧
              t.ret.failedStarts = 0)) ∧
          (s.heater.state = .running →
            (phase = some 3 → stays) ∧ (∀ x, phase = some x → x ≠ 3 → s.HeaterFailed t)) ∧
          (s.heater.state = .starting ∨ s.heater.state = .running → phase = some 5 → t.notices.flags.getLsbD 4 = true) ∧
          (s.heater.state = .retryWait → phase = some 0 → old.presence = .present →
            t.heater.purge = none ∧ (t.heater.state = .requesting ∨ t.heater.state = .starting)) ∧
          (s.heater.state = .lockout → s.heater.purgeOutstanding = true → phase = some 0 → old.presence = .present →
            t.heater.state = .lockout ∧ t.heater.purge = none ∧ t.heater.purgeOutstanding = false)) ∧
        (∀ c, k = .fridge → s.positionsOf .fridge = [p] → s.fridge.state.cycling = true → (t.node p).heldA ≠ some 2 →
          d.measures = .fridge c →
          t.fridge.protectTimer =
            (if c ≤ s.fridge.setPoint then none
             else if (s.climate.protectLevel : Int) ≤ c then some (s.fridge.protectTimer.getD 0) else none) ∧
          (c ≤ s.fridge.setPoint → t.fridge.protectRequest = false)) ∧
        (∀ c, k = .fridge → s.positionsOf .fridge = [p] → s.fridge.state = .held → (t.node p).heldA ≠ some 2 → d.measures = .fridge c →
          (∀ i, old.heldA ≠ some 0 → (t.node p).heldA = some 0 → old.presence = .present → s.fridge.minOff = none →
            s.entryOfKind .fridge = some i → (s.live i).grant = .on → s.roster.holder = none → s.roster.queue = [] →
            t.fridge.state = .cooling ∧ t.fridge.minOn = some 0 ∧ t.fridge.surgeHold = some 0 ∧
            t.roster.holder = some { entry := i, limit := (s.live i).work.limit, elapsed := 0 }) ∧
          (c ≤ s.fridgeEffective → (t.node p).heldA = old.heldA → t.fridge.state = .idleCold) ∧
          (∀ h i, c ≤ s.fridgeEffective → s.entryOfKind .fridge = some i → s.roster.holder = some h → h.entry ≠ i →
            t.fridge.state = .idleCold ∧ ∀ x ∈ t.roster.queue, x.entry ≠ i) ∧
          (s.fridgeEffective < c → s.fridge.minOff ≠ none → t.fridge.state = .held)) ∧
        (k = .light → s.firstChannelAt p + 1 < s.lights.channels.length →
          (old.heldA ≠ (t.node p).heldA ∨ old.heldB ≠ (t.node p).heldB) →
          (∀ x, (t.node p).heldA = some x → (t.channel (s.firstChannelAt p)).fault = x) ∧
          (∀ x, (t.node p).heldB = some x → (t.channel (s.firstChannelAt p + 1)).fault = x)) ∧
        (k = .panel → s.panelNumber p < s.panel.baselines.length → old.presence = .present →
          t.baseline (s.panelNumber p) = (t.node p).counters) ∧
        (k = .panel → old.presence ≠ .present → t.panel.baselines = s.panel.baselines) ∧
        (k = .outlet →
          (newFault old.heldA (t.node p).heldA = true → t.outletOn (2 * s.moduleNumber p) = false) ∧
          (newFault old.heldB (t.node p).heldB = true → t.outletOn (2 * s.moduleNumber p + 1) = false) ∧
          (newFault old.heldA (t.node p).heldA = false → newFault old.heldB (t.node p).heldB = false →
            t.roster = s.roster))))) ∧
  (∀ (held cand : Option Nat) (x : Nat),
    debounce held cand (some x) = (if cand = some x then some x else held) ∧ debounce held cand none = none) ∧
  (∀ (y : LoopPos) (newer older : List Unechoed) (u : Unechoed), y.unechoed = older ++ u :: newer → (∀ v ∈ older, v.seq ≠ u.seq) →
    y.echo u.seq = { y with
      unechoed := newer, lastEcho := some u.seq, stall := if newer = [] then false else y.stall }) ∧
  (∀ (y : LoopPos) (q : Nat), (∀ v ∈ y.unechoed, v.seq ≠ q) →
    y.echo q = { y with lastEcho := some q, stall := if y.unechoed = [] then false else y.stall })

/-- RECEIVED_CYCLE_END, once the cycle's messages are tested: a PRESENT position counts its cycles without an accepted message, a SEEKING or
LOST one its cycles with one in a row; a record with no accepted message loses its debounce candidates. A position mapped NONE leaves
MISMATCH for UNCONFIGURED in a cycle that brought no message of another kind; every other MISMATCH stays, and so does UNCONFIGURED.
MODEL'S CHOICE: a message of kind 0 does not keep a position mapped NONE in MISMATCH (assumption 42). -/
def Obligations.CountedCycleEnds : Prop :=
  ∀ s : State, s.phase = .running → s.rx.endDue = true → s.rx.ready = [] →
    ∃ t, exec .receivedCycleEnd s = .next t ∧ s.OnlyIn [.rx, .nodes, .power] t ∧ t.rx = { s.rx with endDue := false } ∧
      ∀ p < 12,
        let r := s.node p
        let accepted : Bool := r.result == .accepted
        (t.node p).result = .nothing ∧ (t.node p).measures = r.measures ∧ (t.node p).stale = r.stale ∧
        (t.node p).heldA = r.heldA ∧ (t.node p).heldB = r.heldB ∧
        (r.presence = .present → (t.node p).presence = .present ∧ (t.node p).count = if accepted then 0 else r.count + 1) ∧
        (r.presence = .seeking ∨ r.presence = .lost →
          (t.node p).presence = r.presence ∧ (t.node p).count = if accepted then r.count + 1 else 0) ∧
        (r.presence = .mismatch → s.kindAt p = .none → r.result ≠ .foreign →
          (t.node p).presence = .unconfigured ∧ (t.node p).count = 0) ∧
        (r.presence = .mismatch → (s.kindAt p ≠ .none ∨ r.result = .foreign) →
          (t.node p).presence = .mismatch ∧ (t.node p).count = r.count) ∧
        (r.presence = .unconfigured → (t.node p).presence = .unconfigured ∧ (t.node p).count = r.count) ∧
        (accepted = false → (t.node p).candA = none ∧ (t.node p).candB = none) ∧
        (accepted = true → (t.node p).candA = r.candA ∧ (t.node p).candB = r.candB)

/-- NODE_PRESENT after 3 counted cycles in a row, NODE_LOST after 6 without a message: the presence changes, the count starts again, a lost
record is stale, and NODE_PRESENCE is latched for a loss and for a return from LOST.
The owners at a loss. The heater controller (R125): STARTING and RUNNING command STOP, start the purge timer and release with stop, and
RETRY_WAIT releases with stop, all three going to STOPPING, in which and in RETRY_WAIT the timer goes on; REQUESTING releases at rest and goes
to OFF; OFF and LOCKOUT stay. The fridge controller (R138), its held state not FAULT: from IDLE_COLD, WANT, HELD and COOLING it enters FAULT
with cause NODE_LOST, the compressor off with its minimum-off timer started, its other timers and its protect request gone, its surge place
given up and a wanted entry released at rest; OFF and FAULT stay. -/
def Obligations.PresenceChanges : Prop :=
  ∀ (p : Fin 12) (s : State), s.phase = .running →
    (((s.node p.val).presence = .seeking ∨ (s.node p.val).presence = .lost) → 3 ≤ (s.node p.val).count →
      ∃ t, exec (.nodePresent p) s = .next t ∧
        t.node p.val = { s.node p.val with presence := .present, count := 0 } ∧ (∀ q, q ≠ p.val → t.node q = s.node q) ∧
        ((s.node p.val).presence = .lost → t.notices.flags.getLsbD 12 = true) ∧
        s.OnlyIn [.bus, .nodes, .panel, .roster, .heater, .fridge, .notices, .power] t) ∧
    ((s.node p.val).presence = .present → 6 ≤ (s.node p.val).count →
      ∃ t, exec (.nodeLost p) s = .next t ∧
        t.node p.val = { s.node p.val with presence := .lost, count := 0, stale := true } ∧
        (∀ q, q ≠ p.val → t.node q = s.node q) ∧ t.notices.flags.getLsbD 12 = true ∧
        s.OnlyIn [.bus, .nodes, .panel, .roster, .heater, .fridge, .lights, .rest, .notices, .power, .ret] t ∧
        ((s.positionsOf .heater)[0]? = some p.val →
          (s.heaterRun = true →
            t.heater.state = .stopping ∧ t.heater.purge = some 0 ∧ t.heater.ignition = none ∧ t.heater.levelHold = none) ∧
          (s.heater.state = .retryWait ∨ s.heater.state = .stopping →
            t.heater.state = .stopping ∧ t.heater.purge = s.heater.purge) ∧
          (s.heater.state = .requesting → t.heater.state = .off ∧ t.heater.purge = s.heater.purge) ∧
          (s.heater.state = .off ∨ s.heater.state = .lockout →
            t.heater.state = s.heater.state ∧ t.heater.purge = s.heater.purge ∧
            t.heater.purgeOutstanding = s.heater.purgeOutstanding) ∧
          (∀ i, s.entryOfKind .heater = some i →
            (s.heaterRun = true ∨ s.heater.state = .retryWait → (s.live i).grant = .on →
              (t.live i).grant = .stopping ∧ (t.live i).want = false ∧ t.holds i = false) ∧
            (s.heater.state = .requesting →
              (t.live i).grant = .idle ∧ (t.live i).want = false ∧ (t.live i).reason = .none) ∧
            (s.heater.state = .off ∨ s.heater.state = .lockout ∨
                s.heater.state = .stopping ∧ t.heater.demand = s.heater.demand →
              (t.live i).grant = (s.live i).grant ∧ (t.live i).want = (s.live i).want ∧
              (t.live i).reason = (s.live i).reason))) ∧
        ((s.positionsOf .fridge)[0]? = some p.val → s.fridgeNodeFault = false →
          (s.fridge.state.cycling = false → t.fridge = s.fridge) ∧
          (s.fridge.state.cycling = true →
            t.fridge = { s.fridge with
              state := .fault, cause := some .nodeLost, minOn := none, surgeHold := none, protectTimer := none
              protectRequest := false, minOff := if s.fridge.state = .cooling then some 0 else s.fridge.minOff } ∧
            (∀ i, s.entryOfKind .fridge = some i →
              t.holds i = false ∧ (s.holds i = false → t.queued i = false) ∧
              ((s.live i).want = true → (t.live i).grant = .idle ∧ (t.live i).want = false ∧ (t.live i).reason = .none)))))

/-- LOOP_FAILED_ASSERT at an out-of-sync count of 5: every PRESENT position becomes LOST and stale, the others keep their records, and class
2 is latched. ERROR_WINDOW_END after 16 cycles: the window's count becomes the last one, LOOP_DEGRADED stands exactly when it is above 24,
the counts start again, and class 13 is latched by a change. -/
def Obligations.LoopWatchesReport : Prop :=
  (∀ s : State, s.phase = .running → s.tx.failed = false → 5 ≤ s.tx.outOfSync →
    ∃ t, exec .loopFailedAssert s = .next t ∧ t.tx = { s.tx with failed := true } ∧ t.notices.flags.getLsbD 2 = true ∧
      (∀ p < 12, (s.node p).presence = .present →
        t.node p = { s.node p with presence := .lost, count := 0, stale := true }) ∧
      (∀ p < 12, (s.node p).presence ≠ .present → t.node p = s.node p) ∧
      s.OnlyIn [.bus, .tx, .nodes, .panel, .roster, .heater, .fridge, .lights, .rest, .notices, .power, .ret] t) ∧
  (∀ s : State, s.phase = .running → 16 ≤ s.tx.windowCycles →
    ∃ t, exec .errorWindowEnd s = .next t ∧
      t.tx = { s.tx with
        windowCycles := 0, windowErrors := 0, lastWindow := s.tx.windowErrors, degraded := decide (24 < s.tx.windowErrors) } ∧
      (s.tx.degraded ≠ decide (24 < s.tx.windowErrors) → t.notices.flags.getLsbD 13 = true) ∧
      (s.tx.degraded = decide (24 < s.tx.windowErrors) → t.notices = s.notices ∧ t.bus = s.bus) ∧
      s.OnlyIn [.bus, .tx, .notices, .power] t)

/-- Four steps that a count has made due: COMMAND_STALL marks a position whose oldest unechoed command has waited 6 cycles,
BATTERY_BLIND_SET sets its mark, ESTIMATE_WINDOW_CLOSE closes the window after 3750 cycles, and FULL_CHARGE_EVENT makes Q the capacity with
the residue and the count 0 and ESTIMATED clear.
MODEL'S CHOICE: the mark that blindness is due (assumption 2). -/
def Obligations.CountedStepsHappen : Prop :=
  ∀ s : State, s.phase = .running →
    (∀ (p : Fin 12) (u : Unechoed) (us : List Unechoed), (s.loopPos p.val).unechoed = u :: us → 6 ≤ u.cycles →
      (s.loopPos p.val).stall = false →
      exec (.commandStall p) s = .next (qualify { s with
        tx := { s.tx with pos := s.tx.pos.modify p.val fun x => { x with stall := true } } })) ∧
    (s.energy.blindDue = true →
      exec .batteryBlindSet s = .next (qualify { s with energy := { s.energy with blind := true, blindDue := false } })) ∧
    (∀ n, s.energy.window = some n → 3750 ≤ n →
      exec .estimateWindowClose s = .next (qualify { s with energy := { s.energy with window := none } })) ∧
    (7500 ≤ s.energy.fullCount →
      exec .fullChargeEvent s = .next (qualify { s with
        energy := { s.energy with fullCount := 0 }
        ret := { s.ret with charge := s.energySettings.capacity, residue := 0, estimated := false } }))

/-! ### The night budget and the roster (chapters 4 and 5) -/

/-- The available charge: max(0, min(Q, Cu) − R), and 0 whenever the usable charge is at or below the reserve. The allowance: floor(6 A /
h), 0 when A is 0; at most 12000 with C at most 60000 and a horizon of at least 30, and at most 9600 with the default reserve of 12000. -/
def Obligations.AvailableAndAllowance : Prop :=
  (∀ s : State,
    (s.available : Int) = max 0 (min (s.ret.charge : Int) s.usable - s.energySettings.reserve) ∧
    (min s.ret.charge s.usable ≤ s.energySettings.reserve → s.available = 0 ∧ s.allowance = 0)) ∧
  (∀ s : State, s.allowance = 6 * s.available / s.horizon ∧ (s.available = 0 → s.allowance = 0) ∧
    (s.energySettings.capacity ≤ 60000 → 30 ≤ s.energySettings.horizon → s.ret.charge ≤ s.energySettings.capacity →
      s.allowance ≤ 12000 ∧ (s.energySettings.reserve = 12000 → s.allowance ≤ 9600)))

/-- BUDGET_TICK: the figures are those of the roster as the tick has read it, and so is the mode; a tick is remembered as come. The mode's
decisions follow on those figures, and the fridge is told the mode (R95, R131).
The mode is the first of CUTOFF, LOW, SURPLUS and NORMAL that holds (R96). The derate percentage is that of the point at or beyond either
end of the table and goes straight, with a floor, from point to point between; the usable capacity is C by that percentage (R88). The
horizon is the time an open rest has left and 30 minutes more, within 30 to 1440, else the setting (R91). A test figure replaces the entry's
own row by what it would add in ON, with its surge current while it needs one (R94). -/
def Obligations.BudgetTickFigures : Prop :=
  (∀ s : State, s.Ready →
    let r := readRoster s
    ∃ t, exec .budgetTick s = .next t ∧
      t.energy = { s.energy with
        ticked := true, mode := r.chooseMode
        figures := some { cu := r.usable, available := r.available, horizon := r.horizon, allowance := r.allowance, draw := r.projected } } ∧
      t.ret.charge = s.ret.charge ∧
      s.OnlyIn [.bus, .roster, .energy, .heater, .fridge, .notices, .power, .ret] t ∧
      t = qualify (fridgeTick (r.chooseMode == .surplus)
        (decideTick r.chooseMode r.projected r.allowance { r with energy := t.energy }))) ∧
  (∀ s : State,
    (s.energy.cutoff.asserted = true → s.chooseMode = .cutoff) ∧
    (s.energy.cutoff.asserted = false → s.energy.low.asserted = true → s.chooseMode = .low) ∧
    (s.energy.cutoff.asserted = false → s.energy.low.asserted = false →
      ((s.energy.history.length = 12 ∧ 240 ≤ s.energy.history.sum) ∨ s.freshSignal 6 = some 1 → s.chooseMode = .surplus) ∧
      ((s.energy.history.length ≠ 12 ∨ s.energy.history.sum < 240) → s.freshSignal 6 ≠ some 1 → s.chooseMode = .normal))) ∧
  (∀ (s : State) (t : Int),
    (t ≤ -40 → s.deratePct t = s.derate 0) ∧ (30 ≤ t → s.deratePct t = s.derate 7) ∧
    (∀ i : Nat, i < 7 → -40 + 10 * (i : Int) ≤ t → t < -30 + 10 * (i : Int) →
      (s.deratePct t : Int) =
        max 0 ((s.derate i : Int) + ((s.derate (i + 1) : Int) - s.derate i) * (t - (-40 + 10 * (i : Int))) / 10))) ∧
  (∀ s : State,
    s.usable = s.energySettings.capacity * s.deratePct s.batteryTemp / 100 ∧
    (∀ r, s.nodeOf .battery = some r →
      (∀ i v x, r.measures = .battery i v x → s.batteryTemp = x) ∧ (r.measures = .none → s.batteryTemp = -40)) ∧
    (s.restOpen = false → s.horizon = s.energySettings.horizon) ∧
    (s.restOpen = true →
      (s.horizon : Int) = max 30 (min 1440 ((s.restRec.required : Int) - s.restRec.accumulated + 30))) ∧
    (∀ i ∈ s.validEntries,
      s.testDraw i = min 65535 (s.energySettings.standing + ((s.validEntries.map fun j =>
        if j = i then (s.live i).work.run * s.duty i + (if s.surgeNeed i = true then (s.live i).work.surge * 256 else 0)
        else s.rowOf j).sum + 128) / 256)))

/-- The entry a shed step takes is outranked by every other eligible one, and the entry a grant takes outranks every other (R95, R98). A
grant moves a WAITING entry of lights or of an outlet to ON with no shed reason and nothing else; of an entry in any other state it changes
nothing. A budget shed of an ON entry of lights or of an outlet ends in SHED with the reason BUDGET, its want and working copy as they were.
The heater (R118, R123): granted in REQUESTING it asks for the slot if its node is ready, and starts if the slot is free; without demand it
releases at rest. Shed in STARTING, RUNNING or RETRY_WAIT it is STOPPING with its entry SHEDDING, or, its node at IDLE, back in REQUESTING
with its entry SHED; shed in REQUESTING its entry is SHED at once. The fridge (R137): granted in HELD it asks if its checks hold, and does
nothing more otherwise; shed, its entry is SHED at once, and COOLING ends, above the effective set point in HELD, else in IDLE_COLD.
The decisions of a tick. NORMAL: the shed step while D is above P, BUDGET_EXCEEDED without an eligible entry; else the grant that passes its
test; else the restore that passes with its margin and outranks every WAITING entry; else nothing (R98). LOW: the shed step, or, where it
shed nothing, the grant of the highest protected WAITING entry (R99). SURPLUS: every WAITING entry granted, the heater's with demand and the
fridge's without a node fault staying ON, then the highest SHED one restored (R97). CUTOFF: the surge slot and queue emptied, every ON or WAITING entry shed as EMERGENCY, the reason of those in SHED made EMERGENCY, IDLE
and STOPPING not touched (R67, R100).
MODEL'S CHOICE: CUTOFF leaves an entry in SHEDDING as it is (assumption 37). -/
def Obligations.RanksGrantsAndSheds : Prop :=
  (∀ (s : State) (is : List Nat), is.Nodup →
    (∀ i, s.lowest is = some i → i ∈ is ∧ ∀ j ∈ is, j ≠ i → s.outranks j i = true) ∧
    (∀ i, s.highest is = some i → i ∈ is ∧ ∀ j ∈ is, j ≠ i → s.outranks i j = true) ∧
    (is ≠ [] → (s.lowest is).isSome = true ∧ (s.highest is).isSome = true)) ∧
  (∀ (i : Nat) (s : State),
    ((s.live i).grant ≠ .waiting → grant i s = s) ∧
    ((s.cfg i).kind = .lights ∨ (s.cfg i).kind = .outlet →
      ((s.live i).grant = .waiting →
        grant i s = { s with roster := { s.roster with
          live := s.roster.live.modify i fun l => { l with grant := .on, reason := .none } } }) ∧
      ((s.live i).grant = .on → (s.live i).want = true → s.holds i = false → s.queued i = false →
        (budgetShed i s).live i = { s.live i with grant := .shed, reason := .budget } ∧
        (budgetShed i s).notices.flags.getLsbD 7 = true ∧ (∀ j, j ≠ i → (budgetShed i s).live j = s.live j)))) ∧
  (∀ (i : Nat) (s : State), s.entryOfKind .heater = some i → (s.live i).grant = .waiting → s.holds i = false → s.queued i = false →
    let t := grant i s
    (s.DemandIs true →
      (t.live i).grant = .on ∧ (t.live i).reason = .none ∧
      (s.heater.state = .requesting →
        (s.heaterReady = false →
          t.heater.state = .requesting ∧ t.roster.holder = s.roster.holder ∧ t.roster.queue = s.roster.queue) ∧
        (s.heaterReady = true → s.roster.holder ≠ none →
          t.heater.state = .requesting ∧ t.roster.holder = s.roster.holder ∧ t.queued i = true) ∧
        (s.heaterReady = true → s.roster.holder = none → s.roster.queue = [] →
          t.heater.state = .starting ∧ t.heater.ignition = some 0 ∧
          t.roster.holder = some { entry := i, limit := (s.live i).work.limit, elapsed := 0 } ∧ t.roster.queue = []))) ∧
    (s.DemandIs false → s.heater.state = .requesting →
      (t.live i).grant = .idle ∧ (t.live i).want = false ∧ t.heater.state = .off)) ∧
  (∀ (i : Nat) (s : State), s.entryOfKind .fridge = some i → (s.live i).grant = .waiting → s.holds i = false → s.queued i = false →
    s.fridgeNodeFault = false → s.fridge.state ≠ .fault →
    let t := grant i s
    (t.live i).grant = .on ∧ (t.live i).reason = .none ∧
    (s.fridge.state ≠ .held ∨ s.fridge.minOff ≠ none ∨ s.fridgeReady = false →
      t = { s with roster := { s.roster with
        live := s.roster.live.modify i fun l => { l with grant := .on, reason := .none } } }) ∧
    (s.fridge.state = .held → s.fridge.minOff = none → s.fridgeReady = true →
      (s.roster.holder ≠ none → t.fridge = s.fridge ∧ t.roster.holder = s.roster.holder ∧ t.queued i = true) ∧
      (s.roster.holder = none → s.roster.queue = [] →
        t.fridge = { s.fridge with state := .cooling, minOn := some 0, surgeHold := some 0 } ∧
        t.roster.holder = some { entry := i, limit := (s.live i).work.limit, elapsed := 0 } ∧ t.roster.queue = []))) ∧
  (∀ (i : Nat) (s : State), s.entryOfKind .heater = some i → (s.live i).grant = .on → (s.live i).want = true → s.DemandIs true →
    let t := budgetShed i s
    t.notices.flags.getLsbD 7 = true ∧
    (s.heaterRun = true ∨ s.heater.state = .retryWait →
      t.holds i = false ∧ (t.live i).reason = .budget ∧ (t.live i).want = true ∧
      (s.heaterIdle = false →
        (t.live i).grant = .shedding ∧ t.heater.state = .stopping ∧
        t.heater.purge = if s.heaterRun = true then some 0 else s.heater.purge) ∧
      (s.heaterIdle = true → (t.live i).grant = .shed ∧ t.heater.state = .requesting ∧ t.heater.purge = none)) ∧
    (s.heater.state = .requesting → s.holds i = false →
      (t.live i).grant = .shed ∧ (t.live i).reason = .budget ∧ (t.live i).want = true ∧ t.heater.state = .requesting ∧
      t.queued i = false)) ∧
  (∀ (i : Nat) (s : State), s.entryOfKind .fridge = some i → (s.live i).grant = .on → (s.live i).want = true →
    s.fridge.state = .cooling ∨ s.holds i = false →
    let t := budgetShed i s
    (t.live i).grant = .shed ∧ (t.live i).reason = .budget ∧ (t.live i).want = true ∧ t.holds i = false ∧
    t.notices.flags.getLsbD 7 = true ∧
    (s.fridge.state ≠ .cooling → t.fridge = s.fridge) ∧
    (s.fridge.state = .cooling →
      t.fridge = { s.fridge with
        state := if s.cabinet.any (fun r => decide (s.fridgeEffective < r)) = true then .held else .idleCold
        minOff := some 0, minOn := none, surgeHold := none })) ∧
  (∀ (s : State) (d p : Nat),
    let waiting := s.inGrant .waiting
    let shed := s.inGrant .shed
    let guarded := waiting.filter fun i => (s.live i).protect
    let told := raise .budgetExceeded (le 2 d ++ le 2 p) s
    (∀ i, p < d → s.lowest s.eligible = some i →
      decideTick .normal d p s = budgetShed i s ∧ decideTick .low d p s = budgetShed i s) ∧
    (p < d → s.eligible = [] →
      decideTick .normal d p s = told ∧
      (∀ i, s.highest guarded = some i → decideTick .low d p s = grant i told) ∧
      (guarded = [] → decideTick .low d p s = told)) ∧
    (d ≤ p →
      (∀ i, s.highest guarded = some i → decideTick .low d p s = grant i s) ∧ (guarded = [] → decideTick .low d p s = s)) ∧
    (∀ i, d ≤ p → s.highest waiting = some i → s.testDraw i ≤ p → decideTick .normal d p s = grant i s) ∧
    (d ≤ p → (∀ i, s.highest waiting = some i → p < s.testDraw i) →
      (∀ j, s.highest shed = some j → (∀ i ∈ waiting, s.outranks j i = true) → s.testDraw j + s.energySettings.margin ≤ p →
        decideTick .normal d p s = restore j s) ∧
      ((∀ j, s.highest shed = some j → (∃ i ∈ waiting, s.outranks j i = false) ∨ p < s.testDraw j + s.energySettings.margin) →
        decideTick .normal d p s = s))) ∧
  (∀ (s : State) (d p : Nat), s.OneEach →
    let t := decideTick .surplus d p s
    (∀ i ∈ s.inGrant .waiting,
      ((s.cfg i).kind = .heater → s.DemandIs true) → ((s.cfg i).kind = .fridge → s.fridgeNodeFault = false) →
      (t.live i).grant = .on ∧ (t.live i).reason = .none) ∧
    (∀ i, s.highest (s.inGrant .shed) = some i →
      (t.live i).grant = .waiting ∧ (t.live i).reason = .none ∧ t.notices.flags.getLsbD 7 = true ∧
      ∀ j ∈ s.inGrant .shed, j ≠ i → (t.live j).grant = .shed ∧ (t.live j).reason = (s.live j).reason)) ∧
  (∀ (s : State) (d p : Nat), s.OneEach →
    let t := decideTick .cutoff d p s
    t.roster.holder = none ∧ t.roster.queue = [] ∧
    (∀ i ∈ s.validEntries,
      ((s.live i).grant = .waiting ∨ (s.live i).grant = .shed → (t.live i).grant = .shed ∧ (t.live i).reason = .emergency) ∧
      ((s.live i).grant = .on → (s.live i).want = true → (s.cfg i).kind ≠ .heater →
        (t.live i).grant = .shed ∧ (t.live i).reason = .emergency) ∧
      ((s.live i).grant = .on → (s.cfg i).kind = .heater → s.heaterRun = true → s.heater.demand = true → s.demandNow = true →
        (heaterMarks s).heater = s.heater → s.heaterIdle = false →
        (t.live i).grant = .shedding ∧ (t.live i).reason = .emergency ∧ t.heater.state = .stopping ∧ t.heater.purge = some 0) ∧
      ((s.live i).grant = .idle ∨ (s.live i).grant = .stopping ∨ (s.live i).grant = .shedding → t.live i = s.live i) ∧
      ((s.live i).grant = .on ∨ (s.live i).grant = .waiting → t.notices.flags.getLsbD 7 = true)))

/-- Coulomb counting: a current that meets neither bound moves 4500 Q + residue by exactly itself, and the residue keeps below 4500 in size;
above C the count stands at C, below 0 at 0, the residue then 0 (R83).
A transmit cycle that ends without an accepted battery message integrates a substitute in the same way: the held current while the hold count
is below 25, which it raises; otherwise, or without a held current, minus the last projected draw, which before the first tick since the reset
or wake is the standing draw, and BATTERY_BLIND is due. A cycle that brought one integrates nothing. The held current and the history stay
(R84).
MODEL'S CHOICE: the mark that blindness is due (assumption 2); the standing draw before the first tick is the setting as committed now
(assumption 67). -/
def Obligations.ChargeIsCounted : Prop :=
  (∀ (i : Int) (s : State),
    let q := (s.ret.charge : Int) + Int.tdiv (s.ret.residue + i) 4500
    let t := integrate i s
    s.OnlyIn [.ret] t ∧
    (0 ≤ q → q ≤ s.energySettings.capacity →
      4500 * (t.ret.charge : Int) + t.ret.residue = 4500 * s.ret.charge + s.ret.residue + i ∧
      -4500 < t.ret.residue ∧ t.ret.residue < 4500) ∧
    ((s.energySettings.capacity : Int) < q → t.ret.charge = s.energySettings.capacity ∧ t.ret.residue = 0) ∧
    (q < 0 → t.ret.charge = 0 ∧ t.ret.residue = 0)) ∧
  (∀ s : State, s.Ready →
    ∃ t, exec .transmitCycle s = .next t ∧ t.energy.held = s.energy.held ∧ t.energy.history = s.energy.history ∧
      t.energy.heard = false ∧ t.energy.blind = s.energy.blind ∧
      (s.energy.heard = true →
        t.ret.charge = s.ret.charge ∧ t.ret.residue = s.ret.residue ∧ t.energy.holdCount = s.energy.holdCount ∧
        t.energy.blindDue = s.energy.blindDue) ∧
      (∀ i, s.energy.heard = false → s.energy.held = some i → s.energy.holdCount < 25 →
        t.ret.charge = (integrate i s).ret.charge ∧ t.ret.residue = (integrate i s).ret.residue ∧
        t.energy.holdCount = s.energy.holdCount + 1 ∧ t.energy.blindDue = s.energy.blindDue) ∧
      (s.energy.heard = false → s.energy.held = none ∨ 25 ≤ s.energy.holdCount →
        t.ret.charge = (integrate (-(s.lastDraw : Int)) s).ret.charge ∧
        t.ret.residue = (integrate (-(s.lastDraw : Int)) s).ret.residue ∧
        t.energy.holdCount = s.energy.holdCount ∧ t.energy.blindDue = !s.energy.blind)) ∧
  (∀ s : State,
    (s.energy.ticked = false → s.lastDraw = s.energySettings.standing) ∧
    (∀ f, s.energy.ticked = true → s.energy.figures = some f → s.lastDraw = f.draw))

/-- LEVEL_ASSERT at 375 messages below a level and LEVEL_CLEAR at 375 messages at or above it by the margin: the level's state and both its
counts, and the class of the level latched with 1 or 0 for the edge; CUTOFF's clearing puts every protected SHED entry in WAITING. -/
def Obligations.VoltageLevelsTurn : Prop :=
  ∀ (l : WatchLevel) (s : State), s.phase = .running → s.notices.details.length = 16 →
    ((s.energy.level l).asserted = false → 375 ≤ (s.energy.level l).assertCount →
      ∃ t, exec (.levelAssert l) s = .next t ∧ s.OnlyIn [.bus, .energy, .notices, .power] t ∧
        t.energy.level l = { asserted := true, assertCount := 0, clearCount := 0 } ∧
        (∀ k, k ≠ l → t.energy.level k = s.energy.level k) ∧
        t.notices.flags.getLsbD (levelClass l).number = true ∧
        (t.notices.details.getD (levelClass l).number []).head? = some (byte 1)) ∧
    ((s.energy.level l).asserted = true → 375 ≤ (s.energy.level l).clearCount →
      ∃ t, exec (.levelClear l) s = .next t ∧ s.OnlyIn [.bus, .roster, .energy, .notices, .power] t ∧
        t.energy.level l = { asserted := false, assertCount := 0, clearCount := 0 } ∧
        (∀ k, k ≠ l → t.energy.level k = s.energy.level k) ∧
        t.notices.flags.getLsbD (levelClass l).number = true ∧
        (t.notices.details.getD (levelClass l).number []).head? = some (byte 0) ∧
        (l = .cutoff → ∀ i ∈ s.validEntries, (s.live i).protect = true → (s.live i).grant = .shed →
          (t.live i).grant = .waiting ∧ (t.live i).reason = .none) ∧
        (l = .low → t.roster = s.roster))

/-- SURGE_LIMIT_EXPIRY takes the slot from its holder: it is free where nothing is queued, and a heater at the head of the queue that is in
REQUESTING becomes the holder, with its own limit, and enters STARTING. -/
def Obligations.SurgeLimitFreesTheSlot : Prop :=
  ∀ (s : State) (h : Holder), s.Settled → s.roster.holder = some h →
    (s.roster.queue = [] →
      exec .surgeLimitExpiry s = .next (qualify { s with roster := { s.roster with holder := none } })) ∧
    (∀ p ps, s.roster.queue = p :: ps → (s.cfg p.entry).kind = .heater → s.heater.state = .requesting →
      ∃ t, exec .surgeLimitExpiry s = .next t ∧ s.OnlyIn [.roster, .heater, .power] t ∧
        t.roster.holder = some { entry := p.entry, limit := (s.live p.entry).work.limit, elapsed := 0 } ∧
        t.roster.queue = ps ∧ t.heater.state = .starting ∧ t.heater.ignition = some 0 ∧ t.heater.levelHold = some 0 ∧
        t.heater.startSeen = false)

/-! ### The heater and the fridge (chapters 6 and 7) -/

/-- IGNITION_TIMEOUT in STARTING: the failed-start count rises, up to 3; the third failure is LOCKOUT, latched; before it, while the node is
not at IDLE, the controller purges in RETRY_WAIT. -/
def Obligations.IgnitionTimeoutFailsTheStart : Prop :=
  ∀ (s : State) (n : Nat), s.Settled → s.heater.state = .starting → s.heater.ignition = some n →
    ∃ t, exec .ignitionTimeout s = .next t ∧ t.ret.failedStarts = min 3 (s.ret.failedStarts + 1) ∧
      (2 ≤ s.ret.failedStarts →
        t.heater.state = .lockout ∧ t.ret.lockout = true ∧ t.notices.flags.getLsbD 1 = true) ∧
      (s.ret.failedStarts < 2 → s.heaterIdle = false →
        t.heater.state = .retryWait ∧ t.heater.purge = some 0 ∧ t.heater.ignition = none ∧ t.heater.levelHold = none ∧
        t.ret.lockout = s.ret.lockout) ∧
      s.OnlyIn [.bus, .roster, .heater, .fridge, .notices, .power, .ret] t

/-- PURGE_LIMIT stops the purge timer, and with the node PRESENT latches HEATER_FAULT with the cause PURGE_LIMIT, where it is not PRESENT no
notice. The stop then ends (R124): in STOPPING, with the node PRESENT, the entry goes from STOPPING to IDLE, from SHEDDING to SHED where it is
wanted and else to IDLE; the controller enters REQUESTING where the entry is SHED or there is demand, in the second case with a new request,
and else OFF. RETRY_WAIT releases at rest and enters OFF; LOCKOUT stays with no purge outstanding and the entry at IDLE. Where the node is not
PRESENT the entry is IDLE and the controller in OFF, or still in LOCKOUT. LEVEL_HOLD_EXPIRY in
STARTING or RUNNING commands the level chosen now and starts a hold if it differs. MANUAL_LIMIT_EXPIRY puts the mode to OFF with its count
discarded; PREHEAT_WINDOW_CLOSE closes the window, takes the PREHEAT mark and closes the rest clock's preheat record, where no queued
warning has come due.
MODEL'S CHOICE: the marks that the run limit and the window's end are due (assumption 2); the cause's detail byte is 1, read from the order in
which R196 names the causes (assumption 18). -/
def Obligations.HeaterTimersAndLimits : Prop :=
  (∀ (s : State) (n : Nat), s.Settled →
    (s.heater.purge = some n → s.heaterRun = false → s.notices.details.length = 16 →
      ∃ t, exec .purgeLimit s = .next t ∧ t.heater.purge = none ∧
        (s.heaterPresent = true →
          t.notices.flags.getLsbD 4 = true ∧ (t.notices.details.getD 4 []).head? = some (byte 1)) ∧
        (s.heaterPresent = false → t.notices.flags = s.notices.flags) ∧
        (s.heater.state = .lockout → s.heater.purgeOutstanding = true →
          t.heater.state = .lockout ∧ t.heater.purgeOutstanding = false ∧
          (s.grantOfKind .heater = some .stopping → t.grantOfKind .heater = some .idle)) ∧
        ((heaterMarks s).demandNow = s.heater.demand →
          (s.heater.state = .stopping → s.heaterPresent = true →
            (s.grantOfKind .heater = some .stopping →
              (s.heater.demand = true → t.heater.state = .requesting ∧ t.grantOfKind .heater = some .waiting) ∧
              (s.heater.demand = false → t.heater.state = .off ∧ t.grantOfKind .heater = some .idle)) ∧
            (∀ i, s.entryOfKind .heater = some i → (s.live i).grant = .shedding →
              ((s.live i).want = true → t.heater.state = .requesting ∧ (t.live i).grant = .shed) ∧
              ((s.live i).want = false → s.heater.demand = true →
                t.heater.state = .requesting ∧ (t.live i).grant = .waiting) ∧
              ((s.live i).want = false → s.heater.demand = false → t.heater.state = .off ∧ (t.live i).grant = .idle))) ∧
          (s.heater.state = .stopping → s.heaterPresent = false →
            t.heater.state = .off ∧ ∀ i, s.entryOfKind .heater = some i → (t.live i).grant = .idle) ∧
          (s.heater.state = .retryWait → s.heaterIdle = false →
            t.heater.state = .off ∧ ∀ i, s.entryOfKind .heater = some i → (t.live i).grant = .idle)) ∧
        s.OnlyIn [.bus, .roster, .heater, .fridge, .notices, .power] t) ∧
    (s.heater.levelHold = some n → s.heaterRun = true →
      ∃ t, exec .levelHoldExpiry s = .next t ∧ s.OnlyIn [.roster, .heater, .power] t ∧
        (∀ l, s.chosenLevel = some l → l ≠ s.heater.level →
          t.heater = { s.heater with level := l, levelHold := some 0 }) ∧
        (s.chosenLevel = none ∨ s.chosenLevel = some s.heater.level → t.heater = { s.heater with levelHold := none }))) ∧
  (∀ s : State, s.phase = .running →
    (s.heater.manualDue = true →
      ∃ t, exec .manualLimitExpiry s = .next t ∧ t.heater.mode = .off ∧ t.heater.manualCount = none ∧
        t.heater.manualDue = false ∧ t.heater.window = s.heater.window ∧
        s.OnlyIn [.roster, .heater, .fridge, .power] t) ∧
    (s.heater.windowDue = true → (∀ w ∈ s.ret.queue, s.ret.clock < w.due) →
      ∃ t, exec .preheatWindowClose s = .next t ∧ t.heater.window = none ∧ t.heater.windowDue = false ∧
        t.heater.preheat = false ∧ t.ret = { s.ret with preheat := s.ret.preheat.map fun p => { p with isOpen := false } } ∧
        s.OnlyIn [.panel, .roster, .heater, .fridge, .ret, .power] t))

/-- The fridge's timers: MINIMUM_ON_EXPIRY acts on a cut-out already met and otherwise only ends the timer; MINIMUM_OFF_EXPIRY ends its
timer and, in HELD with the checks holding and the slot free, starts the compressor; SURGE_HOLD_EXPIRY gives a held slot back.
PROTECT_TIMER_EXPIRY sets the protect request, latches FRIDGE_PROTECT with the edge asserted, and leaves the timer at 600.
MODEL'S CHOICE: the protect timer stays at 600 (assumption 24). -/
def Obligations.FridgeTimersExpire : Prop :=
  (∀ (s : State) (n : Nat), s.Settled →
    (s.fridge.minOn = some n → s.fridge.state = .cooling →
      (s.cabinet.any (fun r => decide (r ≤ s.fridgeEffective)) = true →
        exec .minimumOnExpiry s = .next (qualify { s with
          fridge := { s.fridge with state := .idleCold, minOff := some 0, minOn := none, surgeHold := none } })) ∧
      (s.cabinet.any (fun r => decide (r ≤ s.fridgeEffective)) = false →
        exec .minimumOnExpiry s = .next (qualify { s with fridge := { s.fridge with minOn := none } }))) ∧
    (s.fridge.minOff = some n → s.fridge.state ≠ .cooling →
      (∃ t, exec .minimumOffExpiry s = .next t ∧ t.fridge.minOff = none ∧ s.OnlyIn [.roster, .heater, .fridge, .power] t) ∧
      (∀ i, s.fridge.state = .held → s.entryOfKind .fridge = some i → (s.live i).grant = .on → s.fridgeReady = true →
        s.roster.holder = none → s.roster.queue = [] →
        ∃ t, exec .minimumOffExpiry s = .next t ∧
          t.fridge = { s.fridge with state := .cooling, minOff := none, minOn := some 0, surgeHold := some 0 } ∧
          t.roster.holder = some { entry := i, limit := (s.live i).work.limit, elapsed := 0 } ∧
          t.roster.queue = [] ∧ s.OnlyIn [.roster, .fridge, .power] t)) ∧
    (∀ i h, s.fridge.surgeHold = some n → s.entryOfKind .fridge = some i → s.roster.holder = some h → h.entry = i →
      s.roster.queue = [] →
      exec .surgeHoldExpiry s = .next (qualify { s with
        fridge := { s.fridge with surgeHold := none }, roster := { s.roster with holder := none } }))) ∧
  (∀ (s : State) (n : Nat), s.Settled → s.fridge.protectTimer = some n → n < 600 → s.fridge.protectRequest = false →
    s.notices.details.length = 16 →
    ∃ t, exec .protectTimerExpiry s = .next t ∧
      t.fridge = { s.fridge with protectTimer := some 600, protectRequest := true } ∧
      t.notices.flags.getLsbD 5 = true ∧ (t.notices.details.getD 5 []).head? = some (byte 1) ∧
      s.OnlyIn [.bus, .fridge, .notices, .power] t)

/-! ### The rest clock, notices and power states (chapters 9 and 11) -/

/-- MINUTE_TICK: the clock rises by 1 and wraps at 2^32; an open rest counts the minute as accumulated while DRIVER_ACTIVITY is FRESH
outside STANDBY and as provisional otherwise; a closed one counts none. In STANDBY the standby draw of a minute is integrated, and else
nothing (R86). A MANUAL mode's count rises, and the limit is due where it reaches the setting (R110). A RESTING rest whose minutes reach the
requirement is COMPLETE, with its notice and every lead served (R167).
With no rest open and no wake minute: a queued REST_SHORT that is due becomes the active warning, announced, and one that is not stays (R171,
R179); a part in STANDBY wakes to QUIET where the queue's head is due within 5 minutes, and sleeps on where it is later or the queue empty
(R201).
The wake minute as worked out is the alarm's, else that of the end of a RESTING rest with wake at complete, else none; a wake that has moved
has its WAKE entry formed again unless it is the last one served (R174).
MODEL'S CHOICE: the mark that the run limit is due (assumption 2). -/
def Obligations.MinuteTickCounts : Prop :=
  (∀ s : State, s.Settled →
    let fresh : Bool := (s.signal 0).quality == .fresh && s.power.state != .standby
    let now := (s.ret.clock + 1) % 4294967296
    let drawn := integrate (-(s.energySettings.standby : Int) * 750) s
    ∃ t, exec .minuteTick s = .next t ∧ t.ret.clock = now ∧
      t.ret.rest.accumulated =
        (if s.restOpen = true ∧ fresh = true then sat16 s.ret.rest.accumulated else s.ret.rest.accumulated) ∧
      t.ret.rest.provisional =
        (if s.restOpen = true ∧ fresh = false then sat16 s.ret.rest.provisional else s.ret.rest.provisional) ∧
      t.tables = s.tables ∧ t.store = s.store ∧ t.setup = s.setup ∧ t.egress = s.egress ∧
      t.ret.charge = (if s.power.state = .standby then drawn.ret.charge else s.ret.charge) ∧
      t.ret.residue = (if s.power.state = .standby then drawn.ret.residue else s.ret.residue) ∧
      t.heater.manualCount = s.heater.manualCount.map (· + 1) ∧
      (∀ n, s.heater.manualCount = some n → t.heater.manualDue = decide (s.climate.runLimit ≤ n + 1)) ∧
      (s.restRec.state = .resting → t.restRec.accumulated < s.restRec.required → t.restRec.state = .resting) ∧
      (s.restRec.state = .resting → s.restRec.required ≤ t.restRec.accumulated →
        t.restRec.state = .complete ∧ t.restRec.leadsServed = [true, true, true] ∧ t.notices.flags.getLsbD 8 = true) ∧
      (s.restOpen = false → s.rest.wake = none → s.ret.active = none →
        (∀ w, s.ret.queue = [w] → w.kind = .restShort →
          (w.due ≤ now → s.rest.sweeping = true →
            t.ret.queue = [] ∧
            t.ret.active = some { kind := w.kind, index := w.index, figure := w.figure, entryFigure := w.figure, repeats := 0 } ∧
            t.rest.repeatTimer = some 0 ∧ t.panel.pattern = s.profile.chimes.getD 0 0 ∧
            t.panel.strike = (s.panel.strike + 1) % 16 ∧ t.panel.display = displayCode 2 w.figure) ∧
          (now < w.due → t.ret.queue = [w] ∧ t.ret.active = none) ∧
          (s.power.state = .standby → w.due ≤ now + 5 → t.power.state = .quiet ∧ t.power.quietTimer = some 0) ∧
          (s.power.state = .standby → now + 5 < w.due → t.power.state = .standby)) ∧
        (s.ret.queue = [] → s.power.state = .standby → t.power.state = .standby)) ∧
      (s.power.state ≠ .standby → t.power.state = s.power.state)) ∧
  (∀ s : State,
    let t := workOutWake s
    t.rest.wake = s.wakeNow ∧
    (∀ a, s.ret.alarm = some a → s.wakeNow = some a) ∧
    (s.ret.alarm = none → s.restRec.state = .resting → s.profile.wakeAtComplete = true →
      s.wakeNow = some (s.ret.clock + (s.restRec.required - s.restRec.accumulated))) ∧
    (s.ret.alarm = none → s.restRec.state ≠ .resting ∨ s.profile.wakeAtComplete = false → s.wakeNow = none) ∧
    (s.wakeNow = s.rest.wake → t = s) ∧
    (s.wakeNow ≠ s.rest.wake →
      (∀ m, s.wakeNow = some m → s.ret.lastWake ≠ some m → s.ret.queue.length ≤ 5 →
        { kind := .wake, index := 0, due := m, figure := 0 } ∈ t.ret.queue) ∧
      (s.wakeNow = none ∨ s.wakeNow = s.ret.lastWake → ∀ w ∈ t.ret.queue, w.kind ≠ .wake)))

/-- REPEAT_TIMER_EXPIRY, where no queued warning has come due: below the repeat count the strike rises and the timer starts again; at the
count the warning ends unacknowledged, with its class latched, its pattern 0 and its timer stopped. NOTICE_REPEAT: with nothing sendable the
repeat timer stops; else the frame of the flags as they stand joins the transmit queue and the timer starts again. -/
def Obligations.WarningsAndNoticesRepeat : Prop :=
  (∀ (s : State) (a : Active) (n : Nat), s.Settled → s.ret.active = some a → s.rest.repeatTimer = some n →
    (∀ w ∈ s.ret.queue, s.ret.clock < w.due) →
    (a.repeats < s.lightSettings.repeatCount →
      exec .repeatTimerExpiry s = .next (qualify { s with
        panel := { s.panel with strike := (s.panel.strike + 1) % 16 }
        rest := { s.rest with repeatTimer := some 0, repeatLimit := s.lightSettings.repeatInterval }
        ret := { s.ret with active := some { a with repeats := a.repeats + 1 } } })) ∧
    (s.lightSettings.repeatCount ≤ a.repeats →
      ∃ t, exec .repeatTimerExpiry s = .next t ∧ t.ret = { s.ret with active := none } ∧
        t.rest = { s.rest with repeatTimer := none } ∧ t.panel.pattern = 0 ∧ t.panel.display = s.idleDisplay ∧
        t.notices.flags.getLsbD 10 = true ∧ s.OnlyIn [.bus, .panel, .lights, .rest, .notices, .power, .ret] t)) ∧
  (∀ (s : State) (n : Nat), s.Settled → s.notices.repeatTimer = some n →
    (s.sendable = 0 →
      exec .noticeRepeat s = .next (qualify { s with notices := { s.notices with repeatTimer := none } })) ∧
    (s.sendable ≠ 0 → s.notices.waiting = none → s.bus.queued < 8 →
      exec .noticeRepeat s = .next (qualify { s with
        bus := ({ s.bus with prioQueue := s.bus.prioQueue ++ [s.noticeFrame] } : Bus).takeUp
        notices := { s.notices with repeatTimer := some 0 } })))

/-- QUIET_TIMER_EXPIRY turns RUN into QUIET; STANDBY_ENTRY, in QUIET with its conditions holding, enters STANDBY: both queues emptied and
the waiting notice frame dropped, the held current and its history discarded, every light channel at level 0 with no fade and a dark output,
and the round in progress on the loop finished: the line goes on with its bits (R21).
MODEL'S CHOICE: a setup response that waits is kept (assumption 27); the tick's figures are kept for the reports while the last projected draw
is the standing draw again, and a message heard in the cycle cut short counts for none (R84, R85, assumption 28); a channel's output is dark
but keeps its tint and case (assumption 38); when that round ends (assumption 60). -/
def Obligations.ThePartFallsAsleep : Prop :=
  ∀ (s : State) (n : Nat), s.Settled →
    (s.power.state = .run → s.power.quietTimer = some n →
      ∃ t, exec .quietTimerExpiry s = .next t ∧ t.power.state = .quiet ∧ t.power.quietTimer = none ∧
        s.OnlyIn [.bus, .notices, .power] t ∧ t.notices.flags = s.notices.flags) ∧
    (s.power.state = .quiet → s.mayStandBy = true →
      exec .standbyEntry s = .next (qualify { s with
        power := { s.power with state := .standby, standbyTimer := none, quietTimer := none }
        bus := { s.bus with rxQueue := [], prioQueue := [], egressQueue := [], sending := none }
        notices := { s.notices with waiting := none }
        tx := { s.tx with finishing := true }
        energy := { s.energy with held := none, heard := false, history := [], window := none, ticked := false }
        lights := { s.lights with channels := s.lights.channels.map fun c =>
          { c with level := 0, fade := none, out := { c.out with level := 0, warm := 0, cool := 0, red := 0 } } } })) ∧
    (s.power.state = .quiet → s.mayStandBy = true → ∃ t, exec .standbyEntry s = .next t ∧ t.lineBits = s.tx.roundBits) ∧
    (s.power.state = .quiet → s.mayStandBy = false → exec .standbyEntry s = .next (qualify s))

/-- CAN_WAKE wakes STANDBY to RUN and WAKE_LINE_EDGE, where the edge matches its setting, to QUIET: the quiet timer starts, every mapped
position is SEEKING and stale, the receiver searches, a new transmit cycle begins, FRESH signals turn STALE with their values and ages kept,
and a notice frame falls due if any flag is then sendable; an edge that does not match, or that comes awake, changes nothing. -/
def Obligations.ThePartWakes : Prop :=
  ∀ (s : State) (e : WakeEdge), s.Settled →
    (∀ c st, (c = .canWake ∧ st = .run) ∨ (c = .wakeLineEdge e ∧ s.edgeMatches e = true ∧ st = .quiet) →
      s.power.state = .standby →
      ∃ t, exec c s = .next t ∧ t.power.state = st ∧ t.power.quietTimer = some 0 ∧
        (∀ p < 12, (t.node p).presence = seekingFor (s.kindAt p) ∧ (t.node p).count = 0 ∧ (t.node p).stale = true) ∧
        t.rx.state = .search ∧ t.tx.round = 0 ∧ t.tx.outOfSync = 0 ∧ t.tx.finishing = false ∧ t.lineBits = t.tx.roundBits ∧
        t.tables = s.tables ∧ t.store = s.store ∧ t.setup = s.setup ∧ t.egress = s.egress ∧ t.ret.clock = s.ret.clock ∧
        (∀ n < 32, (t.signal n).value = (s.signal n).value ∧ (t.signal n).age = (s.signal n).age ∧
          (t.signal n).quality = (if (s.signal n).quality = .fresh then .stale else (s.signal n).quality)) ∧
        (t.sendable ≠ 0 → t.notices.repeatTimer = some 0 ∧
          (t.bus.prioQueue.getLast? = some t.noticeFrame ∨ t.notices.waiting = some t.noticeFrame))) ∧
    (s.edgeMatches e = false ∨ s.power.state ≠ .standby → exec (.wakeLineEdge e) s = .next (qualify s))
end

