-- ==== Sys2Proof/Laws/State.lean ====
section
/-! SUPPORT. Laws/State.lean: what each update of one block reads as, block by block, and the same for updates of one record. -/

namespace Sys2Proof.Machine

/-! ### `modBus` -/

@[simp] theorem State.modBus_phase (s : State) (f : Bus → Bus) : (s.modBus f).phase = s.phase := rfl
@[simp] theorem State.modBus_bus (s : State) (f : Bus → Bus) : (s.modBus f).bus = f s.bus := rfl
@[simp] theorem State.modBus_signals (s : State) (f : Bus → Bus) : (s.modBus f).signals = s.signals := rfl
@[simp] theorem State.modBus_egress (s : State) (f : Bus → Bus) : (s.modBus f).egress = s.egress := rfl
@[simp] theorem State.modBus_tx (s : State) (f : Bus → Bus) : (s.modBus f).tx = s.tx := rfl
@[simp] theorem State.modBus_rx (s : State) (f : Bus → Bus) : (s.modBus f).rx = s.rx := rfl
@[simp] theorem State.modBus_nodes (s : State) (f : Bus → Bus) : (s.modBus f).nodes = s.nodes := rfl
@[simp] theorem State.modBus_panel (s : State) (f : Bus → Bus) : (s.modBus f).panel = s.panel := rfl
@[simp] theorem State.modBus_roster (s : State) (f : Bus → Bus) : (s.modBus f).roster = s.roster := rfl
@[simp] theorem State.modBus_energy (s : State) (f : Bus → Bus) : (s.modBus f).energy = s.energy := rfl
@[simp] theorem State.modBus_heater (s : State) (f : Bus → Bus) : (s.modBus f).heater = s.heater := rfl
@[simp] theorem State.modBus_fridge (s : State) (f : Bus → Bus) : (s.modBus f).fridge = s.fridge := rfl
@[simp] theorem State.modBus_lights (s : State) (f : Bus → Bus) : (s.modBus f).lights = s.lights := rfl
@[simp] theorem State.modBus_rest (s : State) (f : Bus → Bus) : (s.modBus f).rest = s.rest := rfl
@[simp] theorem State.modBus_setup (s : State) (f : Bus → Bus) : (s.modBus f).setup = s.setup := rfl
@[simp] theorem State.modBus_store (s : State) (f : Bus → Bus) : (s.modBus f).store = s.store := rfl
@[simp] theorem State.modBus_notices (s : State) (f : Bus → Bus) : (s.modBus f).notices = s.notices := rfl
@[simp] theorem State.modBus_power (s : State) (f : Bus → Bus) : (s.modBus f).power = s.power := rfl
@[simp] theorem State.modBus_ret (s : State) (f : Bus → Bus) : (s.modBus f).ret = s.ret := rfl
@[simp] theorem State.modBus_tables (s : State) (f : Bus → Bus) : (s.modBus f).tables = s.tables := rfl
@[simp] theorem State.modBus_pending (s : State) (f : Bus → Bus) : (s.modBus f).pending = s.pending := rfl

/-! ### `modSignals` -/

@[simp] theorem State.modSignals_phase (s : State) (f : List SignalRec → List SignalRec) : (s.modSignals f).phase = s.phase := rfl
@[simp] theorem State.modSignals_bus (s : State) (f : List SignalRec → List SignalRec) : (s.modSignals f).bus = s.bus := rfl
@[simp] theorem State.modSignals_signals (s : State) (f : List SignalRec → List SignalRec) : (s.modSignals f).signals = f s.signals := rfl
@[simp] theorem State.modSignals_egress (s : State) (f : List SignalRec → List SignalRec) : (s.modSignals f).egress = s.egress := rfl
@[simp] theorem State.modSignals_tx (s : State) (f : List SignalRec → List SignalRec) : (s.modSignals f).tx = s.tx := rfl
@[simp] theorem State.modSignals_rx (s : State) (f : List SignalRec → List SignalRec) : (s.modSignals f).rx = s.rx := rfl
@[simp] theorem State.modSignals_nodes (s : State) (f : List SignalRec → List SignalRec) : (s.modSignals f).nodes = s.nodes := rfl
@[simp] theorem State.modSignals_panel (s : State) (f : List SignalRec → List SignalRec) : (s.modSignals f).panel = s.panel := rfl
@[simp] theorem State.modSignals_roster (s : State) (f : List SignalRec → List SignalRec) : (s.modSignals f).roster = s.roster := rfl
@[simp] theorem State.modSignals_energy (s : State) (f : List SignalRec → List SignalRec) : (s.modSignals f).energy = s.energy := rfl
@[simp] theorem State.modSignals_heater (s : State) (f : List SignalRec → List SignalRec) : (s.modSignals f).heater = s.heater := rfl
@[simp] theorem State.modSignals_fridge (s : State) (f : List SignalRec → List SignalRec) : (s.modSignals f).fridge = s.fridge := rfl
@[simp] theorem State.modSignals_lights (s : State) (f : List SignalRec → List SignalRec) : (s.modSignals f).lights = s.lights := rfl
@[simp] theorem State.modSignals_rest (s : State) (f : List SignalRec → List SignalRec) : (s.modSignals f).rest = s.rest := rfl
@[simp] theorem State.modSignals_setup (s : State) (f : List SignalRec → List SignalRec) : (s.modSignals f).setup = s.setup := rfl
@[simp] theorem State.modSignals_store (s : State) (f : List SignalRec → List SignalRec) : (s.modSignals f).store = s.store := rfl
@[simp] theorem State.modSignals_notices (s : State) (f : List SignalRec → List SignalRec) : (s.modSignals f).notices = s.notices := rfl
@[simp] theorem State.modSignals_power (s : State) (f : List SignalRec → List SignalRec) : (s.modSignals f).power = s.power := rfl
@[simp] theorem State.modSignals_ret (s : State) (f : List SignalRec → List SignalRec) : (s.modSignals f).ret = s.ret := rfl
@[simp] theorem State.modSignals_tables (s : State) (f : List SignalRec → List SignalRec) : (s.modSignals f).tables = s.tables := rfl
@[simp] theorem State.modSignals_pending (s : State) (f : List SignalRec → List SignalRec) : (s.modSignals f).pending = s.pending := rfl

/-! ### `modEgress` -/

@[simp] theorem State.modEgress_phase (s : State) (f : Egress → Egress) : (s.modEgress f).phase = s.phase := rfl
@[simp] theorem State.modEgress_bus (s : State) (f : Egress → Egress) : (s.modEgress f).bus = s.bus := rfl
@[simp] theorem State.modEgress_signals (s : State) (f : Egress → Egress) : (s.modEgress f).signals = s.signals := rfl
@[simp] theorem State.modEgress_egress (s : State) (f : Egress → Egress) : (s.modEgress f).egress = f s.egress := rfl
@[simp] theorem State.modEgress_tx (s : State) (f : Egress → Egress) : (s.modEgress f).tx = s.tx := rfl
@[simp] theorem State.modEgress_rx (s : State) (f : Egress → Egress) : (s.modEgress f).rx = s.rx := rfl
@[simp] theorem State.modEgress_nodes (s : State) (f : Egress → Egress) : (s.modEgress f).nodes = s.nodes := rfl
@[simp] theorem State.modEgress_panel (s : State) (f : Egress → Egress) : (s.modEgress f).panel = s.panel := rfl
@[simp] theorem State.modEgress_roster (s : State) (f : Egress → Egress) : (s.modEgress f).roster = s.roster := rfl
@[simp] theorem State.modEgress_energy (s : State) (f : Egress → Egress) : (s.modEgress f).energy = s.energy := rfl
@[simp] theorem State.modEgress_heater (s : State) (f : Egress → Egress) : (s.modEgress f).heater = s.heater := rfl
@[simp] theorem State.modEgress_fridge (s : State) (f : Egress → Egress) : (s.modEgress f).fridge = s.fridge := rfl
@[simp] theorem State.modEgress_lights (s : State) (f : Egress → Egress) : (s.modEgress f).lights = s.lights := rfl
@[simp] theorem State.modEgress_rest (s : State) (f : Egress → Egress) : (s.modEgress f).rest = s.rest := rfl
@[simp] theorem State.modEgress_setup (s : State) (f : Egress → Egress) : (s.modEgress f).setup = s.setup := rfl
@[simp] theorem State.modEgress_store (s : State) (f : Egress → Egress) : (s.modEgress f).store = s.store := rfl
@[simp] theorem State.modEgress_notices (s : State) (f : Egress → Egress) : (s.modEgress f).notices = s.notices := rfl
@[simp] theorem State.modEgress_power (s : State) (f : Egress → Egress) : (s.modEgress f).power = s.power := rfl
@[simp] theorem State.modEgress_ret (s : State) (f : Egress → Egress) : (s.modEgress f).ret = s.ret := rfl
@[simp] theorem State.modEgress_tables (s : State) (f : Egress → Egress) : (s.modEgress f).tables = s.tables := rfl
@[simp] theorem State.modEgress_pending (s : State) (f : Egress → Egress) : (s.modEgress f).pending = s.pending := rfl

/-! ### `modTx` -/

@[simp] theorem State.modTx_phase (s : State) (f : LoopTx → LoopTx) : (s.modTx f).phase = s.phase := rfl
@[simp] theorem State.modTx_bus (s : State) (f : LoopTx → LoopTx) : (s.modTx f).bus = s.bus := rfl
@[simp] theorem State.modTx_signals (s : State) (f : LoopTx → LoopTx) : (s.modTx f).signals = s.signals := rfl
@[simp] theorem State.modTx_egress (s : State) (f : LoopTx → LoopTx) : (s.modTx f).egress = s.egress := rfl
@[simp] theorem State.modTx_tx (s : State) (f : LoopTx → LoopTx) : (s.modTx f).tx = f s.tx := rfl
@[simp] theorem State.modTx_rx (s : State) (f : LoopTx → LoopTx) : (s.modTx f).rx = s.rx := rfl
@[simp] theorem State.modTx_nodes (s : State) (f : LoopTx → LoopTx) : (s.modTx f).nodes = s.nodes := rfl
@[simp] theorem State.modTx_panel (s : State) (f : LoopTx → LoopTx) : (s.modTx f).panel = s.panel := rfl
@[simp] theorem State.modTx_roster (s : State) (f : LoopTx → LoopTx) : (s.modTx f).roster = s.roster := rfl
@[simp] theorem State.modTx_energy (s : State) (f : LoopTx → LoopTx) : (s.modTx f).energy = s.energy := rfl
@[simp] theorem State.modTx_heater (s : State) (f : LoopTx → LoopTx) : (s.modTx f).heater = s.heater := rfl
@[simp] theorem State.modTx_fridge (s : State) (f : LoopTx → LoopTx) : (s.modTx f).fridge = s.fridge := rfl
@[simp] theorem State.modTx_lights (s : State) (f : LoopTx → LoopTx) : (s.modTx f).lights = s.lights := rfl
@[simp] theorem State.modTx_rest (s : State) (f : LoopTx → LoopTx) : (s.modTx f).rest = s.rest := rfl
@[simp] theorem State.modTx_setup (s : State) (f : LoopTx → LoopTx) : (s.modTx f).setup = s.setup := rfl
@[simp] theorem State.modTx_store (s : State) (f : LoopTx → LoopTx) : (s.modTx f).store = s.store := rfl
@[simp] theorem State.modTx_notices (s : State) (f : LoopTx → LoopTx) : (s.modTx f).notices = s.notices := rfl
@[simp] theorem State.modTx_power (s : State) (f : LoopTx → LoopTx) : (s.modTx f).power = s.power := rfl
@[simp] theorem State.modTx_ret (s : State) (f : LoopTx → LoopTx) : (s.modTx f).ret = s.ret := rfl
@[simp] theorem State.modTx_tables (s : State) (f : LoopTx → LoopTx) : (s.modTx f).tables = s.tables := rfl
@[simp] theorem State.modTx_pending (s : State) (f : LoopTx → LoopTx) : (s.modTx f).pending = s.pending := rfl

/-! ### `modRx` -/

@[simp] theorem State.modRx_phase (s : State) (f : LoopRx → LoopRx) : (s.modRx f).phase = s.phase := rfl
@[simp] theorem State.modRx_bus (s : State) (f : LoopRx → LoopRx) : (s.modRx f).bus = s.bus := rfl
@[simp] theorem State.modRx_signals (s : State) (f : LoopRx → LoopRx) : (s.modRx f).signals = s.signals := rfl
@[simp] theorem State.modRx_egress (s : State) (f : LoopRx → LoopRx) : (s.modRx f).egress = s.egress := rfl
@[simp] theorem State.modRx_tx (s : State) (f : LoopRx → LoopRx) : (s.modRx f).tx = s.tx := rfl
@[simp] theorem State.modRx_rx (s : State) (f : LoopRx → LoopRx) : (s.modRx f).rx = f s.rx := rfl
@[simp] theorem State.modRx_nodes (s : State) (f : LoopRx → LoopRx) : (s.modRx f).nodes = s.nodes := rfl
@[simp] theorem State.modRx_panel (s : State) (f : LoopRx → LoopRx) : (s.modRx f).panel = s.panel := rfl
@[simp] theorem State.modRx_roster (s : State) (f : LoopRx → LoopRx) : (s.modRx f).roster = s.roster := rfl
@[simp] theorem State.modRx_energy (s : State) (f : LoopRx → LoopRx) : (s.modRx f).energy = s.energy := rfl
@[simp] theorem State.modRx_heater (s : State) (f : LoopRx → LoopRx) : (s.modRx f).heater = s.heater := rfl
@[simp] theorem State.modRx_fridge (s : State) (f : LoopRx → LoopRx) : (s.modRx f).fridge = s.fridge := rfl
@[simp] theorem State.modRx_lights (s : State) (f : LoopRx → LoopRx) : (s.modRx f).lights = s.lights := rfl
@[simp] theorem State.modRx_rest (s : State) (f : LoopRx → LoopRx) : (s.modRx f).rest = s.rest := rfl
@[simp] theorem State.modRx_setup (s : State) (f : LoopRx → LoopRx) : (s.modRx f).setup = s.setup := rfl
@[simp] theorem State.modRx_store (s : State) (f : LoopRx → LoopRx) : (s.modRx f).store = s.store := rfl
@[simp] theorem State.modRx_notices (s : State) (f : LoopRx → LoopRx) : (s.modRx f).notices = s.notices := rfl
@[simp] theorem State.modRx_power (s : State) (f : LoopRx → LoopRx) : (s.modRx f).power = s.power := rfl
@[simp] theorem State.modRx_ret (s : State) (f : LoopRx → LoopRx) : (s.modRx f).ret = s.ret := rfl
@[simp] theorem State.modRx_tables (s : State) (f : LoopRx → LoopRx) : (s.modRx f).tables = s.tables := rfl
@[simp] theorem State.modRx_pending (s : State) (f : LoopRx → LoopRx) : (s.modRx f).pending = s.pending := rfl

/-! ### `modNodes` -/

@[simp] theorem State.modNodes_phase (s : State) (f : List NodeRec → List NodeRec) : (s.modNodes f).phase = s.phase := rfl
@[simp] theorem State.modNodes_bus (s : State) (f : List NodeRec → List NodeRec) : (s.modNodes f).bus = s.bus := rfl
@[simp] theorem State.modNodes_signals (s : State) (f : List NodeRec → List NodeRec) : (s.modNodes f).signals = s.signals := rfl
@[simp] theorem State.modNodes_egress (s : State) (f : List NodeRec → List NodeRec) : (s.modNodes f).egress = s.egress := rfl
@[simp] theorem State.modNodes_tx (s : State) (f : List NodeRec → List NodeRec) : (s.modNodes f).tx = s.tx := rfl
@[simp] theorem State.modNodes_rx (s : State) (f : List NodeRec → List NodeRec) : (s.modNodes f).rx = s.rx := rfl
@[simp] theorem State.modNodes_nodes (s : State) (f : List NodeRec → List NodeRec) : (s.modNodes f).nodes = f s.nodes := rfl
@[simp] theorem State.modNodes_panel (s : State) (f : List NodeRec → List NodeRec) : (s.modNodes f).panel = s.panel := rfl
@[simp] theorem State.modNodes_roster (s : State) (f : List NodeRec → List NodeRec) : (s.modNodes f).roster = s.roster := rfl
@[simp] theorem State.modNodes_energy (s : State) (f : List NodeRec → List NodeRec) : (s.modNodes f).energy = s.energy := rfl
@[simp] theorem State.modNodes_heater (s : State) (f : List NodeRec → List NodeRec) : (s.modNodes f).heater = s.heater := rfl
@[simp] theorem State.modNodes_fridge (s : State) (f : List NodeRec → List NodeRec) : (s.modNodes f).fridge = s.fridge := rfl
@[simp] theorem State.modNodes_lights (s : State) (f : List NodeRec → List NodeRec) : (s.modNodes f).lights = s.lights := rfl
@[simp] theorem State.modNodes_rest (s : State) (f : List NodeRec → List NodeRec) : (s.modNodes f).rest = s.rest := rfl
@[simp] theorem State.modNodes_setup (s : State) (f : List NodeRec → List NodeRec) : (s.modNodes f).setup = s.setup := rfl
@[simp] theorem State.modNodes_store (s : State) (f : List NodeRec → List NodeRec) : (s.modNodes f).store = s.store := rfl
@[simp] theorem State.modNodes_notices (s : State) (f : List NodeRec → List NodeRec) : (s.modNodes f).notices = s.notices := rfl
@[simp] theorem State.modNodes_power (s : State) (f : List NodeRec → List NodeRec) : (s.modNodes f).power = s.power := rfl
@[simp] theorem State.modNodes_ret (s : State) (f : List NodeRec → List NodeRec) : (s.modNodes f).ret = s.ret := rfl
@[simp] theorem State.modNodes_tables (s : State) (f : List NodeRec → List NodeRec) : (s.modNodes f).tables = s.tables := rfl
@[simp] theorem State.modNodes_pending (s : State) (f : List NodeRec → List NodeRec) : (s.modNodes f).pending = s.pending := rfl

/-! ### `modPanel` -/

@[simp] theorem State.modPanel_phase (s : State) (f : Panel → Panel) : (s.modPanel f).phase = s.phase := rfl
@[simp] theorem State.modPanel_bus (s : State) (f : Panel → Panel) : (s.modPanel f).bus = s.bus := rfl
@[simp] theorem State.modPanel_signals (s : State) (f : Panel → Panel) : (s.modPanel f).signals = s.signals := rfl
@[simp] theorem State.modPanel_egress (s : State) (f : Panel → Panel) : (s.modPanel f).egress = s.egress := rfl
@[simp] theorem State.modPanel_tx (s : State) (f : Panel → Panel) : (s.modPanel f).tx = s.tx := rfl
@[simp] theorem State.modPanel_rx (s : State) (f : Panel → Panel) : (s.modPanel f).rx = s.rx := rfl
@[simp] theorem State.modPanel_nodes (s : State) (f : Panel → Panel) : (s.modPanel f).nodes = s.nodes := rfl
@[simp] theorem State.modPanel_panel (s : State) (f : Panel → Panel) : (s.modPanel f).panel = f s.panel := rfl
@[simp] theorem State.modPanel_roster (s : State) (f : Panel → Panel) : (s.modPanel f).roster = s.roster := rfl
@[simp] theorem State.modPanel_energy (s : State) (f : Panel → Panel) : (s.modPanel f).energy = s.energy := rfl
@[simp] theorem State.modPanel_heater (s : State) (f : Panel → Panel) : (s.modPanel f).heater = s.heater := rfl
@[simp] theorem State.modPanel_fridge (s : State) (f : Panel → Panel) : (s.modPanel f).fridge = s.fridge := rfl
@[simp] theorem State.modPanel_lights (s : State) (f : Panel → Panel) : (s.modPanel f).lights = s.lights := rfl
@[simp] theorem State.modPanel_rest (s : State) (f : Panel → Panel) : (s.modPanel f).rest = s.rest := rfl
@[simp] theorem State.modPanel_setup (s : State) (f : Panel → Panel) : (s.modPanel f).setup = s.setup := rfl
@[simp] theorem State.modPanel_store (s : State) (f : Panel → Panel) : (s.modPanel f).store = s.store := rfl
@[simp] theorem State.modPanel_notices (s : State) (f : Panel → Panel) : (s.modPanel f).notices = s.notices := rfl
@[simp] theorem State.modPanel_power (s : State) (f : Panel → Panel) : (s.modPanel f).power = s.power := rfl
@[simp] theorem State.modPanel_ret (s : State) (f : Panel → Panel) : (s.modPanel f).ret = s.ret := rfl
@[simp] theorem State.modPanel_tables (s : State) (f : Panel → Panel) : (s.modPanel f).tables = s.tables := rfl
@[simp] theorem State.modPanel_pending (s : State) (f : Panel → Panel) : (s.modPanel f).pending = s.pending := rfl

/-! ### `modRoster` -/

@[simp] theorem State.modRoster_phase (s : State) (f : Roster → Roster) : (s.modRoster f).phase = s.phase := rfl
@[simp] theorem State.modRoster_bus (s : State) (f : Roster → Roster) : (s.modRoster f).bus = s.bus := rfl
@[simp] theorem State.modRoster_signals (s : State) (f : Roster → Roster) : (s.modRoster f).signals = s.signals := rfl
@[simp] theorem State.modRoster_egress (s : State) (f : Roster → Roster) : (s.modRoster f).egress = s.egress := rfl
@[simp] theorem State.modRoster_tx (s : State) (f : Roster → Roster) : (s.modRoster f).tx = s.tx := rfl
@[simp] theorem State.modRoster_rx (s : State) (f : Roster → Roster) : (s.modRoster f).rx = s.rx := rfl
@[simp] theorem State.modRoster_nodes (s : State) (f : Roster → Roster) : (s.modRoster f).nodes = s.nodes := rfl
@[simp] theorem State.modRoster_panel (s : State) (f : Roster → Roster) : (s.modRoster f).panel = s.panel := rfl
@[simp] theorem State.modRoster_roster (s : State) (f : Roster → Roster) : (s.modRoster f).roster = f s.roster := rfl
@[simp] theorem State.modRoster_energy (s : State) (f : Roster → Roster) : (s.modRoster f).energy = s.energy := rfl
@[simp] theorem State.modRoster_heater (s : State) (f : Roster → Roster) : (s.modRoster f).heater = s.heater := rfl
@[simp] theorem State.modRoster_fridge (s : State) (f : Roster → Roster) : (s.modRoster f).fridge = s.fridge := rfl
@[simp] theorem State.modRoster_lights (s : State) (f : Roster → Roster) : (s.modRoster f).lights = s.lights := rfl
@[simp] theorem State.modRoster_rest (s : State) (f : Roster → Roster) : (s.modRoster f).rest = s.rest := rfl
@[simp] theorem State.modRoster_setup (s : State) (f : Roster → Roster) : (s.modRoster f).setup = s.setup := rfl
@[simp] theorem State.modRoster_store (s : State) (f : Roster → Roster) : (s.modRoster f).store = s.store := rfl
@[simp] theorem State.modRoster_notices (s : State) (f : Roster → Roster) : (s.modRoster f).notices = s.notices := rfl
@[simp] theorem State.modRoster_power (s : State) (f : Roster → Roster) : (s.modRoster f).power = s.power := rfl
@[simp] theorem State.modRoster_ret (s : State) (f : Roster → Roster) : (s.modRoster f).ret = s.ret := rfl
@[simp] theorem State.modRoster_tables (s : State) (f : Roster → Roster) : (s.modRoster f).tables = s.tables := rfl
@[simp] theorem State.modRoster_pending (s : State) (f : Roster → Roster) : (s.modRoster f).pending = s.pending := rfl

/-! ### `modEnergy` -/

@[simp] theorem State.modEnergy_phase (s : State) (f : Energy → Energy) : (s.modEnergy f).phase = s.phase := rfl
@[simp] theorem State.modEnergy_bus (s : State) (f : Energy → Energy) : (s.modEnergy f).bus = s.bus := rfl
@[simp] theorem State.modEnergy_signals (s : State) (f : Energy → Energy) : (s.modEnergy f).signals = s.signals := rfl
@[simp] theorem State.modEnergy_egress (s : State) (f : Energy → Energy) : (s.modEnergy f).egress = s.egress := rfl
@[simp] theorem State.modEnergy_tx (s : State) (f : Energy → Energy) : (s.modEnergy f).tx = s.tx := rfl
@[simp] theorem State.modEnergy_rx (s : State) (f : Energy → Energy) : (s.modEnergy f).rx = s.rx := rfl
@[simp] theorem State.modEnergy_nodes (s : State) (f : Energy → Energy) : (s.modEnergy f).nodes = s.nodes := rfl
@[simp] theorem State.modEnergy_panel (s : State) (f : Energy → Energy) : (s.modEnergy f).panel = s.panel := rfl
@[simp] theorem State.modEnergy_roster (s : State) (f : Energy → Energy) : (s.modEnergy f).roster = s.roster := rfl
@[simp] theorem State.modEnergy_energy (s : State) (f : Energy → Energy) : (s.modEnergy f).energy = f s.energy := rfl
@[simp] theorem State.modEnergy_heater (s : State) (f : Energy → Energy) : (s.modEnergy f).heater = s.heater := rfl
@[simp] theorem State.modEnergy_fridge (s : State) (f : Energy → Energy) : (s.modEnergy f).fridge = s.fridge := rfl
@[simp] theorem State.modEnergy_lights (s : State) (f : Energy → Energy) : (s.modEnergy f).lights = s.lights := rfl
@[simp] theorem State.modEnergy_rest (s : State) (f : Energy → Energy) : (s.modEnergy f).rest = s.rest := rfl
@[simp] theorem State.modEnergy_setup (s : State) (f : Energy → Energy) : (s.modEnergy f).setup = s.setup := rfl
@[simp] theorem State.modEnergy_store (s : State) (f : Energy → Energy) : (s.modEnergy f).store = s.store := rfl
@[simp] theorem State.modEnergy_notices (s : State) (f : Energy → Energy) : (s.modEnergy f).notices = s.notices := rfl
@[simp] theorem State.modEnergy_power (s : State) (f : Energy → Energy) : (s.modEnergy f).power = s.power := rfl
@[simp] theorem State.modEnergy_ret (s : State) (f : Energy → Energy) : (s.modEnergy f).ret = s.ret := rfl
@[simp] theorem State.modEnergy_tables (s : State) (f : Energy → Energy) : (s.modEnergy f).tables = s.tables := rfl
@[simp] theorem State.modEnergy_pending (s : State) (f : Energy → Energy) : (s.modEnergy f).pending = s.pending := rfl

/-! ### `modHeater` -/

@[simp] theorem State.modHeater_phase (s : State) (f : Heater → Heater) : (s.modHeater f).phase = s.phase := rfl
@[simp] theorem State.modHeater_bus (s : State) (f : Heater → Heater) : (s.modHeater f).bus = s.bus := rfl
@[simp] theorem State.modHeater_signals (s : State) (f : Heater → Heater) : (s.modHeater f).signals = s.signals := rfl
@[simp] theorem State.modHeater_egress (s : State) (f : Heater → Heater) : (s.modHeater f).egress = s.egress := rfl
@[simp] theorem State.modHeater_tx (s : State) (f : Heater → Heater) : (s.modHeater f).tx = s.tx := rfl
@[simp] theorem State.modHeater_rx (s : State) (f : Heater → Heater) : (s.modHeater f).rx = s.rx := rfl
@[simp] theorem State.modHeater_nodes (s : State) (f : Heater → Heater) : (s.modHeater f).nodes = s.nodes := rfl
@[simp] theorem State.modHeater_panel (s : State) (f : Heater → Heater) : (s.modHeater f).panel = s.panel := rfl
@[simp] theorem State.modHeater_roster (s : State) (f : Heater → Heater) : (s.modHeater f).roster = s.roster := rfl
@[simp] theorem State.modHeater_energy (s : State) (f : Heater → Heater) : (s.modHeater f).energy = s.energy := rfl
@[simp] theorem State.modHeater_heater (s : State) (f : Heater → Heater) : (s.modHeater f).heater = f s.heater := rfl
@[simp] theorem State.modHeater_fridge (s : State) (f : Heater → Heater) : (s.modHeater f).fridge = s.fridge := rfl
@[simp] theorem State.modHeater_lights (s : State) (f : Heater → Heater) : (s.modHeater f).lights = s.lights := rfl
@[simp] theorem State.modHeater_rest (s : State) (f : Heater → Heater) : (s.modHeater f).rest = s.rest := rfl
@[simp] theorem State.modHeater_setup (s : State) (f : Heater → Heater) : (s.modHeater f).setup = s.setup := rfl
@[simp] theorem State.modHeater_store (s : State) (f : Heater → Heater) : (s.modHeater f).store = s.store := rfl
@[simp] theorem State.modHeater_notices (s : State) (f : Heater → Heater) : (s.modHeater f).notices = s.notices := rfl
@[simp] theorem State.modHeater_power (s : State) (f : Heater → Heater) : (s.modHeater f).power = s.power := rfl
@[simp] theorem State.modHeater_ret (s : State) (f : Heater → Heater) : (s.modHeater f).ret = s.ret := rfl
@[simp] theorem State.modHeater_tables (s : State) (f : Heater → Heater) : (s.modHeater f).tables = s.tables := rfl
@[simp] theorem State.modHeater_pending (s : State) (f : Heater → Heater) : (s.modHeater f).pending = s.pending := rfl

/-! ### `modFridge` -/

@[simp] theorem State.modFridge_phase (s : State) (f : Fridge → Fridge) : (s.modFridge f).phase = s.phase := rfl
@[simp] theorem State.modFridge_bus (s : State) (f : Fridge → Fridge) : (s.modFridge f).bus = s.bus := rfl
@[simp] theorem State.modFridge_signals (s : State) (f : Fridge → Fridge) : (s.modFridge f).signals = s.signals := rfl
@[simp] theorem State.modFridge_egress (s : State) (f : Fridge → Fridge) : (s.modFridge f).egress = s.egress := rfl
@[simp] theorem State.modFridge_tx (s : State) (f : Fridge → Fridge) : (s.modFridge f).tx = s.tx := rfl
@[simp] theorem State.modFridge_rx (s : State) (f : Fridge → Fridge) : (s.modFridge f).rx = s.rx := rfl
@[simp] theorem State.modFridge_nodes (s : State) (f : Fridge → Fridge) : (s.modFridge f).nodes = s.nodes := rfl
@[simp] theorem State.modFridge_panel (s : State) (f : Fridge → Fridge) : (s.modFridge f).panel = s.panel := rfl
@[simp] theorem State.modFridge_roster (s : State) (f : Fridge → Fridge) : (s.modFridge f).roster = s.roster := rfl
@[simp] theorem State.modFridge_energy (s : State) (f : Fridge → Fridge) : (s.modFridge f).energy = s.energy := rfl
@[simp] theorem State.modFridge_heater (s : State) (f : Fridge → Fridge) : (s.modFridge f).heater = s.heater := rfl
@[simp] theorem State.modFridge_fridge (s : State) (f : Fridge → Fridge) : (s.modFridge f).fridge = f s.fridge := rfl
@[simp] theorem State.modFridge_lights (s : State) (f : Fridge → Fridge) : (s.modFridge f).lights = s.lights := rfl
@[simp] theorem State.modFridge_rest (s : State) (f : Fridge → Fridge) : (s.modFridge f).rest = s.rest := rfl
@[simp] theorem State.modFridge_setup (s : State) (f : Fridge → Fridge) : (s.modFridge f).setup = s.setup := rfl
@[simp] theorem State.modFridge_store (s : State) (f : Fridge → Fridge) : (s.modFridge f).store = s.store := rfl
@[simp] theorem State.modFridge_notices (s : State) (f : Fridge → Fridge) : (s.modFridge f).notices = s.notices := rfl
@[simp] theorem State.modFridge_power (s : State) (f : Fridge → Fridge) : (s.modFridge f).power = s.power := rfl
@[simp] theorem State.modFridge_ret (s : State) (f : Fridge → Fridge) : (s.modFridge f).ret = s.ret := rfl
@[simp] theorem State.modFridge_tables (s : State) (f : Fridge → Fridge) : (s.modFridge f).tables = s.tables := rfl
@[simp] theorem State.modFridge_pending (s : State) (f : Fridge → Fridge) : (s.modFridge f).pending = s.pending := rfl

/-! ### `modLights` -/

@[simp] theorem State.modLights_phase (s : State) (f : Lights → Lights) : (s.modLights f).phase = s.phase := rfl
@[simp] theorem State.modLights_bus (s : State) (f : Lights → Lights) : (s.modLights f).bus = s.bus := rfl
@[simp] theorem State.modLights_signals (s : State) (f : Lights → Lights) : (s.modLights f).signals = s.signals := rfl
@[simp] theorem State.modLights_egress (s : State) (f : Lights → Lights) : (s.modLights f).egress = s.egress := rfl
@[simp] theorem State.modLights_tx (s : State) (f : Lights → Lights) : (s.modLights f).tx = s.tx := rfl
@[simp] theorem State.modLights_rx (s : State) (f : Lights → Lights) : (s.modLights f).rx = s.rx := rfl
@[simp] theorem State.modLights_nodes (s : State) (f : Lights → Lights) : (s.modLights f).nodes = s.nodes := rfl
@[simp] theorem State.modLights_panel (s : State) (f : Lights → Lights) : (s.modLights f).panel = s.panel := rfl
@[simp] theorem State.modLights_roster (s : State) (f : Lights → Lights) : (s.modLights f).roster = s.roster := rfl
@[simp] theorem State.modLights_energy (s : State) (f : Lights → Lights) : (s.modLights f).energy = s.energy := rfl
@[simp] theorem State.modLights_heater (s : State) (f : Lights → Lights) : (s.modLights f).heater = s.heater := rfl
@[simp] theorem State.modLights_fridge (s : State) (f : Lights → Lights) : (s.modLights f).fridge = s.fridge := rfl
@[simp] theorem State.modLights_lights (s : State) (f : Lights → Lights) : (s.modLights f).lights = f s.lights := rfl
@[simp] theorem State.modLights_rest (s : State) (f : Lights → Lights) : (s.modLights f).rest = s.rest := rfl
@[simp] theorem State.modLights_setup (s : State) (f : Lights → Lights) : (s.modLights f).setup = s.setup := rfl
@[simp] theorem State.modLights_store (s : State) (f : Lights → Lights) : (s.modLights f).store = s.store := rfl
@[simp] theorem State.modLights_notices (s : State) (f : Lights → Lights) : (s.modLights f).notices = s.notices := rfl
@[simp] theorem State.modLights_power (s : State) (f : Lights → Lights) : (s.modLights f).power = s.power := rfl
@[simp] theorem State.modLights_ret (s : State) (f : Lights → Lights) : (s.modLights f).ret = s.ret := rfl
@[simp] theorem State.modLights_tables (s : State) (f : Lights → Lights) : (s.modLights f).tables = s.tables := rfl
@[simp] theorem State.modLights_pending (s : State) (f : Lights → Lights) : (s.modLights f).pending = s.pending := rfl

/-! ### `modRest` -/

@[simp] theorem State.modRest_phase (s : State) (f : Rest → Rest) : (s.modRest f).phase = s.phase := rfl
@[simp] theorem State.modRest_bus (s : State) (f : Rest → Rest) : (s.modRest f).bus = s.bus := rfl
@[simp] theorem State.modRest_signals (s : State) (f : Rest → Rest) : (s.modRest f).signals = s.signals := rfl
@[simp] theorem State.modRest_egress (s : State) (f : Rest → Rest) : (s.modRest f).egress = s.egress := rfl
@[simp] theorem State.modRest_tx (s : State) (f : Rest → Rest) : (s.modRest f).tx = s.tx := rfl
@[simp] theorem State.modRest_rx (s : State) (f : Rest → Rest) : (s.modRest f).rx = s.rx := rfl
@[simp] theorem State.modRest_nodes (s : State) (f : Rest → Rest) : (s.modRest f).nodes = s.nodes := rfl
@[simp] theorem State.modRest_panel (s : State) (f : Rest → Rest) : (s.modRest f).panel = s.panel := rfl
@[simp] theorem State.modRest_roster (s : State) (f : Rest → Rest) : (s.modRest f).roster = s.roster := rfl
@[simp] theorem State.modRest_energy (s : State) (f : Rest → Rest) : (s.modRest f).energy = s.energy := rfl
@[simp] theorem State.modRest_heater (s : State) (f : Rest → Rest) : (s.modRest f).heater = s.heater := rfl
@[simp] theorem State.modRest_fridge (s : State) (f : Rest → Rest) : (s.modRest f).fridge = s.fridge := rfl
@[simp] theorem State.modRest_lights (s : State) (f : Rest → Rest) : (s.modRest f).lights = s.lights := rfl
@[simp] theorem State.modRest_rest (s : State) (f : Rest → Rest) : (s.modRest f).rest = f s.rest := rfl
@[simp] theorem State.modRest_setup (s : State) (f : Rest → Rest) : (s.modRest f).setup = s.setup := rfl
@[simp] theorem State.modRest_store (s : State) (f : Rest → Rest) : (s.modRest f).store = s.store := rfl
@[simp] theorem State.modRest_notices (s : State) (f : Rest → Rest) : (s.modRest f).notices = s.notices := rfl
@[simp] theorem State.modRest_power (s : State) (f : Rest → Rest) : (s.modRest f).power = s.power := rfl
@[simp] theorem State.modRest_ret (s : State) (f : Rest → Rest) : (s.modRest f).ret = s.ret := rfl
@[simp] theorem State.modRest_tables (s : State) (f : Rest → Rest) : (s.modRest f).tables = s.tables := rfl
@[simp] theorem State.modRest_pending (s : State) (f : Rest → Rest) : (s.modRest f).pending = s.pending := rfl

/-! ### `modSetup` -/

@[simp] theorem State.modSetup_phase (s : State) (f : Setup → Setup) : (s.modSetup f).phase = s.phase := rfl
@[simp] theorem State.modSetup_bus (s : State) (f : Setup → Setup) : (s.modSetup f).bus = s.bus := rfl
@[simp] theorem State.modSetup_signals (s : State) (f : Setup → Setup) : (s.modSetup f).signals = s.signals := rfl
@[simp] theorem State.modSetup_egress (s : State) (f : Setup → Setup) : (s.modSetup f).egress = s.egress := rfl
@[simp] theorem State.modSetup_tx (s : State) (f : Setup → Setup) : (s.modSetup f).tx = s.tx := rfl
@[simp] theorem State.modSetup_rx (s : State) (f : Setup → Setup) : (s.modSetup f).rx = s.rx := rfl
@[simp] theorem State.modSetup_nodes (s : State) (f : Setup → Setup) : (s.modSetup f).nodes = s.nodes := rfl
@[simp] theorem State.modSetup_panel (s : State) (f : Setup → Setup) : (s.modSetup f).panel = s.panel := rfl
@[simp] theorem State.modSetup_roster (s : State) (f : Setup → Setup) : (s.modSetup f).roster = s.roster := rfl
@[simp] theorem State.modSetup_energy (s : State) (f : Setup → Setup) : (s.modSetup f).energy = s.energy := rfl
@[simp] theorem State.modSetup_heater (s : State) (f : Setup → Setup) : (s.modSetup f).heater = s.heater := rfl
@[simp] theorem State.modSetup_fridge (s : State) (f : Setup → Setup) : (s.modSetup f).fridge = s.fridge := rfl
@[simp] theorem State.modSetup_lights (s : State) (f : Setup → Setup) : (s.modSetup f).lights = s.lights := rfl
@[simp] theorem State.modSetup_rest (s : State) (f : Setup → Setup) : (s.modSetup f).rest = s.rest := rfl
@[simp] theorem State.modSetup_setup (s : State) (f : Setup → Setup) : (s.modSetup f).setup = f s.setup := rfl
@[simp] theorem State.modSetup_store (s : State) (f : Setup → Setup) : (s.modSetup f).store = s.store := rfl
@[simp] theorem State.modSetup_notices (s : State) (f : Setup → Setup) : (s.modSetup f).notices = s.notices := rfl
@[simp] theorem State.modSetup_power (s : State) (f : Setup → Setup) : (s.modSetup f).power = s.power := rfl
@[simp] theorem State.modSetup_ret (s : State) (f : Setup → Setup) : (s.modSetup f).ret = s.ret := rfl
@[simp] theorem State.modSetup_tables (s : State) (f : Setup → Setup) : (s.modSetup f).tables = s.tables := rfl
@[simp] theorem State.modSetup_pending (s : State) (f : Setup → Setup) : (s.modSetup f).pending = s.pending := rfl

/-! ### `modStore` -/

@[simp] theorem State.modStore_phase (s : State) (f : Store → Store) : (s.modStore f).phase = s.phase := rfl
@[simp] theorem State.modStore_bus (s : State) (f : Store → Store) : (s.modStore f).bus = s.bus := rfl
@[simp] theorem State.modStore_signals (s : State) (f : Store → Store) : (s.modStore f).signals = s.signals := rfl
@[simp] theorem State.modStore_egress (s : State) (f : Store → Store) : (s.modStore f).egress = s.egress := rfl
@[simp] theorem State.modStore_tx (s : State) (f : Store → Store) : (s.modStore f).tx = s.tx := rfl
@[simp] theorem State.modStore_rx (s : State) (f : Store → Store) : (s.modStore f).rx = s.rx := rfl
@[simp] theorem State.modStore_nodes (s : State) (f : Store → Store) : (s.modStore f).nodes = s.nodes := rfl
@[simp] theorem State.modStore_panel (s : State) (f : Store → Store) : (s.modStore f).panel = s.panel := rfl
@[simp] theorem State.modStore_roster (s : State) (f : Store → Store) : (s.modStore f).roster = s.roster := rfl
@[simp] theorem State.modStore_energy (s : State) (f : Store → Store) : (s.modStore f).energy = s.energy := rfl
@[simp] theorem State.modStore_heater (s : State) (f : Store → Store) : (s.modStore f).heater = s.heater := rfl
@[simp] theorem State.modStore_fridge (s : State) (f : Store → Store) : (s.modStore f).fridge = s.fridge := rfl
@[simp] theorem State.modStore_lights (s : State) (f : Store → Store) : (s.modStore f).lights = s.lights := rfl
@[simp] theorem State.modStore_rest (s : State) (f : Store → Store) : (s.modStore f).rest = s.rest := rfl
@[simp] theorem State.modStore_setup (s : State) (f : Store → Store) : (s.modStore f).setup = s.setup := rfl
@[simp] theorem State.modStore_store (s : State) (f : Store → Store) : (s.modStore f).store = f s.store := rfl
@[simp] theorem State.modStore_notices (s : State) (f : Store → Store) : (s.modStore f).notices = s.notices := rfl
@[simp] theorem State.modStore_power (s : State) (f : Store → Store) : (s.modStore f).power = s.power := rfl
@[simp] theorem State.modStore_ret (s : State) (f : Store → Store) : (s.modStore f).ret = s.ret := rfl
@[simp] theorem State.modStore_tables (s : State) (f : Store → Store) : (s.modStore f).tables = s.tables := rfl
@[simp] theorem State.modStore_pending (s : State) (f : Store → Store) : (s.modStore f).pending = s.pending := rfl

/-! ### `modNotices` -/

@[simp] theorem State.modNotices_phase (s : State) (f : Notices → Notices) : (s.modNotices f).phase = s.phase := rfl
@[simp] theorem State.modNotices_bus (s : State) (f : Notices → Notices) : (s.modNotices f).bus = s.bus := rfl
@[simp] theorem State.modNotices_signals (s : State) (f : Notices → Notices) : (s.modNotices f).signals = s.signals := rfl
@[simp] theorem State.modNotices_egress (s : State) (f : Notices → Notices) : (s.modNotices f).egress = s.egress := rfl
@[simp] theorem State.modNotices_tx (s : State) (f : Notices → Notices) : (s.modNotices f).tx = s.tx := rfl
@[simp] theorem State.modNotices_rx (s : State) (f : Notices → Notices) : (s.modNotices f).rx = s.rx := rfl
@[simp] theorem State.modNotices_nodes (s : State) (f : Notices → Notices) : (s.modNotices f).nodes = s.nodes := rfl
@[simp] theorem State.modNotices_panel (s : State) (f : Notices → Notices) : (s.modNotices f).panel = s.panel := rfl
@[simp] theorem State.modNotices_roster (s : State) (f : Notices → Notices) : (s.modNotices f).roster = s.roster := rfl
@[simp] theorem State.modNotices_energy (s : State) (f : Notices → Notices) : (s.modNotices f).energy = s.energy := rfl
@[simp] theorem State.modNotices_heater (s : State) (f : Notices → Notices) : (s.modNotices f).heater = s.heater := rfl
@[simp] theorem State.modNotices_fridge (s : State) (f : Notices → Notices) : (s.modNotices f).fridge = s.fridge := rfl
@[simp] theorem State.modNotices_lights (s : State) (f : Notices → Notices) : (s.modNotices f).lights = s.lights := rfl
@[simp] theorem State.modNotices_rest (s : State) (f : Notices → Notices) : (s.modNotices f).rest = s.rest := rfl
@[simp] theorem State.modNotices_setup (s : State) (f : Notices → Notices) : (s.modNotices f).setup = s.setup := rfl
@[simp] theorem State.modNotices_store (s : State) (f : Notices → Notices) : (s.modNotices f).store = s.store := rfl
@[simp] theorem State.modNotices_notices (s : State) (f : Notices → Notices) : (s.modNotices f).notices = f s.notices := rfl
@[simp] theorem State.modNotices_power (s : State) (f : Notices → Notices) : (s.modNotices f).power = s.power := rfl
@[simp] theorem State.modNotices_ret (s : State) (f : Notices → Notices) : (s.modNotices f).ret = s.ret := rfl
@[simp] theorem State.modNotices_tables (s : State) (f : Notices → Notices) : (s.modNotices f).tables = s.tables := rfl
@[simp] theorem State.modNotices_pending (s : State) (f : Notices → Notices) : (s.modNotices f).pending = s.pending := rfl

/-! ### `modPower` -/

@[simp] theorem State.modPower_phase (s : State) (f : Power → Power) : (s.modPower f).phase = s.phase := rfl
@[simp] theorem State.modPower_bus (s : State) (f : Power → Power) : (s.modPower f).bus = s.bus := rfl
@[simp] theorem State.modPower_signals (s : State) (f : Power → Power) : (s.modPower f).signals = s.signals := rfl
@[simp] theorem State.modPower_egress (s : State) (f : Power → Power) : (s.modPower f).egress = s.egress := rfl
@[simp] theorem State.modPower_tx (s : State) (f : Power → Power) : (s.modPower f).tx = s.tx := rfl
@[simp] theorem State.modPower_rx (s : State) (f : Power → Power) : (s.modPower f).rx = s.rx := rfl
@[simp] theorem State.modPower_nodes (s : State) (f : Power → Power) : (s.modPower f).nodes = s.nodes := rfl
@[simp] theorem State.modPower_panel (s : State) (f : Power → Power) : (s.modPower f).panel = s.panel := rfl
@[simp] theorem State.modPower_roster (s : State) (f : Power → Power) : (s.modPower f).roster = s.roster := rfl
@[simp] theorem State.modPower_energy (s : State) (f : Power → Power) : (s.modPower f).energy = s.energy := rfl
@[simp] theorem State.modPower_heater (s : State) (f : Power → Power) : (s.modPower f).heater = s.heater := rfl
@[simp] theorem State.modPower_fridge (s : State) (f : Power → Power) : (s.modPower f).fridge = s.fridge := rfl
@[simp] theorem State.modPower_lights (s : State) (f : Power → Power) : (s.modPower f).lights = s.lights := rfl
@[simp] theorem State.modPower_rest (s : State) (f : Power → Power) : (s.modPower f).rest = s.rest := rfl
@[simp] theorem State.modPower_setup (s : State) (f : Power → Power) : (s.modPower f).setup = s.setup := rfl
@[simp] theorem State.modPower_store (s : State) (f : Power → Power) : (s.modPower f).store = s.store := rfl
@[simp] theorem State.modPower_notices (s : State) (f : Power → Power) : (s.modPower f).notices = s.notices := rfl
@[simp] theorem State.modPower_power (s : State) (f : Power → Power) : (s.modPower f).power = f s.power := rfl
@[simp] theorem State.modPower_ret (s : State) (f : Power → Power) : (s.modPower f).ret = s.ret := rfl
@[simp] theorem State.modPower_tables (s : State) (f : Power → Power) : (s.modPower f).tables = s.tables := rfl
@[simp] theorem State.modPower_pending (s : State) (f : Power → Power) : (s.modPower f).pending = s.pending := rfl

/-! ### `modRet` -/

@[simp] theorem State.modRet_phase (s : State) (f : Retention → Retention) : (s.modRet f).phase = s.phase := rfl
@[simp] theorem State.modRet_bus (s : State) (f : Retention → Retention) : (s.modRet f).bus = s.bus := rfl
@[simp] theorem State.modRet_signals (s : State) (f : Retention → Retention) : (s.modRet f).signals = s.signals := rfl
@[simp] theorem State.modRet_egress (s : State) (f : Retention → Retention) : (s.modRet f).egress = s.egress := rfl
@[simp] theorem State.modRet_tx (s : State) (f : Retention → Retention) : (s.modRet f).tx = s.tx := rfl
@[simp] theorem State.modRet_rx (s : State) (f : Retention → Retention) : (s.modRet f).rx = s.rx := rfl
@[simp] theorem State.modRet_nodes (s : State) (f : Retention → Retention) : (s.modRet f).nodes = s.nodes := rfl
@[simp] theorem State.modRet_panel (s : State) (f : Retention → Retention) : (s.modRet f).panel = s.panel := rfl
@[simp] theorem State.modRet_roster (s : State) (f : Retention → Retention) : (s.modRet f).roster = s.roster := rfl
@[simp] theorem State.modRet_energy (s : State) (f : Retention → Retention) : (s.modRet f).energy = s.energy := rfl
@[simp] theorem State.modRet_heater (s : State) (f : Retention → Retention) : (s.modRet f).heater = s.heater := rfl
@[simp] theorem State.modRet_fridge (s : State) (f : Retention → Retention) : (s.modRet f).fridge = s.fridge := rfl
@[simp] theorem State.modRet_lights (s : State) (f : Retention → Retention) : (s.modRet f).lights = s.lights := rfl
@[simp] theorem State.modRet_rest (s : State) (f : Retention → Retention) : (s.modRet f).rest = s.rest := rfl
@[simp] theorem State.modRet_setup (s : State) (f : Retention → Retention) : (s.modRet f).setup = s.setup := rfl
@[simp] theorem State.modRet_store (s : State) (f : Retention → Retention) : (s.modRet f).store = s.store := rfl
@[simp] theorem State.modRet_notices (s : State) (f : Retention → Retention) : (s.modRet f).notices = s.notices := rfl
@[simp] theorem State.modRet_power (s : State) (f : Retention → Retention) : (s.modRet f).power = s.power := rfl
@[simp] theorem State.modRet_ret (s : State) (f : Retention → Retention) : (s.modRet f).ret = f s.ret := rfl
@[simp] theorem State.modRet_tables (s : State) (f : Retention → Retention) : (s.modRet f).tables = s.tables := rfl
@[simp] theorem State.modRet_pending (s : State) (f : Retention → Retention) : (s.modRet f).pending = s.pending := rfl

/-! ### `modTables` -/

@[simp] theorem State.modTables_phase (s : State) (f : Tables → Tables) : (s.modTables f).phase = s.phase := rfl
@[simp] theorem State.modTables_bus (s : State) (f : Tables → Tables) : (s.modTables f).bus = s.bus := rfl
@[simp] theorem State.modTables_signals (s : State) (f : Tables → Tables) : (s.modTables f).signals = s.signals := rfl
@[simp] theorem State.modTables_egress (s : State) (f : Tables → Tables) : (s.modTables f).egress = s.egress := rfl
@[simp] theorem State.modTables_tx (s : State) (f : Tables → Tables) : (s.modTables f).tx = s.tx := rfl
@[simp] theorem State.modTables_rx (s : State) (f : Tables → Tables) : (s.modTables f).rx = s.rx := rfl
@[simp] theorem State.modTables_nodes (s : State) (f : Tables → Tables) : (s.modTables f).nodes = s.nodes := rfl
@[simp] theorem State.modTables_panel (s : State) (f : Tables → Tables) : (s.modTables f).panel = s.panel := rfl
@[simp] theorem State.modTables_roster (s : State) (f : Tables → Tables) : (s.modTables f).roster = s.roster := rfl
@[simp] theorem State.modTables_energy (s : State) (f : Tables → Tables) : (s.modTables f).energy = s.energy := rfl
@[simp] theorem State.modTables_heater (s : State) (f : Tables → Tables) : (s.modTables f).heater = s.heater := rfl
@[simp] theorem State.modTables_fridge (s : State) (f : Tables → Tables) : (s.modTables f).fridge = s.fridge := rfl
@[simp] theorem State.modTables_lights (s : State) (f : Tables → Tables) : (s.modTables f).lights = s.lights := rfl
@[simp] theorem State.modTables_rest (s : State) (f : Tables → Tables) : (s.modTables f).rest = s.rest := rfl
@[simp] theorem State.modTables_setup (s : State) (f : Tables → Tables) : (s.modTables f).setup = s.setup := rfl
@[simp] theorem State.modTables_store (s : State) (f : Tables → Tables) : (s.modTables f).store = s.store := rfl
@[simp] theorem State.modTables_notices (s : State) (f : Tables → Tables) : (s.modTables f).notices = s.notices := rfl
@[simp] theorem State.modTables_power (s : State) (f : Tables → Tables) : (s.modTables f).power = s.power := rfl
@[simp] theorem State.modTables_ret (s : State) (f : Tables → Tables) : (s.modTables f).ret = s.ret := rfl
@[simp] theorem State.modTables_tables (s : State) (f : Tables → Tables) : (s.modTables f).tables = f s.tables := rfl
@[simp] theorem State.modTables_pending (s : State) (f : Tables → Tables) : (s.modTables f).pending = s.pending := rfl

/-! ### Folds over records: a block that no single application touches is untouched -/

@[simp] theorem State.forEach_phase (s : State) (is : List Nat) (f : Nat → State → State)
    (h : ∀ i t, (f i t).phase = t.phase) : (s.forEach is f).phase = s.phase := by
  unfold State.forEach
  induction is generalizing s with
  | nil => rfl
  | cons i is ih => simp only [List.foldl_cons, ih, h]

@[simp] theorem State.forEach_bus (s : State) (is : List Nat) (f : Nat → State → State)
    (h : ∀ i t, (f i t).bus = t.bus) : (s.forEach is f).bus = s.bus := by
  unfold State.forEach
  induction is generalizing s with
  | nil => rfl
  | cons i is ih => simp only [List.foldl_cons, ih, h]

@[simp] theorem State.forEach_signals (s : State) (is : List Nat) (f : Nat → State → State)
    (h : ∀ i t, (f i t).signals = t.signals) : (s.forEach is f).signals = s.signals := by
  unfold State.forEach
  induction is generalizing s with
  | nil => rfl
  | cons i is ih => simp only [List.foldl_cons, ih, h]

@[simp] theorem State.forEach_egress (s : State) (is : List Nat) (f : Nat → State → State)
    (h : ∀ i t, (f i t).egress = t.egress) : (s.forEach is f).egress = s.egress := by
  unfold State.forEach
  induction is generalizing s with
  | nil => rfl
  | cons i is ih => simp only [List.foldl_cons, ih, h]

@[simp] theorem State.forEach_tx (s : State) (is : List Nat) (f : Nat → State → State)
    (h : ∀ i t, (f i t).tx = t.tx) : (s.forEach is f).tx = s.tx := by
  unfold State.forEach
  induction is generalizing s with
  | nil => rfl
  | cons i is ih => simp only [List.foldl_cons, ih, h]

@[simp] theorem State.forEach_rx (s : State) (is : List Nat) (f : Nat → State → State)
    (h : ∀ i t, (f i t).rx = t.rx) : (s.forEach is f).rx = s.rx := by
  unfold State.forEach
  induction is generalizing s with
  | nil => rfl
  | cons i is ih => simp only [List.foldl_cons, ih, h]

@[simp] theorem State.forEach_nodes (s : State) (is : List Nat) (f : Nat → State → State)
    (h : ∀ i t, (f i t).nodes = t.nodes) : (s.forEach is f).nodes = s.nodes := by
  unfold State.forEach
  induction is generalizing s with
  | nil => rfl
  | cons i is ih => simp only [List.foldl_cons, ih, h]

@[simp] theorem State.forEach_panel (s : State) (is : List Nat) (f : Nat → State → State)
    (h : ∀ i t, (f i t).panel = t.panel) : (s.forEach is f).panel = s.panel := by
  unfold State.forEach
  induction is generalizing s with
  | nil => rfl
  | cons i is ih => simp only [List.foldl_cons, ih, h]

@[simp] theorem State.forEach_roster (s : State) (is : List Nat) (f : Nat → State → State)
    (h : ∀ i t, (f i t).roster = t.roster) : (s.forEach is f).roster = s.roster := by
  unfold State.forEach
  induction is generalizing s with
  | nil => rfl
  | cons i is ih => simp only [List.foldl_cons, ih, h]

@[simp] theorem State.forEach_energy (s : State) (is : List Nat) (f : Nat → State → State)
    (h : ∀ i t, (f i t).energy = t.energy) : (s.forEach is f).energy = s.energy := by
  unfold State.forEach
  induction is generalizing s with
  | nil => rfl
  | cons i is ih => simp only [List.foldl_cons, ih, h]

@[simp] theorem State.forEach_heater (s : State) (is : List Nat) (f : Nat → State → State)
    (h : ∀ i t, (f i t).heater = t.heater) : (s.forEach is f).heater = s.heater := by
  unfold State.forEach
  induction is generalizing s with
  | nil => rfl
  | cons i is ih => simp only [List.foldl_cons, ih, h]

@[simp] theorem State.forEach_fridge (s : State) (is : List Nat) (f : Nat → State → State)
    (h : ∀ i t, (f i t).fridge = t.fridge) : (s.forEach is f).fridge = s.fridge := by
  unfold State.forEach
  induction is generalizing s with
  | nil => rfl
  | cons i is ih => simp only [List.foldl_cons, ih, h]

@[simp] theorem State.forEach_lights (s : State) (is : List Nat) (f : Nat → State → State)
    (h : ∀ i t, (f i t).lights = t.lights) : (s.forEach is f).lights = s.lights := by
  unfold State.forEach
  induction is generalizing s with
  | nil => rfl
  | cons i is ih => simp only [List.foldl_cons, ih, h]

@[simp] theorem State.forEach_rest (s : State) (is : List Nat) (f : Nat → State → State)
    (h : ∀ i t, (f i t).rest = t.rest) : (s.forEach is f).rest = s.rest := by
  unfold State.forEach
  induction is generalizing s with
  | nil => rfl
  | cons i is ih => simp only [List.foldl_cons, ih, h]

@[simp] theorem State.forEach_setup (s : State) (is : List Nat) (f : Nat → State → State)
    (h : ∀ i t, (f i t).setup = t.setup) : (s.forEach is f).setup = s.setup := by
  unfold State.forEach
  induction is generalizing s with
  | nil => rfl
  | cons i is ih => simp only [List.foldl_cons, ih, h]

@[simp] theorem State.forEach_store (s : State) (is : List Nat) (f : Nat → State → State)
    (h : ∀ i t, (f i t).store = t.store) : (s.forEach is f).store = s.store := by
  unfold State.forEach
  induction is generalizing s with
  | nil => rfl
  | cons i is ih => simp only [List.foldl_cons, ih, h]

@[simp] theorem State.forEach_notices (s : State) (is : List Nat) (f : Nat → State → State)
    (h : ∀ i t, (f i t).notices = t.notices) : (s.forEach is f).notices = s.notices := by
  unfold State.forEach
  induction is generalizing s with
  | nil => rfl
  | cons i is ih => simp only [List.foldl_cons, ih, h]

@[simp] theorem State.forEach_power (s : State) (is : List Nat) (f : Nat → State → State)
    (h : ∀ i t, (f i t).power = t.power) : (s.forEach is f).power = s.power := by
  unfold State.forEach
  induction is generalizing s with
  | nil => rfl
  | cons i is ih => simp only [List.foldl_cons, ih, h]

@[simp] theorem State.forEach_power_state (s : State) (is : List Nat) (f : Nat → State → State)
    (h : ∀ i t, (f i t).power.state = t.power.state) : (s.forEach is f).power.state = s.power.state := by
  unfold State.forEach
  induction is generalizing s with
  | nil => rfl
  | cons i is ih => simp only [List.foldl_cons, ih, h]

@[simp] theorem State.forEach_power_quietTimer (s : State) (is : List Nat) (f : Nat → State → State)
    (h : ∀ i t, (f i t).power.quietTimer = t.power.quietTimer) : (s.forEach is f).power.quietTimer = s.power.quietTimer := by
  unfold State.forEach
  induction is generalizing s with
  | nil => rfl
  | cons i is ih => simp only [List.foldl_cons, ih, h]

@[simp] theorem State.forEach_power_cause (s : State) (is : List Nat) (f : Nat → State → State)
    (h : ∀ i t, (f i t).power.cause = t.power.cause) : (s.forEach is f).power.cause = s.power.cause := by
  unfold State.forEach
  induction is generalizing s with
  | nil => rfl
  | cons i is ih => simp only [List.foldl_cons, ih, h]

@[simp] theorem State.forEach_ret (s : State) (is : List Nat) (f : Nat → State → State)
    (h : ∀ i t, (f i t).ret = t.ret) : (s.forEach is f).ret = s.ret := by
  unfold State.forEach
  induction is generalizing s with
  | nil => rfl
  | cons i is ih => simp only [List.foldl_cons, ih, h]

@[simp] theorem State.forEach_tables (s : State) (is : List Nat) (f : Nat → State → State)
    (h : ∀ i t, (f i t).tables = t.tables) : (s.forEach is f).tables = s.tables := by
  unfold State.forEach
  induction is generalizing s with
  | nil => rfl
  | cons i is ih => simp only [List.foldl_cons, ih, h]

@[simp] theorem State.forEach_pending (s : State) (is : List Nat) (f : Nat → State → State)
    (h : ∀ i t, (f i t).pending = t.pending) : (s.forEach is f).pending = s.pending := by
  unfold State.forEach
  induction is generalizing s with
  | nil => rfl
  | cons i is ih => simp only [List.foldl_cons, ih, h]

/-- A choice between two states, block by block. -/
theorem State.ite_frame (c : Prop) [Decidable c] (a b : State) :
    (if c then a else b).phase = (if c then a.phase else b.phase) ∧
    (if c then a else b).bus = (if c then a.bus else b.bus) ∧
    (if c then a else b).signals = (if c then a.signals else b.signals) ∧
    (if c then a else b).egress = (if c then a.egress else b.egress) ∧
    (if c then a else b).tx = (if c then a.tx else b.tx) ∧
    (if c then a else b).rx = (if c then a.rx else b.rx) ∧
    (if c then a else b).nodes = (if c then a.nodes else b.nodes) ∧
    (if c then a else b).panel = (if c then a.panel else b.panel) ∧
    (if c then a else b).roster = (if c then a.roster else b.roster) ∧
    (if c then a else b).energy = (if c then a.energy else b.energy) ∧
    (if c then a else b).heater = (if c then a.heater else b.heater) ∧
    (if c then a else b).fridge = (if c then a.fridge else b.fridge) ∧
    (if c then a else b).lights = (if c then a.lights else b.lights) ∧
    (if c then a else b).rest = (if c then a.rest else b.rest) ∧
    (if c then a else b).setup = (if c then a.setup else b.setup) ∧
    (if c then a else b).store = (if c then a.store else b.store) ∧
    (if c then a else b).notices = (if c then a.notices else b.notices) ∧
    (if c then a else b).power = (if c then a.power else b.power) ∧
    (if c then a else b).ret = (if c then a.ret else b.ret) ∧
    (if c then a else b).tables = (if c then a.tables else b.tables) ∧
    (if c then a else b).pending = (if c then a.pending else b.pending) := by
  split <;> simp

/-- The three parts of the power block that no step but a power step changes, taken out of a choice. -/
theorem Power.ite_parts (c : Prop) [Decidable c] (a b : Power) :
    (if c then a else b).state = (if c then a.state else b.state) ∧
    (if c then a else b).quietTimer = (if c then a.quietTimer else b.quietTimer) ∧
    (if c then a else b).cause = (if c then a.cause else b.cause) := by
  split <;> simp

end Sys2Proof.Machine
end

