-- ==== Sys2Proof/Laws/FrameRoster.lean ====
section
/-! SUPPORT. Laws/FrameRoster.lean: which blocks of the state each operation leaves as they are: the shared updates, the queues, the notices and the roster. -/

namespace Sys2Proof.Machine

@[simp] theorem State.modSignal_frame (s : State) (n : ℕ) (f : SignalRec → SignalRec) :
    (State.modSignal s n f).phase = s.phase ∧ (State.modSignal s n f).bus = s.bus ∧
    (State.modSignal s n f).egress = s.egress ∧ (State.modSignal s n f).tx = s.tx ∧
    (State.modSignal s n f).rx = s.rx ∧ (State.modSignal s n f).nodes = s.nodes ∧
    (State.modSignal s n f).panel = s.panel ∧ (State.modSignal s n f).roster = s.roster ∧
    (State.modSignal s n f).energy = s.energy ∧ (State.modSignal s n f).heater = s.heater ∧
    (State.modSignal s n f).fridge = s.fridge ∧ (State.modSignal s n f).lights = s.lights ∧
    (State.modSignal s n f).rest = s.rest ∧ (State.modSignal s n f).setup = s.setup ∧
    (State.modSignal s n f).store = s.store ∧ (State.modSignal s n f).notices = s.notices ∧
    (State.modSignal s n f).power = s.power ∧ (State.modSignal s n f).ret = s.ret ∧
    (State.modSignal s n f).tables = s.tables ∧ (State.modSignal s n f).pending = s.pending := by
  unfold State.modSignal; try dsimp only
  first | (simp [State.ite_frame]; done) | ((repeat' split) <;> simp [State.ite_frame])

@[simp] theorem State.modNode_frame (s : State) (p : ℕ) (f : NodeRec → NodeRec) :
    (State.modNode s p f).phase = s.phase ∧ (State.modNode s p f).bus = s.bus ∧
    (State.modNode s p f).signals = s.signals ∧ (State.modNode s p f).egress = s.egress ∧
    (State.modNode s p f).tx = s.tx ∧ (State.modNode s p f).rx = s.rx ∧ (State.modNode s p f).panel = s.panel ∧
    (State.modNode s p f).roster = s.roster ∧ (State.modNode s p f).energy = s.energy ∧
    (State.modNode s p f).heater = s.heater ∧ (State.modNode s p f).fridge = s.fridge ∧
    (State.modNode s p f).lights = s.lights ∧ (State.modNode s p f).rest = s.rest ∧
    (State.modNode s p f).setup = s.setup ∧ (State.modNode s p f).store = s.store ∧
    (State.modNode s p f).notices = s.notices ∧ (State.modNode s p f).power = s.power ∧
    (State.modNode s p f).ret = s.ret ∧ (State.modNode s p f).tables = s.tables ∧
    (State.modNode s p f).pending = s.pending := by
  unfold State.modNode; try dsimp only
  first | (simp [State.ite_frame]; done) | ((repeat' split) <;> simp [State.ite_frame])

@[simp] theorem State.modLoopPos_frame (s : State) (p : ℕ) (f : LoopPos → LoopPos) :
    (State.modLoopPos s p f).phase = s.phase ∧ (State.modLoopPos s p f).bus = s.bus ∧
    (State.modLoopPos s p f).signals = s.signals ∧ (State.modLoopPos s p f).egress = s.egress ∧
    (State.modLoopPos s p f).rx = s.rx ∧ (State.modLoopPos s p f).nodes = s.nodes ∧
    (State.modLoopPos s p f).panel = s.panel ∧ (State.modLoopPos s p f).roster = s.roster ∧
    (State.modLoopPos s p f).energy = s.energy ∧ (State.modLoopPos s p f).heater = s.heater ∧
    (State.modLoopPos s p f).fridge = s.fridge ∧ (State.modLoopPos s p f).lights = s.lights ∧
    (State.modLoopPos s p f).rest = s.rest ∧ (State.modLoopPos s p f).setup = s.setup ∧
    (State.modLoopPos s p f).store = s.store ∧ (State.modLoopPos s p f).notices = s.notices ∧
    (State.modLoopPos s p f).power = s.power ∧ (State.modLoopPos s p f).ret = s.ret ∧
    (State.modLoopPos s p f).tables = s.tables ∧ (State.modLoopPos s p f).pending = s.pending := by
  unfold State.modLoopPos; try dsimp only
  first | (simp [State.ite_frame]; done) | ((repeat' split) <;> simp [State.ite_frame])

@[simp] theorem State.modLive_frame (s : State) (i : ℕ) (f : Live → Live) :
    (State.modLive s i f).phase = s.phase ∧ (State.modLive s i f).bus = s.bus ∧
    (State.modLive s i f).signals = s.signals ∧ (State.modLive s i f).egress = s.egress ∧
    (State.modLive s i f).tx = s.tx ∧ (State.modLive s i f).rx = s.rx ∧ (State.modLive s i f).nodes = s.nodes ∧
    (State.modLive s i f).panel = s.panel ∧ (State.modLive s i f).energy = s.energy ∧
    (State.modLive s i f).heater = s.heater ∧ (State.modLive s i f).fridge = s.fridge ∧
    (State.modLive s i f).lights = s.lights ∧ (State.modLive s i f).rest = s.rest ∧
    (State.modLive s i f).setup = s.setup ∧ (State.modLive s i f).store = s.store ∧
    (State.modLive s i f).notices = s.notices ∧ (State.modLive s i f).power = s.power ∧
    (State.modLive s i f).ret = s.ret ∧ (State.modLive s i f).tables = s.tables ∧
    (State.modLive s i f).pending = s.pending := by
  unfold State.modLive; try dsimp only
  first | (simp [State.ite_frame]; done) | ((repeat' split) <;> simp [State.ite_frame])

@[simp] theorem State.modChannel_frame (s : State) (c : ℕ) (f : Channel → Channel) :
    (State.modChannel s c f).phase = s.phase ∧ (State.modChannel s c f).bus = s.bus ∧
    (State.modChannel s c f).signals = s.signals ∧ (State.modChannel s c f).egress = s.egress ∧
    (State.modChannel s c f).tx = s.tx ∧ (State.modChannel s c f).rx = s.rx ∧
    (State.modChannel s c f).nodes = s.nodes ∧ (State.modChannel s c f).panel = s.panel ∧
    (State.modChannel s c f).roster = s.roster ∧ (State.modChannel s c f).energy = s.energy ∧
    (State.modChannel s c f).heater = s.heater ∧ (State.modChannel s c f).fridge = s.fridge ∧
    (State.modChannel s c f).rest = s.rest ∧ (State.modChannel s c f).setup = s.setup ∧
    (State.modChannel s c f).store = s.store ∧ (State.modChannel s c f).notices = s.notices ∧
    (State.modChannel s c f).power = s.power ∧ (State.modChannel s c f).ret = s.ret ∧
    (State.modChannel s c f).tables = s.tables ∧ (State.modChannel s c f).pending = s.pending := by
  unfold State.modChannel; try dsimp only
  first | (simp [State.ite_frame]; done) | ((repeat' split) <;> simp [State.ite_frame])

@[simp] theorem State.modRestRec_frame (s : State) (f : RestRec → RestRec) :
    (State.modRestRec s f).phase = s.phase ∧ (State.modRestRec s f).bus = s.bus ∧
    (State.modRestRec s f).signals = s.signals ∧ (State.modRestRec s f).egress = s.egress ∧
    (State.modRestRec s f).tx = s.tx ∧ (State.modRestRec s f).rx = s.rx ∧ (State.modRestRec s f).nodes = s.nodes ∧
    (State.modRestRec s f).panel = s.panel ∧ (State.modRestRec s f).roster = s.roster ∧
    (State.modRestRec s f).energy = s.energy ∧ (State.modRestRec s f).heater = s.heater ∧
    (State.modRestRec s f).fridge = s.fridge ∧ (State.modRestRec s f).lights = s.lights ∧
    (State.modRestRec s f).rest = s.rest ∧ (State.modRestRec s f).setup = s.setup ∧
    (State.modRestRec s f).store = s.store ∧ (State.modRestRec s f).notices = s.notices ∧
    (State.modRestRec s f).power = s.power ∧ (State.modRestRec s f).tables = s.tables ∧
    (State.modRestRec s f).pending = s.pending := by
  unfold State.modRestRec; try dsimp only
  first | (simp [State.ite_frame]; done) | ((repeat' split) <;> simp [State.ite_frame])

@[simp] theorem State.modCounts_frame (s : State) (f : BusCounts → BusCounts) :
    (State.modCounts s f).phase = s.phase ∧ (State.modCounts s f).signals = s.signals ∧
    (State.modCounts s f).egress = s.egress ∧ (State.modCounts s f).tx = s.tx ∧ (State.modCounts s f).rx = s.rx ∧
    (State.modCounts s f).nodes = s.nodes ∧ (State.modCounts s f).panel = s.panel ∧
    (State.modCounts s f).roster = s.roster ∧ (State.modCounts s f).energy = s.energy ∧
    (State.modCounts s f).heater = s.heater ∧ (State.modCounts s f).fridge = s.fridge ∧
    (State.modCounts s f).lights = s.lights ∧ (State.modCounts s f).rest = s.rest ∧
    (State.modCounts s f).setup = s.setup ∧ (State.modCounts s f).store = s.store ∧
    (State.modCounts s f).notices = s.notices ∧ (State.modCounts s f).power = s.power ∧
    (State.modCounts s f).ret = s.ret ∧ (State.modCounts s f).tables = s.tables ∧
    (State.modCounts s f).pending = s.pending := by
  unfold State.modCounts; try dsimp only
  first | (simp [State.ite_frame]; done) | ((repeat' split) <;> simp [State.ite_frame])

@[simp] theorem offerReceived_frame (f : RxFrame) (s : State) :
    (offerReceived f s).phase = s.phase ∧ (offerReceived f s).signals = s.signals ∧
    (offerReceived f s).egress = s.egress ∧ (offerReceived f s).tx = s.tx ∧ (offerReceived f s).rx = s.rx ∧
    (offerReceived f s).nodes = s.nodes ∧ (offerReceived f s).panel = s.panel ∧
    (offerReceived f s).roster = s.roster ∧ (offerReceived f s).energy = s.energy ∧
    (offerReceived f s).heater = s.heater ∧ (offerReceived f s).fridge = s.fridge ∧
    (offerReceived f s).lights = s.lights ∧ (offerReceived f s).rest = s.rest ∧ (offerReceived f s).setup = s.setup ∧
    (offerReceived f s).store = s.store ∧ (offerReceived f s).notices = s.notices ∧
    (offerReceived f s).power = s.power ∧ (offerReceived f s).ret = s.ret ∧ (offerReceived f s).tables = s.tables ∧
    (offerReceived f s).pending = s.pending := by
  unfold offerReceived; try dsimp only
  first | (simp [State.ite_frame]; done) | ((repeat' split) <;> simp [State.ite_frame])

@[simp] theorem dropReceived_frame (s : State) :
    (dropReceived s).phase = s.phase ∧ (dropReceived s).signals = s.signals ∧ (dropReceived s).egress = s.egress ∧
    (dropReceived s).tx = s.tx ∧ (dropReceived s).rx = s.rx ∧ (dropReceived s).nodes = s.nodes ∧
    (dropReceived s).panel = s.panel ∧ (dropReceived s).roster = s.roster ∧ (dropReceived s).energy = s.energy ∧
    (dropReceived s).heater = s.heater ∧ (dropReceived s).fridge = s.fridge ∧ (dropReceived s).lights = s.lights ∧
    (dropReceived s).rest = s.rest ∧ (dropReceived s).setup = s.setup ∧ (dropReceived s).store = s.store ∧
    (dropReceived s).notices = s.notices ∧ (dropReceived s).power = s.power ∧ (dropReceived s).ret = s.ret ∧
    (dropReceived s).tables = s.tables ∧ (dropReceived s).pending = s.pending := by
  unfold dropReceived; try dsimp only
  first | (simp [State.ite_frame]; done) | ((repeat' split) <;> simp [State.ite_frame])

@[simp] theorem offerResponse_frame (f : TxFrame) (s : State) :
    (offerResponse f s).phase = s.phase ∧ (offerResponse f s).signals = s.signals ∧
    (offerResponse f s).egress = s.egress ∧ (offerResponse f s).tx = s.tx ∧ (offerResponse f s).rx = s.rx ∧
    (offerResponse f s).nodes = s.nodes ∧ (offerResponse f s).panel = s.panel ∧
    (offerResponse f s).roster = s.roster ∧ (offerResponse f s).energy = s.energy ∧
    (offerResponse f s).heater = s.heater ∧ (offerResponse f s).fridge = s.fridge ∧
    (offerResponse f s).lights = s.lights ∧ (offerResponse f s).rest = s.rest ∧ (offerResponse f s).store = s.store ∧
    (offerResponse f s).notices = s.notices ∧ (offerResponse f s).power = s.power ∧ (offerResponse f s).ret = s.ret ∧
    (offerResponse f s).tables = s.tables ∧ (offerResponse f s).pending = s.pending := by
  unfold offerResponse; try dsimp only
  first | (simp [State.ite_frame]; done) | ((repeat' split) <;> simp [State.ite_frame])

@[simp] theorem noticeDueAs_frame (i : Ident) (s : State) :
    (noticeDueAs i s).phase = s.phase ∧ (noticeDueAs i s).signals = s.signals ∧ (noticeDueAs i s).egress = s.egress ∧
    (noticeDueAs i s).tx = s.tx ∧ (noticeDueAs i s).rx = s.rx ∧ (noticeDueAs i s).nodes = s.nodes ∧
    (noticeDueAs i s).panel = s.panel ∧ (noticeDueAs i s).roster = s.roster ∧ (noticeDueAs i s).energy = s.energy ∧
    (noticeDueAs i s).heater = s.heater ∧ (noticeDueAs i s).fridge = s.fridge ∧ (noticeDueAs i s).lights = s.lights ∧
    (noticeDueAs i s).rest = s.rest ∧ (noticeDueAs i s).setup = s.setup ∧ (noticeDueAs i s).store = s.store ∧
    (noticeDueAs i s).power = s.power ∧ (noticeDueAs i s).ret = s.ret ∧ (noticeDueAs i s).tables = s.tables ∧
    (noticeDueAs i s).pending = s.pending := by
  unfold noticeDueAs; try dsimp only
  first | (simp [State.ite_frame]; done) | ((repeat' split) <;> simp [State.ite_frame])

@[simp] theorem noticeDue_frame (s : State) :
    (noticeDue s).phase = s.phase ∧ (noticeDue s).signals = s.signals ∧ (noticeDue s).egress = s.egress ∧
    (noticeDue s).tx = s.tx ∧ (noticeDue s).rx = s.rx ∧ (noticeDue s).nodes = s.nodes ∧
    (noticeDue s).panel = s.panel ∧ (noticeDue s).roster = s.roster ∧ (noticeDue s).energy = s.energy ∧
    (noticeDue s).heater = s.heater ∧ (noticeDue s).fridge = s.fridge ∧ (noticeDue s).lights = s.lights ∧
    (noticeDue s).rest = s.rest ∧ (noticeDue s).setup = s.setup ∧ (noticeDue s).store = s.store ∧
    (noticeDue s).power = s.power ∧ (noticeDue s).ret = s.ret ∧ (noticeDue s).tables = s.tables ∧
    (noticeDue s).pending = s.pending := by
  unfold noticeDue; try dsimp only
  first | (simp [State.ite_frame]; done) | ((repeat' split) <;> simp [State.ite_frame])

@[simp] theorem noticeDueIfAny_frame (s : State) :
    (noticeDueIfAny s).phase = s.phase ∧ (noticeDueIfAny s).signals = s.signals ∧
    (noticeDueIfAny s).egress = s.egress ∧ (noticeDueIfAny s).tx = s.tx ∧ (noticeDueIfAny s).rx = s.rx ∧
    (noticeDueIfAny s).nodes = s.nodes ∧ (noticeDueIfAny s).panel = s.panel ∧ (noticeDueIfAny s).roster = s.roster ∧
    (noticeDueIfAny s).energy = s.energy ∧ (noticeDueIfAny s).heater = s.heater ∧
    (noticeDueIfAny s).fridge = s.fridge ∧ (noticeDueIfAny s).lights = s.lights ∧ (noticeDueIfAny s).rest = s.rest ∧
    (noticeDueIfAny s).setup = s.setup ∧ (noticeDueIfAny s).store = s.store ∧ (noticeDueIfAny s).power = s.power ∧
    (noticeDueIfAny s).ret = s.ret ∧ (noticeDueIfAny s).tables = s.tables ∧ (noticeDueIfAny s).pending = s.pending := by
  unfold noticeDueIfAny; try dsimp only
  first | (simp [State.ite_frame]; done) | ((repeat' split) <;> simp [State.ite_frame])

@[simp] theorem raise_frame (c : NoticeClass) (detail : List Byte) (s : State) :
    (raise c detail s).phase = s.phase ∧ (raise c detail s).signals = s.signals ∧
    (raise c detail s).egress = s.egress ∧ (raise c detail s).tx = s.tx ∧ (raise c detail s).rx = s.rx ∧
    (raise c detail s).nodes = s.nodes ∧ (raise c detail s).panel = s.panel ∧ (raise c detail s).roster = s.roster ∧
    (raise c detail s).energy = s.energy ∧ (raise c detail s).heater = s.heater ∧
    (raise c detail s).fridge = s.fridge ∧ (raise c detail s).lights = s.lights ∧ (raise c detail s).rest = s.rest ∧
    (raise c detail s).setup = s.setup ∧ (raise c detail s).store = s.store ∧ (raise c detail s).power = s.power ∧
    (raise c detail s).ret = s.ret ∧ (raise c detail s).tables = s.tables ∧ (raise c detail s).pending = s.pending := by
  unfold raise; try dsimp only
  first | (simp [State.ite_frame]; done) | ((repeat' split) <;> simp [State.ite_frame])

@[simp] theorem recomposeAs_frame (i : Ident) (s : State) :
    (recomposeAs i s).phase = s.phase ∧ (recomposeAs i s).bus = s.bus ∧
    (recomposeAs i s).signals = s.signals ∧ (recomposeAs i s).egress = s.egress ∧
    (recomposeAs i s).tx = s.tx ∧ (recomposeAs i s).rx = s.rx ∧ (recomposeAs i s).nodes = s.nodes ∧
    (recomposeAs i s).panel = s.panel ∧ (recomposeAs i s).roster = s.roster ∧
    (recomposeAs i s).energy = s.energy ∧ (recomposeAs i s).heater = s.heater ∧
    (recomposeAs i s).fridge = s.fridge ∧ (recomposeAs i s).lights = s.lights ∧
    (recomposeAs i s).rest = s.rest ∧ (recomposeAs i s).setup = s.setup ∧
    (recomposeAs i s).store = s.store ∧ (recomposeAs i s).power = s.power ∧ (recomposeAs i s).ret = s.ret ∧
    (recomposeAs i s).tables = s.tables ∧ (recomposeAs i s).pending = s.pending := by
  unfold recomposeAs; try dsimp only
  first | (simp [State.ite_frame]; done) | ((repeat' split) <;> simp [State.ite_frame])

@[simp] theorem recomposeWaiting_frame (s : State) :
    (recomposeWaiting s).phase = s.phase ∧ (recomposeWaiting s).bus = s.bus ∧
    (recomposeWaiting s).signals = s.signals ∧ (recomposeWaiting s).egress = s.egress ∧
    (recomposeWaiting s).tx = s.tx ∧ (recomposeWaiting s).rx = s.rx ∧ (recomposeWaiting s).nodes = s.nodes ∧
    (recomposeWaiting s).panel = s.panel ∧ (recomposeWaiting s).roster = s.roster ∧
    (recomposeWaiting s).energy = s.energy ∧ (recomposeWaiting s).heater = s.heater ∧
    (recomposeWaiting s).fridge = s.fridge ∧ (recomposeWaiting s).lights = s.lights ∧
    (recomposeWaiting s).rest = s.rest ∧ (recomposeWaiting s).setup = s.setup ∧
    (recomposeWaiting s).store = s.store ∧ (recomposeWaiting s).power = s.power ∧ (recomposeWaiting s).ret = s.ret ∧
    (recomposeWaiting s).tables = s.tables ∧ (recomposeWaiting s).pending = s.pending := by
  unfold recomposeWaiting; try dsimp only
  first | (simp [State.ite_frame]; done) | ((repeat' split) <;> simp [State.ite_frame])

@[simp] theorem clearNotices_frame (mask : BitVec 16) (s : State) :
    (clearNotices mask s).phase = s.phase ∧ (clearNotices mask s).bus = s.bus ∧
    (clearNotices mask s).signals = s.signals ∧ (clearNotices mask s).egress = s.egress ∧
    (clearNotices mask s).tx = s.tx ∧ (clearNotices mask s).rx = s.rx ∧ (clearNotices mask s).nodes = s.nodes ∧
    (clearNotices mask s).panel = s.panel ∧ (clearNotices mask s).roster = s.roster ∧
    (clearNotices mask s).energy = s.energy ∧ (clearNotices mask s).heater = s.heater ∧
    (clearNotices mask s).fridge = s.fridge ∧ (clearNotices mask s).lights = s.lights ∧
    (clearNotices mask s).rest = s.rest ∧ (clearNotices mask s).setup = s.setup ∧
    (clearNotices mask s).store = s.store ∧ (clearNotices mask s).power = s.power ∧
    (clearNotices mask s).ret = s.ret ∧ (clearNotices mask s).tables = s.tables ∧
    (clearNotices mask s).pending = s.pending := by
  unfold clearNotices; try dsimp only
  first | (simp [State.ite_frame]; done) | ((repeat' split) <;> simp [State.ite_frame])

@[simp] theorem admitWaiting_frame (s : State) :
    (admitWaiting s).phase = s.phase ∧ (admitWaiting s).signals = s.signals ∧ (admitWaiting s).egress = s.egress ∧
    (admitWaiting s).tx = s.tx ∧ (admitWaiting s).rx = s.rx ∧ (admitWaiting s).nodes = s.nodes ∧
    (admitWaiting s).panel = s.panel ∧ (admitWaiting s).roster = s.roster ∧ (admitWaiting s).energy = s.energy ∧
    (admitWaiting s).heater = s.heater ∧ (admitWaiting s).fridge = s.fridge ∧ (admitWaiting s).lights = s.lights ∧
    (admitWaiting s).rest = s.rest ∧ (admitWaiting s).store = s.store ∧ (admitWaiting s).power = s.power ∧
    (admitWaiting s).ret = s.ret ∧ (admitWaiting s).tables = s.tables ∧ (admitWaiting s).pending = s.pending := by
  unfold admitWaiting; try dsimp only
  first | (simp [State.ite_frame]; done) | ((repeat' split) <;> simp [State.ite_frame])

@[simp] theorem setDuty_frame (i : ℕ) (d : ℕ) (s : State) :
    (setDuty i d s).phase = s.phase ∧ (setDuty i d s).bus = s.bus ∧ (setDuty i d s).signals = s.signals ∧
    (setDuty i d s).egress = s.egress ∧ (setDuty i d s).tx = s.tx ∧ (setDuty i d s).rx = s.rx ∧
    (setDuty i d s).nodes = s.nodes ∧ (setDuty i d s).panel = s.panel ∧ (setDuty i d s).energy = s.energy ∧
    (setDuty i d s).heater = s.heater ∧ (setDuty i d s).fridge = s.fridge ∧ (setDuty i d s).lights = s.lights ∧
    (setDuty i d s).rest = s.rest ∧ (setDuty i d s).setup = s.setup ∧ (setDuty i d s).store = s.store ∧
    (setDuty i d s).notices = s.notices ∧ (setDuty i d s).power = s.power ∧ (setDuty i d s).ret = s.ret ∧
    (setDuty i d s).tables = s.tables ∧ (setDuty i d s).pending = s.pending := by
  unfold setDuty; try dsimp only
  first | (simp [State.ite_frame]; done) | ((repeat' split) <;> simp [State.ite_frame])

@[simp] theorem onEntry_phase (k : LoadKind) (f : Nat → State → State) (s : State)
    (h : ∀ i t, (f i t).phase = t.phase) : (onEntry k f s).phase = s.phase := by
  unfold onEntry
  split
  · exact h _ _
  · rfl

@[simp] theorem onEntry_bus (k : LoadKind) (f : Nat → State → State) (s : State)
    (h : ∀ i t, (f i t).bus = t.bus) : (onEntry k f s).bus = s.bus := by
  unfold onEntry
  split
  · exact h _ _
  · rfl

@[simp] theorem onEntry_signals (k : LoadKind) (f : Nat → State → State) (s : State)
    (h : ∀ i t, (f i t).signals = t.signals) : (onEntry k f s).signals = s.signals := by
  unfold onEntry
  split
  · exact h _ _
  · rfl

@[simp] theorem onEntry_egress (k : LoadKind) (f : Nat → State → State) (s : State)
    (h : ∀ i t, (f i t).egress = t.egress) : (onEntry k f s).egress = s.egress := by
  unfold onEntry
  split
  · exact h _ _
  · rfl

@[simp] theorem onEntry_tx (k : LoadKind) (f : Nat → State → State) (s : State)
    (h : ∀ i t, (f i t).tx = t.tx) : (onEntry k f s).tx = s.tx := by
  unfold onEntry
  split
  · exact h _ _
  · rfl

@[simp] theorem onEntry_rx (k : LoadKind) (f : Nat → State → State) (s : State)
    (h : ∀ i t, (f i t).rx = t.rx) : (onEntry k f s).rx = s.rx := by
  unfold onEntry
  split
  · exact h _ _
  · rfl

@[simp] theorem onEntry_nodes (k : LoadKind) (f : Nat → State → State) (s : State)
    (h : ∀ i t, (f i t).nodes = t.nodes) : (onEntry k f s).nodes = s.nodes := by
  unfold onEntry
  split
  · exact h _ _
  · rfl

@[simp] theorem onEntry_panel (k : LoadKind) (f : Nat → State → State) (s : State)
    (h : ∀ i t, (f i t).panel = t.panel) : (onEntry k f s).panel = s.panel := by
  unfold onEntry
  split
  · exact h _ _
  · rfl

@[simp] theorem onEntry_roster (k : LoadKind) (f : Nat → State → State) (s : State)
    (h : ∀ i t, (f i t).roster = t.roster) : (onEntry k f s).roster = s.roster := by
  unfold onEntry
  split
  · exact h _ _
  · rfl

@[simp] theorem onEntry_energy (k : LoadKind) (f : Nat → State → State) (s : State)
    (h : ∀ i t, (f i t).energy = t.energy) : (onEntry k f s).energy = s.energy := by
  unfold onEntry
  split
  · exact h _ _
  · rfl

@[simp] theorem onEntry_heater (k : LoadKind) (f : Nat → State → State) (s : State)
    (h : ∀ i t, (f i t).heater = t.heater) : (onEntry k f s).heater = s.heater := by
  unfold onEntry
  split
  · exact h _ _
  · rfl

@[simp] theorem onEntry_fridge (k : LoadKind) (f : Nat → State → State) (s : State)
    (h : ∀ i t, (f i t).fridge = t.fridge) : (onEntry k f s).fridge = s.fridge := by
  unfold onEntry
  split
  · exact h _ _
  · rfl

@[simp] theorem onEntry_lights (k : LoadKind) (f : Nat → State → State) (s : State)
    (h : ∀ i t, (f i t).lights = t.lights) : (onEntry k f s).lights = s.lights := by
  unfold onEntry
  split
  · exact h _ _
  · rfl

@[simp] theorem onEntry_rest (k : LoadKind) (f : Nat → State → State) (s : State)
    (h : ∀ i t, (f i t).rest = t.rest) : (onEntry k f s).rest = s.rest := by
  unfold onEntry
  split
  · exact h _ _
  · rfl

@[simp] theorem onEntry_setup (k : LoadKind) (f : Nat → State → State) (s : State)
    (h : ∀ i t, (f i t).setup = t.setup) : (onEntry k f s).setup = s.setup := by
  unfold onEntry
  split
  · exact h _ _
  · rfl

@[simp] theorem onEntry_store (k : LoadKind) (f : Nat → State → State) (s : State)
    (h : ∀ i t, (f i t).store = t.store) : (onEntry k f s).store = s.store := by
  unfold onEntry
  split
  · exact h _ _
  · rfl

@[simp] theorem onEntry_notices (k : LoadKind) (f : Nat → State → State) (s : State)
    (h : ∀ i t, (f i t).notices = t.notices) : (onEntry k f s).notices = s.notices := by
  unfold onEntry
  split
  · exact h _ _
  · rfl

@[simp] theorem onEntry_power (k : LoadKind) (f : Nat → State → State) (s : State)
    (h : ∀ i t, (f i t).power = t.power) : (onEntry k f s).power = s.power := by
  unfold onEntry
  split
  · exact h _ _
  · rfl

@[simp] theorem onEntry_ret (k : LoadKind) (f : Nat → State → State) (s : State)
    (h : ∀ i t, (f i t).ret = t.ret) : (onEntry k f s).ret = s.ret := by
  unfold onEntry
  split
  · exact h _ _
  · rfl

@[simp] theorem onEntry_tables (k : LoadKind) (f : Nat → State → State) (s : State)
    (h : ∀ i t, (f i t).tables = t.tables) : (onEntry k f s).tables = s.tables := by
  unfold onEntry
  split
  · exact h _ _
  · rfl

@[simp] theorem onEntry_pending (k : LoadKind) (f : Nat → State → State) (s : State)
    (h : ∀ i t, (f i t).pending = t.pending) : (onEntry k f s).pending = s.pending := by
  unfold onEntry
  split
  · exact h _ _
  · rfl


@[simp] theorem heaterDuty_frame (s : State) :
    (heaterDuty s).phase = s.phase ∧ (heaterDuty s).bus = s.bus ∧ (heaterDuty s).signals = s.signals ∧
    (heaterDuty s).egress = s.egress ∧ (heaterDuty s).tx = s.tx ∧ (heaterDuty s).rx = s.rx ∧
    (heaterDuty s).nodes = s.nodes ∧ (heaterDuty s).panel = s.panel ∧ (heaterDuty s).energy = s.energy ∧
    (heaterDuty s).heater = s.heater ∧ (heaterDuty s).fridge = s.fridge ∧ (heaterDuty s).lights = s.lights ∧
    (heaterDuty s).rest = s.rest ∧ (heaterDuty s).setup = s.setup ∧ (heaterDuty s).store = s.store ∧
    (heaterDuty s).notices = s.notices ∧ (heaterDuty s).power = s.power ∧ (heaterDuty s).ret = s.ret ∧
    (heaterDuty s).tables = s.tables ∧ (heaterDuty s).pending = s.pending := by
  unfold heaterDuty; try dsimp only
  first | (simp [State.ite_frame]; done) | ((repeat' split) <;> simp [State.ite_frame])

@[simp] theorem reorderQueue_frame (s : State) :
    (reorderQueue s).phase = s.phase ∧ (reorderQueue s).bus = s.bus ∧ (reorderQueue s).signals = s.signals ∧
    (reorderQueue s).egress = s.egress ∧ (reorderQueue s).tx = s.tx ∧ (reorderQueue s).rx = s.rx ∧
    (reorderQueue s).nodes = s.nodes ∧ (reorderQueue s).panel = s.panel ∧ (reorderQueue s).energy = s.energy ∧
    (reorderQueue s).heater = s.heater ∧ (reorderQueue s).fridge = s.fridge ∧ (reorderQueue s).lights = s.lights ∧
    (reorderQueue s).rest = s.rest ∧ (reorderQueue s).setup = s.setup ∧ (reorderQueue s).store = s.store ∧
    (reorderQueue s).notices = s.notices ∧ (reorderQueue s).power = s.power ∧ (reorderQueue s).ret = s.ret ∧
    (reorderQueue s).tables = s.tables ∧ (reorderQueue s).pending = s.pending := by
  unfold reorderQueue; try dsimp only
  first | (simp [State.ite_frame]; done) | ((repeat' split) <;> simp [State.ite_frame])

@[simp] theorem enterStarting_frame (s : State) :
    (enterStarting s).phase = s.phase ∧ (enterStarting s).bus = s.bus ∧ (enterStarting s).signals = s.signals ∧
    (enterStarting s).egress = s.egress ∧ (enterStarting s).tx = s.tx ∧ (enterStarting s).rx = s.rx ∧
    (enterStarting s).nodes = s.nodes ∧ (enterStarting s).panel = s.panel ∧ (enterStarting s).energy = s.energy ∧
    (enterStarting s).fridge = s.fridge ∧ (enterStarting s).lights = s.lights ∧ (enterStarting s).rest = s.rest ∧
    (enterStarting s).setup = s.setup ∧ (enterStarting s).store = s.store ∧ (enterStarting s).notices = s.notices ∧
    (enterStarting s).power = s.power ∧ (enterStarting s).ret = s.ret ∧ (enterStarting s).tables = s.tables ∧
    (enterStarting s).pending = s.pending := by
  unfold enterStarting; try dsimp only
  first | (simp [State.ite_frame]; done) | ((repeat' split) <;> simp [State.ite_frame])

@[simp] theorem enterCooling_frame (s : State) :
    (enterCooling s).phase = s.phase ∧ (enterCooling s).bus = s.bus ∧ (enterCooling s).signals = s.signals ∧
    (enterCooling s).egress = s.egress ∧ (enterCooling s).tx = s.tx ∧ (enterCooling s).rx = s.rx ∧
    (enterCooling s).nodes = s.nodes ∧ (enterCooling s).panel = s.panel ∧ (enterCooling s).roster = s.roster ∧
    (enterCooling s).energy = s.energy ∧ (enterCooling s).heater = s.heater ∧ (enterCooling s).lights = s.lights ∧
    (enterCooling s).rest = s.rest ∧ (enterCooling s).setup = s.setup ∧ (enterCooling s).store = s.store ∧
    (enterCooling s).notices = s.notices ∧ (enterCooling s).power = s.power ∧ (enterCooling s).ret = s.ret ∧
    (enterCooling s).tables = s.tables ∧ (enterCooling s).pending = s.pending := by
  unfold enterCooling; try dsimp only
  first | (simp [State.ite_frame]; done) | ((repeat' split) <;> simp [State.ite_frame])

@[simp] theorem handOver_frame (n : Nat) (s : State) :
    (handOver n s).phase = s.phase ∧ (handOver n s).bus = s.bus ∧ (handOver n s).signals = s.signals ∧
    (handOver n s).egress = s.egress ∧ (handOver n s).tx = s.tx ∧ (handOver n s).rx = s.rx ∧
    (handOver n s).nodes = s.nodes ∧ (handOver n s).panel = s.panel ∧ (handOver n s).energy = s.energy ∧
    (handOver n s).lights = s.lights ∧ (handOver n s).rest = s.rest ∧ (handOver n s).setup = s.setup ∧
    (handOver n s).store = s.store ∧ (handOver n s).notices = s.notices ∧ (handOver n s).power = s.power ∧
    (handOver n s).ret = s.ret ∧ (handOver n s).tables = s.tables ∧ (handOver n s).pending = s.pending := by
  induction n generalizing s with
  | zero => simp [handOver]
  | succ n ih => unfold handOver; dsimp only; (repeat' split) <;> simp [ih]

@[simp] theorem surgeDone_frame (i : ℕ) (s : State) :
    (surgeDone i s).phase = s.phase ∧ (surgeDone i s).bus = s.bus ∧ (surgeDone i s).signals = s.signals ∧
    (surgeDone i s).egress = s.egress ∧ (surgeDone i s).tx = s.tx ∧ (surgeDone i s).rx = s.rx ∧
    (surgeDone i s).nodes = s.nodes ∧ (surgeDone i s).panel = s.panel ∧ (surgeDone i s).energy = s.energy ∧
    (surgeDone i s).lights = s.lights ∧ (surgeDone i s).rest = s.rest ∧ (surgeDone i s).setup = s.setup ∧
    (surgeDone i s).store = s.store ∧ (surgeDone i s).notices = s.notices ∧ (surgeDone i s).power = s.power ∧
    (surgeDone i s).ret = s.ret ∧ (surgeDone i s).tables = s.tables ∧ (surgeDone i s).pending = s.pending := by
  unfold surgeDone; try dsimp only
  first | (simp [State.ite_frame]; done) | ((repeat' split) <;> simp [State.ite_frame])

@[simp] theorem giveUpPlace_frame (i : ℕ) (s : State) :
    (giveUpPlace i s).phase = s.phase ∧ (giveUpPlace i s).bus = s.bus ∧ (giveUpPlace i s).signals = s.signals ∧
    (giveUpPlace i s).egress = s.egress ∧ (giveUpPlace i s).tx = s.tx ∧ (giveUpPlace i s).rx = s.rx ∧
    (giveUpPlace i s).nodes = s.nodes ∧ (giveUpPlace i s).panel = s.panel ∧ (giveUpPlace i s).energy = s.energy ∧
    (giveUpPlace i s).lights = s.lights ∧ (giveUpPlace i s).rest = s.rest ∧ (giveUpPlace i s).setup = s.setup ∧
    (giveUpPlace i s).store = s.store ∧ (giveUpPlace i s).notices = s.notices ∧ (giveUpPlace i s).power = s.power ∧
    (giveUpPlace i s).ret = s.ret ∧ (giveUpPlace i s).tables = s.tables ∧ (giveUpPlace i s).pending = s.pending := by
  unfold giveUpPlace; try dsimp only
  first | (simp [State.ite_frame]; done) | ((repeat' split) <;> simp [State.ite_frame])

@[simp] theorem askSlot_frame (i : ℕ) (s : State) :
    (askSlot i s).phase = s.phase ∧ (askSlot i s).bus = s.bus ∧ (askSlot i s).signals = s.signals ∧
    (askSlot i s).egress = s.egress ∧ (askSlot i s).tx = s.tx ∧ (askSlot i s).rx = s.rx ∧
    (askSlot i s).nodes = s.nodes ∧ (askSlot i s).panel = s.panel ∧ (askSlot i s).energy = s.energy ∧
    (askSlot i s).lights = s.lights ∧ (askSlot i s).rest = s.rest ∧ (askSlot i s).setup = s.setup ∧
    (askSlot i s).store = s.store ∧ (askSlot i s).notices = s.notices ∧ (askSlot i s).power = s.power ∧
    (askSlot i s).ret = s.ret ∧ (askSlot i s).tables = s.tables ∧ (askSlot i s).pending = s.pending := by
  unfold askSlot; try dsimp only
  first | (simp [State.ite_frame]; done) | ((repeat' split) <;> simp [State.ite_frame])

@[simp] theorem request_frame (i : ℕ) (s : State) :
    (request i s).phase = s.phase ∧ (request i s).bus = s.bus ∧ (request i s).signals = s.signals ∧
    (request i s).egress = s.egress ∧ (request i s).tx = s.tx ∧ (request i s).rx = s.rx ∧
    (request i s).nodes = s.nodes ∧ (request i s).panel = s.panel ∧ (request i s).energy = s.energy ∧
    (request i s).heater = s.heater ∧ (request i s).fridge = s.fridge ∧ (request i s).lights = s.lights ∧
    (request i s).rest = s.rest ∧ (request i s).setup = s.setup ∧ (request i s).store = s.store ∧
    (request i s).notices = s.notices ∧ (request i s).power = s.power ∧ (request i s).ret = s.ret ∧
    (request i s).tables = s.tables ∧ (request i s).pending = s.pending := by
  unfold request; try dsimp only
  first | (simp [State.ite_frame]; done) | ((repeat' split) <;> simp [State.ite_frame])

@[simp] theorem release_frame (withStop : Bool) (i : ℕ) (s : State) :
    (release withStop i s).phase = s.phase ∧ (release withStop i s).bus = s.bus ∧
    (release withStop i s).signals = s.signals ∧ (release withStop i s).egress = s.egress ∧
    (release withStop i s).tx = s.tx ∧ (release withStop i s).rx = s.rx ∧ (release withStop i s).nodes = s.nodes ∧
    (release withStop i s).panel = s.panel ∧ (release withStop i s).energy = s.energy ∧
    (release withStop i s).lights = s.lights ∧ (release withStop i s).rest = s.rest ∧
    (release withStop i s).setup = s.setup ∧ (release withStop i s).store = s.store ∧
    (release withStop i s).notices = s.notices ∧ (release withStop i s).power = s.power ∧
    (release withStop i s).ret = s.ret ∧ (release withStop i s).tables = s.tables ∧
    (release withStop i s).pending = s.pending := by
  unfold release; try dsimp only
  first | (simp [State.ite_frame]; done) | ((repeat' split) <;> simp [State.ite_frame])

@[simp] theorem stopComplete_frame (i : ℕ) (s : State) :
    (stopComplete i s).phase = s.phase ∧ (stopComplete i s).bus = s.bus ∧ (stopComplete i s).signals = s.signals ∧
    (stopComplete i s).egress = s.egress ∧ (stopComplete i s).tx = s.tx ∧ (stopComplete i s).rx = s.rx ∧
    (stopComplete i s).nodes = s.nodes ∧ (stopComplete i s).panel = s.panel ∧ (stopComplete i s).energy = s.energy ∧
    (stopComplete i s).heater = s.heater ∧ (stopComplete i s).fridge = s.fridge ∧
    (stopComplete i s).lights = s.lights ∧ (stopComplete i s).rest = s.rest ∧ (stopComplete i s).setup = s.setup ∧
    (stopComplete i s).store = s.store ∧ (stopComplete i s).notices = s.notices ∧
    (stopComplete i s).power = s.power ∧ (stopComplete i s).ret = s.ret ∧ (stopComplete i s).tables = s.tables ∧
    (stopComplete i s).pending = s.pending := by
  unfold stopComplete; try dsimp only
  first | (simp [State.ite_frame]; done) | ((repeat' split) <;> simp [State.ite_frame])

@[simp] theorem setUpEntry_frame (i : ℕ) (s : State) :
    (setUpEntry i s).phase = s.phase ∧ (setUpEntry i s).bus = s.bus ∧ (setUpEntry i s).signals = s.signals ∧
    (setUpEntry i s).egress = s.egress ∧ (setUpEntry i s).tx = s.tx ∧ (setUpEntry i s).rx = s.rx ∧
    (setUpEntry i s).nodes = s.nodes ∧ (setUpEntry i s).panel = s.panel ∧ (setUpEntry i s).energy = s.energy ∧
    (setUpEntry i s).heater = s.heater ∧ (setUpEntry i s).fridge = s.fridge ∧ (setUpEntry i s).lights = s.lights ∧
    (setUpEntry i s).rest = s.rest ∧ (setUpEntry i s).setup = s.setup ∧ (setUpEntry i s).store = s.store ∧
    (setUpEntry i s).notices = s.notices ∧ (setUpEntry i s).power = s.power ∧ (setUpEntry i s).ret = s.ret ∧
    (setUpEntry i s).tables = s.tables ∧ (setUpEntry i s).pending = s.pending := by
  unfold setUpEntry; try dsimp only
  first | (simp [State.ite_frame]; done) | ((repeat' split) <;> simp [State.ite_frame])

@[simp] theorem qualify_frame (s : State) :
    (qualify s).phase = s.phase ∧ (qualify s).bus = s.bus ∧ (qualify s).signals = s.signals ∧
    (qualify s).egress = s.egress ∧ (qualify s).tx = s.tx ∧ (qualify s).rx = s.rx ∧ (qualify s).nodes = s.nodes ∧
    (qualify s).panel = s.panel ∧ (qualify s).roster = s.roster ∧ (qualify s).energy = s.energy ∧
    (qualify s).heater = s.heater ∧ (qualify s).fridge = s.fridge ∧ (qualify s).lights = s.lights ∧
    (qualify s).rest = s.rest ∧ (qualify s).setup = s.setup ∧ (qualify s).store = s.store ∧
    (qualify s).notices = s.notices ∧ (qualify s).ret = s.ret ∧ (qualify s).tables = s.tables ∧
    (qualify s).pending = s.pending := by
  unfold qualify; try dsimp only
  first | (simp [State.ite_frame]; done) | ((repeat' split) <;> simp [State.ite_frame])

/-- `qualify` leaves the power state and the quiet timer. -/
@[simp] theorem qualify_power_state (s : State) : (qualify s).power.state = s.power.state := rfl

/-- `qualify` leaves the quiet timer. -/
@[simp] theorem qualify_quietTimer (s : State) : (qualify s).power.quietTimer = s.power.quietTimer := rfl

/-- `qualify` leaves the cause of the last reset. -/
@[simp] theorem qualify_cause (s : State) : (qualify s).power.cause = s.power.cause := rfl

end Sys2Proof.Machine
end

