-- ==== Sys2Proof/Laws/FrameClimate.lean ====
section
/-! SUPPORT. Laws/FrameClimate.lean: which blocks of the state each operation leaves as they are: the heater and the fridge. -/

namespace Sys2Proof.Machine

@[simp] theorem heaterMarks_frame (s : State) :
    (heaterMarks s).phase = s.phase ∧ (heaterMarks s).bus = s.bus ∧ (heaterMarks s).signals = s.signals ∧
    (heaterMarks s).egress = s.egress ∧ (heaterMarks s).tx = s.tx ∧ (heaterMarks s).rx = s.rx ∧
    (heaterMarks s).nodes = s.nodes ∧ (heaterMarks s).panel = s.panel ∧ (heaterMarks s).roster = s.roster ∧
    (heaterMarks s).energy = s.energy ∧ (heaterMarks s).fridge = s.fridge ∧ (heaterMarks s).lights = s.lights ∧
    (heaterMarks s).rest = s.rest ∧ (heaterMarks s).setup = s.setup ∧ (heaterMarks s).store = s.store ∧
    (heaterMarks s).notices = s.notices ∧ (heaterMarks s).power = s.power ∧ (heaterMarks s).ret = s.ret ∧
    (heaterMarks s).tables = s.tables ∧ (heaterMarks s).pending = s.pending := by
  unfold heaterMarks; try dsimp only
  first | (simp [State.ite_frame]; done) | ((repeat' split) <;> simp [State.ite_frame])

@[simp] theorem commandStop_frame (st : HeaterState) (s : State) :
    (commandStop st s).phase = s.phase ∧ (commandStop st s).bus = s.bus ∧ (commandStop st s).signals = s.signals ∧
    (commandStop st s).egress = s.egress ∧ (commandStop st s).tx = s.tx ∧ (commandStop st s).rx = s.rx ∧
    (commandStop st s).nodes = s.nodes ∧ (commandStop st s).panel = s.panel ∧ (commandStop st s).roster = s.roster ∧
    (commandStop st s).energy = s.energy ∧ (commandStop st s).fridge = s.fridge ∧
    (commandStop st s).lights = s.lights ∧ (commandStop st s).rest = s.rest ∧ (commandStop st s).setup = s.setup ∧
    (commandStop st s).store = s.store ∧ (commandStop st s).notices = s.notices ∧
    (commandStop st s).power = s.power ∧ (commandStop st s).ret = s.ret ∧ (commandStop st s).tables = s.tables ∧
    (commandStop st s).pending = s.pending := by
  unfold commandStop; try dsimp only
  first | (simp [State.ite_frame]; done) | ((repeat' split) <;> simp [State.ite_frame])

@[simp] theorem heaterAsk_frame (s : State) :
    (heaterAsk s).phase = s.phase ∧ (heaterAsk s).bus = s.bus ∧ (heaterAsk s).signals = s.signals ∧
    (heaterAsk s).egress = s.egress ∧ (heaterAsk s).tx = s.tx ∧ (heaterAsk s).rx = s.rx ∧
    (heaterAsk s).nodes = s.nodes ∧ (heaterAsk s).panel = s.panel ∧ (heaterAsk s).energy = s.energy ∧
    (heaterAsk s).lights = s.lights ∧ (heaterAsk s).rest = s.rest ∧ (heaterAsk s).setup = s.setup ∧
    (heaterAsk s).store = s.store ∧ (heaterAsk s).notices = s.notices ∧ (heaterAsk s).power = s.power ∧
    (heaterAsk s).ret = s.ret ∧ (heaterAsk s).tables = s.tables ∧ (heaterAsk s).pending = s.pending := by
  unfold heaterAsk; try dsimp only
  first | (simp [State.ite_frame]; done) | ((repeat' split) <;> simp [State.ite_frame])

@[simp] theorem heaterStart_frame (s : State) :
    (heaterStart s).phase = s.phase ∧ (heaterStart s).bus = s.bus ∧ (heaterStart s).signals = s.signals ∧
    (heaterStart s).egress = s.egress ∧ (heaterStart s).tx = s.tx ∧ (heaterStart s).rx = s.rx ∧
    (heaterStart s).nodes = s.nodes ∧ (heaterStart s).panel = s.panel ∧ (heaterStart s).energy = s.energy ∧
    (heaterStart s).fridge = s.fridge ∧ (heaterStart s).lights = s.lights ∧ (heaterStart s).rest = s.rest ∧
    (heaterStart s).setup = s.setup ∧ (heaterStart s).store = s.store ∧ (heaterStart s).notices = s.notices ∧
    (heaterStart s).power = s.power ∧ (heaterStart s).ret = s.ret ∧ (heaterStart s).tables = s.tables ∧
    (heaterStart s).pending = s.pending := by
  unfold heaterStart; try dsimp only
  first | (simp [State.ite_frame]; done) | ((repeat' split) <;> simp [State.ite_frame])

/-- Only a release in ON, which gives up a surge place, can reach the fridge. -/
theorem release_fridge (withStop : Bool) (i : Nat) (s : State) (h : (s.live i).grant ≠ .on) :
    (release withStop i s).fridge = s.fridge := by
  unfold release
  simp [h]

/-- A function on the valid entry of a kind, by the entry's grant state. -/
theorem onEntry_fridge_of_grant (k : LoadKind) (g : Grant) (f : Nat → State → State) (s : State) (hg : s.grantOfKind k = some g)
    (h : ∀ i t, (t.live i).grant = g → (f i t).fridge = t.fridge) : (onEntry k f s).fridge = s.fridge := by
  unfold onEntry
  unfold State.grantOfKind at hg
  split <;> rename_i hk <;> simp_all

theorem endStopping_fridge (s : State) : (endStopping s).fridge = s.fridge := by
  unfold endStopping
  dsimp only
  split <;> try (simp; done)
  · split <;> simp
  · rename_i hg _
    simp only [State.modHeater_fridge]
    rw [onEntry_fridge_of_grant .heater .shedding _ _ hg fun i t ht => release_fridge false i t (by simp [ht])]
    simp

@[simp] theorem endStopping_frame (s : State) :
    (endStopping s).phase = s.phase ∧ (endStopping s).bus = s.bus ∧ (endStopping s).signals = s.signals ∧
    (endStopping s).egress = s.egress ∧ (endStopping s).tx = s.tx ∧ (endStopping s).rx = s.rx ∧
    (endStopping s).nodes = s.nodes ∧ (endStopping s).panel = s.panel ∧ (endStopping s).energy = s.energy ∧
    (endStopping s).fridge = s.fridge ∧ (endStopping s).lights = s.lights ∧ (endStopping s).rest = s.rest ∧
    (endStopping s).setup = s.setup ∧ (endStopping s).store = s.store ∧ (endStopping s).notices = s.notices ∧
    (endStopping s).power = s.power ∧ (endStopping s).ret = s.ret ∧ (endStopping s).tables = s.tables ∧
    (endStopping s).pending = s.pending := by
  simp only [endStopping_fridge, true_and]
  unfold endStopping; try dsimp only
  first | (simp [State.ite_frame]; done) | ((repeat' split) <;> simp [State.ite_frame])

@[simp] theorem endRetry_frame (s : State) :
    (endRetry s).phase = s.phase ∧ (endRetry s).bus = s.bus ∧ (endRetry s).signals = s.signals ∧
    (endRetry s).egress = s.egress ∧ (endRetry s).tx = s.tx ∧ (endRetry s).rx = s.rx ∧ (endRetry s).nodes = s.nodes ∧
    (endRetry s).panel = s.panel ∧ (endRetry s).energy = s.energy ∧ (endRetry s).lights = s.lights ∧
    (endRetry s).rest = s.rest ∧ (endRetry s).setup = s.setup ∧ (endRetry s).store = s.store ∧
    (endRetry s).notices = s.notices ∧ (endRetry s).power = s.power ∧ (endRetry s).ret = s.ret ∧
    (endRetry s).tables = s.tables ∧ (endRetry s).pending = s.pending := by
  unfold endRetry; try dsimp only
  first | (simp [State.ite_frame]; done) | ((repeat' split) <;> simp [State.ite_frame])

@[simp] theorem endLockoutPurge_frame (s : State) :
    (endLockoutPurge s).phase = s.phase ∧ (endLockoutPurge s).bus = s.bus ∧ (endLockoutPurge s).signals = s.signals ∧
    (endLockoutPurge s).egress = s.egress ∧ (endLockoutPurge s).tx = s.tx ∧ (endLockoutPurge s).rx = s.rx ∧
    (endLockoutPurge s).nodes = s.nodes ∧ (endLockoutPurge s).panel = s.panel ∧
    (endLockoutPurge s).energy = s.energy ∧ (endLockoutPurge s).fridge = s.fridge ∧
    (endLockoutPurge s).lights = s.lights ∧ (endLockoutPurge s).rest = s.rest ∧ (endLockoutPurge s).setup = s.setup ∧
    (endLockoutPurge s).store = s.store ∧ (endLockoutPurge s).notices = s.notices ∧
    (endLockoutPurge s).power = s.power ∧ (endLockoutPurge s).ret = s.ret ∧ (endLockoutPurge s).tables = s.tables ∧
    (endLockoutPurge s).pending = s.pending := by
  unfold endLockoutPurge; try dsimp only
  first | (simp [State.ite_frame]; done) | ((repeat' split) <;> simp [State.ite_frame])

@[simp] theorem heaterAtIdle_frame (s : State) :
    (heaterAtIdle s).phase = s.phase ∧ (heaterAtIdle s).bus = s.bus ∧ (heaterAtIdle s).signals = s.signals ∧
    (heaterAtIdle s).egress = s.egress ∧ (heaterAtIdle s).tx = s.tx ∧ (heaterAtIdle s).rx = s.rx ∧
    (heaterAtIdle s).nodes = s.nodes ∧ (heaterAtIdle s).panel = s.panel ∧ (heaterAtIdle s).energy = s.energy ∧
    (heaterAtIdle s).lights = s.lights ∧ (heaterAtIdle s).rest = s.rest ∧ (heaterAtIdle s).setup = s.setup ∧
    (heaterAtIdle s).store = s.store ∧ (heaterAtIdle s).notices = s.notices ∧ (heaterAtIdle s).power = s.power ∧
    (heaterAtIdle s).ret = s.ret ∧ (heaterAtIdle s).tables = s.tables ∧ (heaterAtIdle s).pending = s.pending := by
  unfold heaterAtIdle; try dsimp only
  first | (simp [State.ite_frame]; done) | ((repeat' split) <;> simp [State.ite_frame])

@[simp] theorem heaterTests_frame (s : State) :
    (heaterTests s).phase = s.phase ∧ (heaterTests s).bus = s.bus ∧ (heaterTests s).signals = s.signals ∧
    (heaterTests s).egress = s.egress ∧ (heaterTests s).tx = s.tx ∧ (heaterTests s).rx = s.rx ∧
    (heaterTests s).nodes = s.nodes ∧ (heaterTests s).panel = s.panel ∧ (heaterTests s).energy = s.energy ∧
    (heaterTests s).lights = s.lights ∧ (heaterTests s).rest = s.rest ∧ (heaterTests s).setup = s.setup ∧
    (heaterTests s).store = s.store ∧ (heaterTests s).notices = s.notices ∧ (heaterTests s).power = s.power ∧
    (heaterTests s).ret = s.ret ∧ (heaterTests s).tables = s.tables ∧ (heaterTests s).pending = s.pending := by
  unfold heaterTests; try dsimp only
  first | (simp [State.ite_frame]; done) | ((repeat' split) <;> simp [State.ite_frame])

@[simp] theorem demandEnds_frame (s : State) :
    (demandEnds s).phase = s.phase ∧ (demandEnds s).bus = s.bus ∧ (demandEnds s).signals = s.signals ∧
    (demandEnds s).egress = s.egress ∧ (demandEnds s).tx = s.tx ∧ (demandEnds s).rx = s.rx ∧
    (demandEnds s).nodes = s.nodes ∧ (demandEnds s).panel = s.panel ∧ (demandEnds s).energy = s.energy ∧
    (demandEnds s).lights = s.lights ∧ (demandEnds s).rest = s.rest ∧ (demandEnds s).setup = s.setup ∧
    (demandEnds s).store = s.store ∧ (demandEnds s).notices = s.notices ∧ (demandEnds s).power = s.power ∧
    (demandEnds s).ret = s.ret ∧ (demandEnds s).tables = s.tables ∧ (demandEnds s).pending = s.pending := by
  unfold demandEnds; try dsimp only
  first | (simp [State.ite_frame]; done) | ((repeat' split) <;> simp [State.ite_frame])

@[simp] theorem takeLevel_frame (s : State) :
    (takeLevel s).phase = s.phase ∧ (takeLevel s).bus = s.bus ∧ (takeLevel s).signals = s.signals ∧
    (takeLevel s).egress = s.egress ∧ (takeLevel s).tx = s.tx ∧ (takeLevel s).rx = s.rx ∧
    (takeLevel s).nodes = s.nodes ∧ (takeLevel s).panel = s.panel ∧ (takeLevel s).roster = s.roster ∧
    (takeLevel s).energy = s.energy ∧ (takeLevel s).fridge = s.fridge ∧ (takeLevel s).lights = s.lights ∧
    (takeLevel s).rest = s.rest ∧ (takeLevel s).setup = s.setup ∧ (takeLevel s).store = s.store ∧
    (takeLevel s).notices = s.notices ∧ (takeLevel s).power = s.power ∧ (takeLevel s).ret = s.ret ∧
    (takeLevel s).tables = s.tables ∧ (takeLevel s).pending = s.pending := by
  unfold takeLevel; try dsimp only
  first | (simp [State.ite_frame]; done) | ((repeat' split) <;> simp [State.ite_frame])

@[simp] theorem heaterRefresh_frame (s : State) :
    (heaterRefresh s).phase = s.phase ∧ (heaterRefresh s).bus = s.bus ∧ (heaterRefresh s).signals = s.signals ∧
    (heaterRefresh s).egress = s.egress ∧ (heaterRefresh s).tx = s.tx ∧ (heaterRefresh s).rx = s.rx ∧
    (heaterRefresh s).nodes = s.nodes ∧ (heaterRefresh s).panel = s.panel ∧ (heaterRefresh s).energy = s.energy ∧
    (heaterRefresh s).lights = s.lights ∧ (heaterRefresh s).rest = s.rest ∧ (heaterRefresh s).setup = s.setup ∧
    (heaterRefresh s).store = s.store ∧ (heaterRefresh s).notices = s.notices ∧ (heaterRefresh s).power = s.power ∧
    (heaterRefresh s).ret = s.ret ∧ (heaterRefresh s).tables = s.tables ∧ (heaterRefresh s).pending = s.pending := by
  unfold heaterRefresh; try dsimp only
  first | (simp [State.ite_frame]; done) | ((repeat' split) <;> simp [State.ite_frame])

@[simp] theorem heaterFails_frame (nodeFault : Bool) (s : State) :
    (heaterFails nodeFault s).phase = s.phase ∧ (heaterFails nodeFault s).signals = s.signals ∧
    (heaterFails nodeFault s).egress = s.egress ∧ (heaterFails nodeFault s).tx = s.tx ∧
    (heaterFails nodeFault s).rx = s.rx ∧ (heaterFails nodeFault s).nodes = s.nodes ∧
    (heaterFails nodeFault s).panel = s.panel ∧ (heaterFails nodeFault s).energy = s.energy ∧
    (heaterFails nodeFault s).lights = s.lights ∧ (heaterFails nodeFault s).rest = s.rest ∧
    (heaterFails nodeFault s).setup = s.setup ∧ (heaterFails nodeFault s).store = s.store ∧
    (heaterFails nodeFault s).power = s.power ∧ (heaterFails nodeFault s).tables = s.tables ∧
    (heaterFails nodeFault s).pending = s.pending := by
  unfold heaterFails; try dsimp only
  first | (simp [State.ite_frame]; done) | ((repeat' split) <;> simp [State.ite_frame])

@[simp] theorem startSucceeds_frame (s : State) :
    (startSucceeds s).phase = s.phase ∧ (startSucceeds s).bus = s.bus ∧ (startSucceeds s).signals = s.signals ∧
    (startSucceeds s).egress = s.egress ∧ (startSucceeds s).tx = s.tx ∧ (startSucceeds s).rx = s.rx ∧
    (startSucceeds s).nodes = s.nodes ∧ (startSucceeds s).panel = s.panel ∧ (startSucceeds s).energy = s.energy ∧
    (startSucceeds s).lights = s.lights ∧ (startSucceeds s).rest = s.rest ∧ (startSucceeds s).setup = s.setup ∧
    (startSucceeds s).store = s.store ∧ (startSucceeds s).notices = s.notices ∧ (startSucceeds s).power = s.power ∧
    (startSucceeds s).tables = s.tables ∧ (startSucceeds s).pending = s.pending := by
  unfold startSucceeds; try dsimp only
  first | (simp [State.ite_frame]; done) | ((repeat' split) <;> simp [State.ite_frame])

@[simp] theorem heaterPhase_frame (s : State) :
    (heaterPhase s).phase = s.phase ∧ (heaterPhase s).signals = s.signals ∧ (heaterPhase s).egress = s.egress ∧
    (heaterPhase s).tx = s.tx ∧ (heaterPhase s).rx = s.rx ∧ (heaterPhase s).nodes = s.nodes ∧
    (heaterPhase s).panel = s.panel ∧ (heaterPhase s).energy = s.energy ∧ (heaterPhase s).lights = s.lights ∧
    (heaterPhase s).rest = s.rest ∧ (heaterPhase s).setup = s.setup ∧ (heaterPhase s).store = s.store ∧
    (heaterPhase s).power = s.power ∧ (heaterPhase s).tables = s.tables ∧ (heaterPhase s).pending = s.pending := by
  unfold heaterPhase; try dsimp only
  first | (simp [State.ite_frame]; done) | ((repeat' split) <;> simp [State.ite_frame])

@[simp] theorem heaterGranted_frame (s : State) :
    (heaterGranted s).phase = s.phase ∧ (heaterGranted s).bus = s.bus ∧ (heaterGranted s).signals = s.signals ∧
    (heaterGranted s).egress = s.egress ∧ (heaterGranted s).tx = s.tx ∧ (heaterGranted s).rx = s.rx ∧
    (heaterGranted s).nodes = s.nodes ∧ (heaterGranted s).panel = s.panel ∧ (heaterGranted s).energy = s.energy ∧
    (heaterGranted s).lights = s.lights ∧ (heaterGranted s).rest = s.rest ∧ (heaterGranted s).setup = s.setup ∧
    (heaterGranted s).store = s.store ∧ (heaterGranted s).notices = s.notices ∧ (heaterGranted s).power = s.power ∧
    (heaterGranted s).ret = s.ret ∧ (heaterGranted s).tables = s.tables ∧ (heaterGranted s).pending = s.pending := by
  unfold heaterGranted; try dsimp only
  first | (simp [State.ite_frame]; done) | ((repeat' split) <;> simp [State.ite_frame])

@[simp] theorem heaterShed_frame (s : State) :
    (heaterShed s).phase = s.phase ∧ (heaterShed s).bus = s.bus ∧ (heaterShed s).signals = s.signals ∧
    (heaterShed s).egress = s.egress ∧ (heaterShed s).tx = s.tx ∧ (heaterShed s).rx = s.rx ∧
    (heaterShed s).nodes = s.nodes ∧ (heaterShed s).panel = s.panel ∧ (heaterShed s).energy = s.energy ∧
    (heaterShed s).lights = s.lights ∧ (heaterShed s).rest = s.rest ∧ (heaterShed s).setup = s.setup ∧
    (heaterShed s).store = s.store ∧ (heaterShed s).notices = s.notices ∧ (heaterShed s).power = s.power ∧
    (heaterShed s).ret = s.ret ∧ (heaterShed s).tables = s.tables ∧ (heaterShed s).pending = s.pending := by
  unfold heaterShed; try dsimp only
  first | (simp [State.ite_frame]; done) | ((repeat' split) <;> simp [State.ite_frame])

@[simp] theorem heaterNodeLeft_frame (s : State) :
    (heaterNodeLeft s).phase = s.phase ∧ (heaterNodeLeft s).bus = s.bus ∧ (heaterNodeLeft s).signals = s.signals ∧
    (heaterNodeLeft s).egress = s.egress ∧ (heaterNodeLeft s).tx = s.tx ∧ (heaterNodeLeft s).rx = s.rx ∧
    (heaterNodeLeft s).nodes = s.nodes ∧ (heaterNodeLeft s).panel = s.panel ∧ (heaterNodeLeft s).energy = s.energy ∧
    (heaterNodeLeft s).lights = s.lights ∧ (heaterNodeLeft s).rest = s.rest ∧ (heaterNodeLeft s).setup = s.setup ∧
    (heaterNodeLeft s).store = s.store ∧ (heaterNodeLeft s).notices = s.notices ∧
    (heaterNodeLeft s).power = s.power ∧ (heaterNodeLeft s).ret = s.ret ∧ (heaterNodeLeft s).tables = s.tables ∧
    (heaterNodeLeft s).pending = s.pending := by
  unfold heaterNodeLeft; try dsimp only
  first | (simp [State.ite_frame]; done) | ((repeat' split) <;> simp [State.ite_frame])

@[simp] theorem purgeExpires_frame (s : State) :
    (purgeExpires s).phase = s.phase ∧ (purgeExpires s).signals = s.signals ∧ (purgeExpires s).egress = s.egress ∧
    (purgeExpires s).tx = s.tx ∧ (purgeExpires s).rx = s.rx ∧ (purgeExpires s).nodes = s.nodes ∧
    (purgeExpires s).panel = s.panel ∧ (purgeExpires s).energy = s.energy ∧ (purgeExpires s).lights = s.lights ∧
    (purgeExpires s).rest = s.rest ∧ (purgeExpires s).setup = s.setup ∧ (purgeExpires s).store = s.store ∧
    (purgeExpires s).power = s.power ∧ (purgeExpires s).ret = s.ret ∧ (purgeExpires s).tables = s.tables ∧
    (purgeExpires s).pending = s.pending := by
  unfold purgeExpires; try dsimp only
  first | (simp [State.ite_frame]; done) | ((repeat' split) <;> simp [State.ite_frame])

@[simp] theorem levelHoldExpires_frame (s : State) :
    (levelHoldExpires s).phase = s.phase ∧ (levelHoldExpires s).bus = s.bus ∧
    (levelHoldExpires s).signals = s.signals ∧ (levelHoldExpires s).egress = s.egress ∧
    (levelHoldExpires s).tx = s.tx ∧ (levelHoldExpires s).rx = s.rx ∧ (levelHoldExpires s).nodes = s.nodes ∧
    (levelHoldExpires s).panel = s.panel ∧ (levelHoldExpires s).energy = s.energy ∧
    (levelHoldExpires s).fridge = s.fridge ∧ (levelHoldExpires s).lights = s.lights ∧
    (levelHoldExpires s).rest = s.rest ∧ (levelHoldExpires s).setup = s.setup ∧
    (levelHoldExpires s).store = s.store ∧ (levelHoldExpires s).notices = s.notices ∧
    (levelHoldExpires s).power = s.power ∧ (levelHoldExpires s).ret = s.ret ∧
    (levelHoldExpires s).tables = s.tables ∧ (levelHoldExpires s).pending = s.pending := by
  unfold levelHoldExpires; try dsimp only
  first | (simp [State.ite_frame]; done) | ((repeat' split) <;> simp [State.ite_frame])

@[simp] theorem heatReset_frame (s : State) :
    (heatReset s).phase = s.phase ∧ (heatReset s).bus = s.bus ∧ (heatReset s).signals = s.signals ∧
    (heatReset s).egress = s.egress ∧ (heatReset s).tx = s.tx ∧ (heatReset s).rx = s.rx ∧
    (heatReset s).nodes = s.nodes ∧ (heatReset s).panel = s.panel ∧ (heatReset s).energy = s.energy ∧
    (heatReset s).lights = s.lights ∧ (heatReset s).rest = s.rest ∧ (heatReset s).setup = s.setup ∧
    (heatReset s).store = s.store ∧ (heatReset s).notices = s.notices ∧ (heatReset s).power = s.power ∧
    (heatReset s).tables = s.tables ∧ (heatReset s).pending = s.pending := by
  unfold heatReset; try dsimp only
  first | (simp [State.ite_frame]; done) | ((repeat' split) <;> simp [State.ite_frame])

@[simp] theorem heatSet_frame (v : ℤ) (s : State) :
    (heatSet v s).phase = s.phase ∧ (heatSet v s).bus = s.bus ∧ (heatSet v s).signals = s.signals ∧
    (heatSet v s).egress = s.egress ∧ (heatSet v s).tx = s.tx ∧ (heatSet v s).rx = s.rx ∧
    (heatSet v s).nodes = s.nodes ∧ (heatSet v s).panel = s.panel ∧ (heatSet v s).energy = s.energy ∧
    (heatSet v s).lights = s.lights ∧ (heatSet v s).rest = s.rest ∧ (heatSet v s).setup = s.setup ∧
    (heatSet v s).store = s.store ∧ (heatSet v s).notices = s.notices ∧ (heatSet v s).power = s.power ∧
    (heatSet v s).ret = s.ret ∧ (heatSet v s).tables = s.tables ∧ (heatSet v s).pending = s.pending := by
  unfold heatSet; try dsimp only
  first | (simp [State.ite_frame]; done) | ((repeat' split) <;> simp [State.ite_frame])

@[simp] theorem heatStep_frame (d : ℤ) (s : State) :
    (heatStep d s).phase = s.phase ∧ (heatStep d s).bus = s.bus ∧ (heatStep d s).signals = s.signals ∧
    (heatStep d s).egress = s.egress ∧ (heatStep d s).tx = s.tx ∧ (heatStep d s).rx = s.rx ∧
    (heatStep d s).nodes = s.nodes ∧ (heatStep d s).panel = s.panel ∧ (heatStep d s).energy = s.energy ∧
    (heatStep d s).lights = s.lights ∧ (heatStep d s).rest = s.rest ∧ (heatStep d s).setup = s.setup ∧
    (heatStep d s).store = s.store ∧ (heatStep d s).notices = s.notices ∧ (heatStep d s).power = s.power ∧
    (heatStep d s).ret = s.ret ∧ (heatStep d s).tables = s.tables ∧ (heatStep d s).pending = s.pending := by
  unfold heatStep; try dsimp only
  first | (simp [State.ite_frame]; done) | ((repeat' split) <;> simp [State.ite_frame])

@[simp] theorem setHeatMode_frame (n : ℕ) (s : State) :
    (setHeatMode n s).phase = s.phase ∧ (setHeatMode n s).bus = s.bus ∧ (setHeatMode n s).signals = s.signals ∧
    (setHeatMode n s).egress = s.egress ∧ (setHeatMode n s).tx = s.tx ∧ (setHeatMode n s).rx = s.rx ∧
    (setHeatMode n s).nodes = s.nodes ∧ (setHeatMode n s).panel = s.panel ∧ (setHeatMode n s).roster = s.roster ∧
    (setHeatMode n s).energy = s.energy ∧ (setHeatMode n s).fridge = s.fridge ∧ (setHeatMode n s).lights = s.lights ∧
    (setHeatMode n s).rest = s.rest ∧ (setHeatMode n s).setup = s.setup ∧ (setHeatMode n s).store = s.store ∧
    (setHeatMode n s).notices = s.notices ∧ (setHeatMode n s).power = s.power ∧ (setHeatMode n s).ret = s.ret ∧
    (setHeatMode n s).tables = s.tables ∧ (setHeatMode n s).pending = s.pending := by
  unfold setHeatMode; try dsimp only
  first | (simp [State.ite_frame]; done) | ((repeat' split) <;> simp [State.ite_frame])

@[simp] theorem openWindow_frame (endMinute : ℕ) (s : State) :
    (openWindow endMinute s).phase = s.phase ∧ (openWindow endMinute s).bus = s.bus ∧
    (openWindow endMinute s).signals = s.signals ∧ (openWindow endMinute s).egress = s.egress ∧
    (openWindow endMinute s).tx = s.tx ∧ (openWindow endMinute s).rx = s.rx ∧
    (openWindow endMinute s).nodes = s.nodes ∧ (openWindow endMinute s).panel = s.panel ∧
    (openWindow endMinute s).energy = s.energy ∧ (openWindow endMinute s).lights = s.lights ∧
    (openWindow endMinute s).rest = s.rest ∧ (openWindow endMinute s).setup = s.setup ∧
    (openWindow endMinute s).store = s.store ∧ (openWindow endMinute s).notices = s.notices ∧
    (openWindow endMinute s).power = s.power ∧ (openWindow endMinute s).ret = s.ret ∧
    (openWindow endMinute s).tables = s.tables ∧ (openWindow endMinute s).pending = s.pending := by
  unfold openWindow; try dsimp only
  first | (simp [State.ite_frame]; done) | ((repeat' split) <;> simp [State.ite_frame])

@[simp] theorem closeWindow_frame (s : State) :
    (closeWindow s).phase = s.phase ∧ (closeWindow s).bus = s.bus ∧ (closeWindow s).signals = s.signals ∧
    (closeWindow s).egress = s.egress ∧ (closeWindow s).tx = s.tx ∧ (closeWindow s).rx = s.rx ∧
    (closeWindow s).nodes = s.nodes ∧ (closeWindow s).panel = s.panel ∧ (closeWindow s).energy = s.energy ∧
    (closeWindow s).lights = s.lights ∧ (closeWindow s).rest = s.rest ∧ (closeWindow s).setup = s.setup ∧
    (closeWindow s).store = s.store ∧ (closeWindow s).notices = s.notices ∧ (closeWindow s).power = s.power ∧
    (closeWindow s).ret = s.ret ∧ (closeWindow s).tables = s.tables ∧ (closeWindow s).pending = s.pending := by
  unfold closeWindow; try dsimp only
  first | (simp [State.ite_frame]; done) | ((repeat' split) <;> simp [State.ite_frame])

@[simp] theorem heaterMinute_frame (s : State) :
    (heaterMinute s).phase = s.phase ∧ (heaterMinute s).bus = s.bus ∧ (heaterMinute s).signals = s.signals ∧
    (heaterMinute s).egress = s.egress ∧ (heaterMinute s).tx = s.tx ∧ (heaterMinute s).rx = s.rx ∧
    (heaterMinute s).nodes = s.nodes ∧ (heaterMinute s).panel = s.panel ∧ (heaterMinute s).energy = s.energy ∧
    (heaterMinute s).lights = s.lights ∧ (heaterMinute s).rest = s.rest ∧ (heaterMinute s).setup = s.setup ∧
    (heaterMinute s).store = s.store ∧ (heaterMinute s).notices = s.notices ∧ (heaterMinute s).power = s.power ∧
    (heaterMinute s).ret = s.ret ∧ (heaterMinute s).tables = s.tables ∧ (heaterMinute s).pending = s.pending := by
  unfold heaterMinute; try dsimp only
  first | (simp [State.ite_frame]; done) | ((repeat' split) <;> simp [State.ite_frame])

@[simp] theorem manualExpires_frame (s : State) :
    (manualExpires s).phase = s.phase ∧ (manualExpires s).bus = s.bus ∧ (manualExpires s).signals = s.signals ∧
    (manualExpires s).egress = s.egress ∧ (manualExpires s).tx = s.tx ∧ (manualExpires s).rx = s.rx ∧
    (manualExpires s).nodes = s.nodes ∧ (manualExpires s).panel = s.panel ∧ (manualExpires s).energy = s.energy ∧
    (manualExpires s).lights = s.lights ∧ (manualExpires s).rest = s.rest ∧ (manualExpires s).setup = s.setup ∧
    (manualExpires s).store = s.store ∧ (manualExpires s).notices = s.notices ∧ (manualExpires s).power = s.power ∧
    (manualExpires s).ret = s.ret ∧ (manualExpires s).tables = s.tables ∧ (manualExpires s).pending = s.pending := by
  unfold manualExpires; try dsimp only
  first | (simp [State.ite_frame]; done) | ((repeat' split) <;> simp [State.ite_frame])

@[simp] theorem heaterStartUp_frame (s : State) :
    (heaterStartUp s).phase = s.phase ∧ (heaterStartUp s).bus = s.bus ∧ (heaterStartUp s).signals = s.signals ∧
    (heaterStartUp s).egress = s.egress ∧ (heaterStartUp s).tx = s.tx ∧ (heaterStartUp s).rx = s.rx ∧
    (heaterStartUp s).nodes = s.nodes ∧ (heaterStartUp s).panel = s.panel ∧ (heaterStartUp s).roster = s.roster ∧
    (heaterStartUp s).energy = s.energy ∧ (heaterStartUp s).fridge = s.fridge ∧ (heaterStartUp s).lights = s.lights ∧
    (heaterStartUp s).rest = s.rest ∧ (heaterStartUp s).setup = s.setup ∧ (heaterStartUp s).store = s.store ∧
    (heaterStartUp s).notices = s.notices ∧ (heaterStartUp s).power = s.power ∧ (heaterStartUp s).ret = s.ret ∧
    (heaterStartUp s).tables = s.tables ∧ (heaterStartUp s).pending = s.pending := by
  unfold heaterStartUp; try dsimp only
  first | (simp [State.ite_frame]; done) | ((repeat' split) <;> simp [State.ite_frame])

@[simp] theorem fridgeTo_frame (st : FridgeState) (s : State) :
    (fridgeTo st s).phase = s.phase ∧ (fridgeTo st s).bus = s.bus ∧ (fridgeTo st s).signals = s.signals ∧
    (fridgeTo st s).egress = s.egress ∧ (fridgeTo st s).tx = s.tx ∧ (fridgeTo st s).rx = s.rx ∧
    (fridgeTo st s).nodes = s.nodes ∧ (fridgeTo st s).panel = s.panel ∧ (fridgeTo st s).roster = s.roster ∧
    (fridgeTo st s).energy = s.energy ∧ (fridgeTo st s).heater = s.heater ∧ (fridgeTo st s).lights = s.lights ∧
    (fridgeTo st s).rest = s.rest ∧ (fridgeTo st s).setup = s.setup ∧ (fridgeTo st s).store = s.store ∧
    (fridgeTo st s).notices = s.notices ∧ (fridgeTo st s).power = s.power ∧ (fridgeTo st s).ret = s.ret ∧
    (fridgeTo st s).tables = s.tables ∧ (fridgeTo st s).pending = s.pending := by
  unfold fridgeTo; try dsimp only
  first | (simp [State.ite_frame]; done) | ((repeat' split) <;> simp [State.ite_frame])

@[simp] theorem setProtect_frame (v : Bool) (s : State) :
    (setProtect v s).phase = s.phase ∧ (setProtect v s).signals = s.signals ∧ (setProtect v s).egress = s.egress ∧
    (setProtect v s).tx = s.tx ∧ (setProtect v s).rx = s.rx ∧ (setProtect v s).nodes = s.nodes ∧
    (setProtect v s).panel = s.panel ∧ (setProtect v s).roster = s.roster ∧ (setProtect v s).energy = s.energy ∧
    (setProtect v s).heater = s.heater ∧ (setProtect v s).lights = s.lights ∧ (setProtect v s).rest = s.rest ∧
    (setProtect v s).setup = s.setup ∧ (setProtect v s).store = s.store ∧ (setProtect v s).power = s.power ∧
    (setProtect v s).ret = s.ret ∧ (setProtect v s).tables = s.tables ∧ (setProtect v s).pending = s.pending := by
  unfold setProtect; try dsimp only
  first | (simp [State.ite_frame]; done) | ((repeat' split) <;> simp [State.ite_frame])

@[simp] theorem fridgeWant_frame (s : State) :
    (fridgeWant s).phase = s.phase ∧ (fridgeWant s).bus = s.bus ∧ (fridgeWant s).signals = s.signals ∧
    (fridgeWant s).egress = s.egress ∧ (fridgeWant s).tx = s.tx ∧ (fridgeWant s).rx = s.rx ∧
    (fridgeWant s).nodes = s.nodes ∧ (fridgeWant s).panel = s.panel ∧ (fridgeWant s).energy = s.energy ∧
    (fridgeWant s).lights = s.lights ∧ (fridgeWant s).rest = s.rest ∧ (fridgeWant s).setup = s.setup ∧
    (fridgeWant s).store = s.store ∧ (fridgeWant s).notices = s.notices ∧ (fridgeWant s).power = s.power ∧
    (fridgeWant s).ret = s.ret ∧ (fridgeWant s).tables = s.tables ∧ (fridgeWant s).pending = s.pending := by
  unfold fridgeWant; try dsimp only
  first | (simp [State.ite_frame]; done) | ((repeat' split) <;> simp [State.ite_frame])

@[simp] theorem fridgeCutIn_frame (s : State) :
    (fridgeCutIn s).phase = s.phase ∧ (fridgeCutIn s).bus = s.bus ∧ (fridgeCutIn s).signals = s.signals ∧
    (fridgeCutIn s).egress = s.egress ∧ (fridgeCutIn s).tx = s.tx ∧ (fridgeCutIn s).rx = s.rx ∧
    (fridgeCutIn s).nodes = s.nodes ∧ (fridgeCutIn s).panel = s.panel ∧ (fridgeCutIn s).energy = s.energy ∧
    (fridgeCutIn s).lights = s.lights ∧ (fridgeCutIn s).rest = s.rest ∧ (fridgeCutIn s).setup = s.setup ∧
    (fridgeCutIn s).store = s.store ∧ (fridgeCutIn s).notices = s.notices ∧ (fridgeCutIn s).power = s.power ∧
    (fridgeCutIn s).ret = s.ret ∧ (fridgeCutIn s).tables = s.tables ∧ (fridgeCutIn s).pending = s.pending := by
  unfold fridgeCutIn; try dsimp only
  first | (simp [State.ite_frame]; done) | ((repeat' split) <;> simp [State.ite_frame])

@[simp] theorem fridgeChecks_frame (s : State) :
    (fridgeChecks s).phase = s.phase ∧ (fridgeChecks s).bus = s.bus ∧ (fridgeChecks s).signals = s.signals ∧
    (fridgeChecks s).egress = s.egress ∧ (fridgeChecks s).tx = s.tx ∧ (fridgeChecks s).rx = s.rx ∧
    (fridgeChecks s).nodes = s.nodes ∧ (fridgeChecks s).panel = s.panel ∧ (fridgeChecks s).energy = s.energy ∧
    (fridgeChecks s).lights = s.lights ∧ (fridgeChecks s).rest = s.rest ∧ (fridgeChecks s).setup = s.setup ∧
    (fridgeChecks s).store = s.store ∧ (fridgeChecks s).notices = s.notices ∧ (fridgeChecks s).power = s.power ∧
    (fridgeChecks s).ret = s.ret ∧ (fridgeChecks s).tables = s.tables ∧ (fridgeChecks s).pending = s.pending := by
  unfold fridgeChecks; try dsimp only
  first | (simp [State.ite_frame]; done) | ((repeat' split) <;> simp [State.ite_frame])

@[simp] theorem fridgeHeld_frame (s : State) :
    (fridgeHeld s).phase = s.phase ∧ (fridgeHeld s).bus = s.bus ∧ (fridgeHeld s).signals = s.signals ∧
    (fridgeHeld s).egress = s.egress ∧ (fridgeHeld s).tx = s.tx ∧ (fridgeHeld s).rx = s.rx ∧
    (fridgeHeld s).nodes = s.nodes ∧ (fridgeHeld s).panel = s.panel ∧ (fridgeHeld s).energy = s.energy ∧
    (fridgeHeld s).lights = s.lights ∧ (fridgeHeld s).rest = s.rest ∧ (fridgeHeld s).setup = s.setup ∧
    (fridgeHeld s).store = s.store ∧ (fridgeHeld s).notices = s.notices ∧ (fridgeHeld s).power = s.power ∧
    (fridgeHeld s).ret = s.ret ∧ (fridgeHeld s).tables = s.tables ∧ (fridgeHeld s).pending = s.pending := by
  unfold fridgeHeld; try dsimp only
  first | (simp [State.ite_frame]; done) | ((repeat' split) <;> simp [State.ite_frame])

@[simp] theorem fridgeCutOut_frame (s : State) :
    (fridgeCutOut s).phase = s.phase ∧ (fridgeCutOut s).bus = s.bus ∧ (fridgeCutOut s).signals = s.signals ∧
    (fridgeCutOut s).egress = s.egress ∧ (fridgeCutOut s).tx = s.tx ∧ (fridgeCutOut s).rx = s.rx ∧
    (fridgeCutOut s).nodes = s.nodes ∧ (fridgeCutOut s).panel = s.panel ∧ (fridgeCutOut s).roster = s.roster ∧
    (fridgeCutOut s).energy = s.energy ∧ (fridgeCutOut s).heater = s.heater ∧ (fridgeCutOut s).lights = s.lights ∧
    (fridgeCutOut s).rest = s.rest ∧ (fridgeCutOut s).setup = s.setup ∧ (fridgeCutOut s).store = s.store ∧
    (fridgeCutOut s).notices = s.notices ∧ (fridgeCutOut s).power = s.power ∧ (fridgeCutOut s).ret = s.ret ∧
    (fridgeCutOut s).tables = s.tables ∧ (fridgeCutOut s).pending = s.pending := by
  unfold fridgeCutOut; try dsimp only
  first | (simp [State.ite_frame]; done) | ((repeat' split) <;> simp [State.ite_frame])

@[simp] theorem fridgeTests_frame (s : State) :
    (fridgeTests s).phase = s.phase ∧ (fridgeTests s).bus = s.bus ∧ (fridgeTests s).signals = s.signals ∧
    (fridgeTests s).egress = s.egress ∧ (fridgeTests s).tx = s.tx ∧ (fridgeTests s).rx = s.rx ∧
    (fridgeTests s).nodes = s.nodes ∧ (fridgeTests s).panel = s.panel ∧ (fridgeTests s).energy = s.energy ∧
    (fridgeTests s).lights = s.lights ∧ (fridgeTests s).rest = s.rest ∧ (fridgeTests s).setup = s.setup ∧
    (fridgeTests s).store = s.store ∧ (fridgeTests s).notices = s.notices ∧ (fridgeTests s).power = s.power ∧
    (fridgeTests s).ret = s.ret ∧ (fridgeTests s).tables = s.tables ∧ (fridgeTests s).pending = s.pending := by
  unfold fridgeTests; try dsimp only
  first | (simp [State.ite_frame]; done) | ((repeat' split) <;> simp [State.ite_frame])

@[simp] theorem fridgeBegin_frame (s : State) :
    (fridgeBegin s).phase = s.phase ∧ (fridgeBegin s).bus = s.bus ∧ (fridgeBegin s).signals = s.signals ∧
    (fridgeBegin s).egress = s.egress ∧ (fridgeBegin s).tx = s.tx ∧ (fridgeBegin s).rx = s.rx ∧
    (fridgeBegin s).nodes = s.nodes ∧ (fridgeBegin s).panel = s.panel ∧ (fridgeBegin s).energy = s.energy ∧
    (fridgeBegin s).lights = s.lights ∧ (fridgeBegin s).rest = s.rest ∧ (fridgeBegin s).setup = s.setup ∧
    (fridgeBegin s).store = s.store ∧ (fridgeBegin s).notices = s.notices ∧ (fridgeBegin s).power = s.power ∧
    (fridgeBegin s).ret = s.ret ∧ (fridgeBegin s).tables = s.tables ∧ (fridgeBegin s).pending = s.pending := by
  unfold fridgeBegin; try dsimp only
  first | (simp [State.ite_frame]; done) | ((repeat' split) <;> simp [State.ite_frame])

@[simp] theorem fridgeStop_frame (st : FridgeState) (s : State) :
    (fridgeStop st s).phase = s.phase ∧ (fridgeStop st s).signals = s.signals ∧ (fridgeStop st s).egress = s.egress ∧
    (fridgeStop st s).tx = s.tx ∧ (fridgeStop st s).rx = s.rx ∧ (fridgeStop st s).nodes = s.nodes ∧
    (fridgeStop st s).panel = s.panel ∧ (fridgeStop st s).energy = s.energy ∧ (fridgeStop st s).lights = s.lights ∧
    (fridgeStop st s).rest = s.rest ∧ (fridgeStop st s).setup = s.setup ∧ (fridgeStop st s).store = s.store ∧
    (fridgeStop st s).power = s.power ∧ (fridgeStop st s).ret = s.ret ∧ (fridgeStop st s).tables = s.tables ∧
    (fridgeStop st s).pending = s.pending := by
  unfold fridgeStop; try dsimp only
  first | (simp [State.ite_frame]; done) | ((repeat' split) <;> simp [State.ite_frame])

@[simp] theorem fridgeFault_frame (c : FridgeCause) (s : State) :
    (fridgeFault c s).phase = s.phase ∧ (fridgeFault c s).signals = s.signals ∧ (fridgeFault c s).egress = s.egress ∧
    (fridgeFault c s).tx = s.tx ∧ (fridgeFault c s).rx = s.rx ∧ (fridgeFault c s).nodes = s.nodes ∧
    (fridgeFault c s).panel = s.panel ∧ (fridgeFault c s).energy = s.energy ∧ (fridgeFault c s).lights = s.lights ∧
    (fridgeFault c s).rest = s.rest ∧ (fridgeFault c s).setup = s.setup ∧ (fridgeFault c s).store = s.store ∧
    (fridgeFault c s).power = s.power ∧ (fridgeFault c s).ret = s.ret ∧ (fridgeFault c s).tables = s.tables ∧
    (fridgeFault c s).pending = s.pending := by
  unfold fridgeFault; try dsimp only
  first | (simp [State.ite_frame]; done) | ((repeat' split) <;> simp [State.ite_frame])

@[simp] theorem fridgeFaultTests_frame (s : State) :
    (fridgeFaultTests s).phase = s.phase ∧ (fridgeFaultTests s).signals = s.signals ∧
    (fridgeFaultTests s).egress = s.egress ∧ (fridgeFaultTests s).tx = s.tx ∧ (fridgeFaultTests s).rx = s.rx ∧
    (fridgeFaultTests s).nodes = s.nodes ∧ (fridgeFaultTests s).panel = s.panel ∧
    (fridgeFaultTests s).energy = s.energy ∧ (fridgeFaultTests s).lights = s.lights ∧
    (fridgeFaultTests s).rest = s.rest ∧ (fridgeFaultTests s).setup = s.setup ∧
    (fridgeFaultTests s).store = s.store ∧ (fridgeFaultTests s).power = s.power ∧ (fridgeFaultTests s).ret = s.ret ∧
    (fridgeFaultTests s).tables = s.tables ∧ (fridgeFaultTests s).pending = s.pending := by
  unfold fridgeFaultTests; try dsimp only
  first | (simp [State.ite_frame]; done) | ((repeat' split) <;> simp [State.ite_frame])

@[simp] theorem fridgeNews_frame (s : State) :
    (fridgeNews s).phase = s.phase ∧ (fridgeNews s).signals = s.signals ∧ (fridgeNews s).egress = s.egress ∧
    (fridgeNews s).tx = s.tx ∧ (fridgeNews s).rx = s.rx ∧ (fridgeNews s).nodes = s.nodes ∧
    (fridgeNews s).panel = s.panel ∧ (fridgeNews s).energy = s.energy ∧ (fridgeNews s).lights = s.lights ∧
    (fridgeNews s).rest = s.rest ∧ (fridgeNews s).setup = s.setup ∧ (fridgeNews s).store = s.store ∧
    (fridgeNews s).power = s.power ∧ (fridgeNews s).ret = s.ret ∧ (fridgeNews s).tables = s.tables ∧
    (fridgeNews s).pending = s.pending := by
  unfold fridgeNews; try dsimp only
  first | (simp [State.ite_frame]; done) | ((repeat' split) <;> simp [State.ite_frame])

@[simp] theorem fridgeRefresh_frame (s : State) :
    (fridgeRefresh s).phase = s.phase ∧ (fridgeRefresh s).signals = s.signals ∧ (fridgeRefresh s).egress = s.egress ∧
    (fridgeRefresh s).tx = s.tx ∧ (fridgeRefresh s).rx = s.rx ∧ (fridgeRefresh s).nodes = s.nodes ∧
    (fridgeRefresh s).panel = s.panel ∧ (fridgeRefresh s).energy = s.energy ∧ (fridgeRefresh s).lights = s.lights ∧
    (fridgeRefresh s).rest = s.rest ∧ (fridgeRefresh s).setup = s.setup ∧ (fridgeRefresh s).store = s.store ∧
    (fridgeRefresh s).power = s.power ∧ (fridgeRefresh s).ret = s.ret ∧ (fridgeRefresh s).tables = s.tables ∧
    (fridgeRefresh s).pending = s.pending := by
  unfold fridgeRefresh; try dsimp only
  first | (simp [State.ite_frame]; done) | ((repeat' split) <;> simp [State.ite_frame])

@[simp] theorem fridgeProtectTest_frame (s : State) :
    (fridgeProtectTest s).phase = s.phase ∧ (fridgeProtectTest s).signals = s.signals ∧
    (fridgeProtectTest s).egress = s.egress ∧ (fridgeProtectTest s).tx = s.tx ∧ (fridgeProtectTest s).rx = s.rx ∧
    (fridgeProtectTest s).nodes = s.nodes ∧ (fridgeProtectTest s).panel = s.panel ∧
    (fridgeProtectTest s).roster = s.roster ∧ (fridgeProtectTest s).energy = s.energy ∧
    (fridgeProtectTest s).heater = s.heater ∧ (fridgeProtectTest s).lights = s.lights ∧
    (fridgeProtectTest s).rest = s.rest ∧ (fridgeProtectTest s).setup = s.setup ∧
    (fridgeProtectTest s).store = s.store ∧ (fridgeProtectTest s).power = s.power ∧
    (fridgeProtectTest s).ret = s.ret ∧ (fridgeProtectTest s).tables = s.tables ∧
    (fridgeProtectTest s).pending = s.pending := by
  unfold fridgeProtectTest; try dsimp only
  first | (simp [State.ite_frame]; done) | ((repeat' split) <;> simp [State.ite_frame])

@[simp] theorem fridgeMessage_frame (s : State) :
    (fridgeMessage s).phase = s.phase ∧ (fridgeMessage s).signals = s.signals ∧ (fridgeMessage s).egress = s.egress ∧
    (fridgeMessage s).tx = s.tx ∧ (fridgeMessage s).rx = s.rx ∧ (fridgeMessage s).nodes = s.nodes ∧
    (fridgeMessage s).panel = s.panel ∧ (fridgeMessage s).energy = s.energy ∧ (fridgeMessage s).lights = s.lights ∧
    (fridgeMessage s).rest = s.rest ∧ (fridgeMessage s).setup = s.setup ∧ (fridgeMessage s).store = s.store ∧
    (fridgeMessage s).power = s.power ∧ (fridgeMessage s).ret = s.ret ∧ (fridgeMessage s).tables = s.tables ∧
    (fridgeMessage s).pending = s.pending := by
  unfold fridgeMessage; try dsimp only
  first | (simp [State.ite_frame]; done) | ((repeat' split) <;> simp [State.ite_frame])

@[simp] theorem fridgeNodeLeft_frame (s : State) :
    (fridgeNodeLeft s).phase = s.phase ∧ (fridgeNodeLeft s).signals = s.signals ∧
    (fridgeNodeLeft s).egress = s.egress ∧ (fridgeNodeLeft s).tx = s.tx ∧ (fridgeNodeLeft s).rx = s.rx ∧
    (fridgeNodeLeft s).nodes = s.nodes ∧ (fridgeNodeLeft s).panel = s.panel ∧ (fridgeNodeLeft s).energy = s.energy ∧
    (fridgeNodeLeft s).lights = s.lights ∧ (fridgeNodeLeft s).rest = s.rest ∧ (fridgeNodeLeft s).setup = s.setup ∧
    (fridgeNodeLeft s).store = s.store ∧ (fridgeNodeLeft s).power = s.power ∧ (fridgeNodeLeft s).ret = s.ret ∧
    (fridgeNodeLeft s).tables = s.tables ∧ (fridgeNodeLeft s).pending = s.pending := by
  unfold fridgeNodeLeft; try dsimp only
  first | (simp [State.ite_frame]; done) | ((repeat' split) <;> simp [State.ite_frame])

@[simp] theorem fridgeShed_frame (s : State) :
    (fridgeShed s).phase = s.phase ∧ (fridgeShed s).bus = s.bus ∧ (fridgeShed s).signals = s.signals ∧
    (fridgeShed s).egress = s.egress ∧ (fridgeShed s).tx = s.tx ∧ (fridgeShed s).rx = s.rx ∧
    (fridgeShed s).nodes = s.nodes ∧ (fridgeShed s).panel = s.panel ∧ (fridgeShed s).energy = s.energy ∧
    (fridgeShed s).heater = s.heater ∧ (fridgeShed s).lights = s.lights ∧ (fridgeShed s).rest = s.rest ∧
    (fridgeShed s).setup = s.setup ∧ (fridgeShed s).store = s.store ∧ (fridgeShed s).notices = s.notices ∧
    (fridgeShed s).power = s.power ∧ (fridgeShed s).ret = s.ret ∧ (fridgeShed s).tables = s.tables ∧
    (fridgeShed s).pending = s.pending := by
  unfold fridgeShed; try dsimp only
  first | (simp [State.ite_frame]; done) | ((repeat' split) <;> simp [State.ite_frame])

@[simp] theorem setFridgeMode_frame (on : Bool) (s : State) :
    (setFridgeMode on s).phase = s.phase ∧ (setFridgeMode on s).signals = s.signals ∧
    (setFridgeMode on s).egress = s.egress ∧ (setFridgeMode on s).tx = s.tx ∧ (setFridgeMode on s).rx = s.rx ∧
    (setFridgeMode on s).nodes = s.nodes ∧ (setFridgeMode on s).panel = s.panel ∧
    (setFridgeMode on s).energy = s.energy ∧ (setFridgeMode on s).lights = s.lights ∧
    (setFridgeMode on s).rest = s.rest ∧ (setFridgeMode on s).setup = s.setup ∧
    (setFridgeMode on s).store = s.store ∧ (setFridgeMode on s).power = s.power ∧ (setFridgeMode on s).ret = s.ret ∧
    (setFridgeMode on s).tables = s.tables ∧ (setFridgeMode on s).pending = s.pending := by
  unfold setFridgeMode; try dsimp only
  first | (simp [State.ite_frame]; done) | ((repeat' split) <;> simp [State.ite_frame])

@[simp] theorem fridgeSet_frame (v : ℤ) (s : State) :
    (fridgeSet v s).phase = s.phase ∧ (fridgeSet v s).signals = s.signals ∧ (fridgeSet v s).egress = s.egress ∧
    (fridgeSet v s).tx = s.tx ∧ (fridgeSet v s).rx = s.rx ∧ (fridgeSet v s).nodes = s.nodes ∧
    (fridgeSet v s).panel = s.panel ∧ (fridgeSet v s).energy = s.energy ∧ (fridgeSet v s).lights = s.lights ∧
    (fridgeSet v s).rest = s.rest ∧ (fridgeSet v s).setup = s.setup ∧ (fridgeSet v s).store = s.store ∧
    (fridgeSet v s).power = s.power ∧ (fridgeSet v s).ret = s.ret ∧ (fridgeSet v s).tables = s.tables ∧
    (fridgeSet v s).pending = s.pending := by
  unfold fridgeSet; try dsimp only
  first | (simp [State.ite_frame]; done) | ((repeat' split) <;> simp [State.ite_frame])

@[simp] theorem fridgeTick_frame (surplus : Bool) (s : State) :
    (fridgeTick surplus s).phase = s.phase ∧ (fridgeTick surplus s).signals = s.signals ∧
    (fridgeTick surplus s).egress = s.egress ∧ (fridgeTick surplus s).tx = s.tx ∧ (fridgeTick surplus s).rx = s.rx ∧
    (fridgeTick surplus s).nodes = s.nodes ∧ (fridgeTick surplus s).panel = s.panel ∧
    (fridgeTick surplus s).energy = s.energy ∧ (fridgeTick surplus s).lights = s.lights ∧
    (fridgeTick surplus s).rest = s.rest ∧ (fridgeTick surplus s).setup = s.setup ∧
    (fridgeTick surplus s).store = s.store ∧ (fridgeTick surplus s).power = s.power ∧
    (fridgeTick surplus s).ret = s.ret ∧ (fridgeTick surplus s).tables = s.tables ∧
    (fridgeTick surplus s).pending = s.pending := by
  unfold fridgeTick; try dsimp only
  first | (simp [State.ite_frame]; done) | ((repeat' split) <;> simp [State.ite_frame])

@[simp] theorem minimumOnExpires_frame (s : State) :
    (minimumOnExpires s).phase = s.phase ∧ (minimumOnExpires s).bus = s.bus ∧
    (minimumOnExpires s).signals = s.signals ∧ (minimumOnExpires s).egress = s.egress ∧
    (minimumOnExpires s).tx = s.tx ∧ (minimumOnExpires s).rx = s.rx ∧ (minimumOnExpires s).nodes = s.nodes ∧
    (minimumOnExpires s).panel = s.panel ∧ (minimumOnExpires s).energy = s.energy ∧
    (minimumOnExpires s).lights = s.lights ∧ (minimumOnExpires s).rest = s.rest ∧
    (minimumOnExpires s).setup = s.setup ∧ (minimumOnExpires s).store = s.store ∧
    (minimumOnExpires s).notices = s.notices ∧ (minimumOnExpires s).power = s.power ∧
    (minimumOnExpires s).ret = s.ret ∧ (minimumOnExpires s).tables = s.tables ∧
    (minimumOnExpires s).pending = s.pending := by
  unfold minimumOnExpires; try dsimp only
  first | (simp [State.ite_frame]; done) | ((repeat' split) <;> simp [State.ite_frame])

@[simp] theorem minimumOffExpires_frame (s : State) :
    (minimumOffExpires s).phase = s.phase ∧ (minimumOffExpires s).bus = s.bus ∧
    (minimumOffExpires s).signals = s.signals ∧ (minimumOffExpires s).egress = s.egress ∧
    (minimumOffExpires s).tx = s.tx ∧ (minimumOffExpires s).rx = s.rx ∧ (minimumOffExpires s).nodes = s.nodes ∧
    (minimumOffExpires s).panel = s.panel ∧ (minimumOffExpires s).energy = s.energy ∧
    (minimumOffExpires s).lights = s.lights ∧ (minimumOffExpires s).rest = s.rest ∧
    (minimumOffExpires s).setup = s.setup ∧ (minimumOffExpires s).store = s.store ∧
    (minimumOffExpires s).notices = s.notices ∧ (minimumOffExpires s).power = s.power ∧
    (minimumOffExpires s).ret = s.ret ∧ (minimumOffExpires s).tables = s.tables ∧
    (minimumOffExpires s).pending = s.pending := by
  unfold minimumOffExpires; try dsimp only
  first | (simp [State.ite_frame]; done) | ((repeat' split) <;> simp [State.ite_frame])

@[simp] theorem surgeHoldExpires_frame (s : State) :
    (surgeHoldExpires s).phase = s.phase ∧ (surgeHoldExpires s).bus = s.bus ∧
    (surgeHoldExpires s).signals = s.signals ∧ (surgeHoldExpires s).egress = s.egress ∧
    (surgeHoldExpires s).tx = s.tx ∧ (surgeHoldExpires s).rx = s.rx ∧ (surgeHoldExpires s).nodes = s.nodes ∧
    (surgeHoldExpires s).panel = s.panel ∧ (surgeHoldExpires s).energy = s.energy ∧
    (surgeHoldExpires s).lights = s.lights ∧ (surgeHoldExpires s).rest = s.rest ∧
    (surgeHoldExpires s).setup = s.setup ∧ (surgeHoldExpires s).store = s.store ∧
    (surgeHoldExpires s).notices = s.notices ∧ (surgeHoldExpires s).power = s.power ∧
    (surgeHoldExpires s).ret = s.ret ∧ (surgeHoldExpires s).tables = s.tables ∧
    (surgeHoldExpires s).pending = s.pending := by
  unfold surgeHoldExpires; try dsimp only
  first | (simp [State.ite_frame]; done) | ((repeat' split) <;> simp [State.ite_frame])

@[simp] theorem protectExpires_frame (s : State) :
    (protectExpires s).phase = s.phase ∧ (protectExpires s).signals = s.signals ∧
    (protectExpires s).egress = s.egress ∧ (protectExpires s).tx = s.tx ∧ (protectExpires s).rx = s.rx ∧
    (protectExpires s).nodes = s.nodes ∧ (protectExpires s).panel = s.panel ∧ (protectExpires s).roster = s.roster ∧
    (protectExpires s).energy = s.energy ∧ (protectExpires s).heater = s.heater ∧
    (protectExpires s).lights = s.lights ∧ (protectExpires s).rest = s.rest ∧ (protectExpires s).setup = s.setup ∧
    (protectExpires s).store = s.store ∧ (protectExpires s).power = s.power ∧ (protectExpires s).ret = s.ret ∧
    (protectExpires s).tables = s.tables ∧ (protectExpires s).pending = s.pending := by
  unfold protectExpires; try dsimp only
  first | (simp [State.ite_frame]; done) | ((repeat' split) <;> simp [State.ite_frame])

@[simp] theorem fridgeStartUp_frame (s : State) :
    (fridgeStartUp s).phase = s.phase ∧ (fridgeStartUp s).bus = s.bus ∧ (fridgeStartUp s).signals = s.signals ∧
    (fridgeStartUp s).egress = s.egress ∧ (fridgeStartUp s).tx = s.tx ∧ (fridgeStartUp s).rx = s.rx ∧
    (fridgeStartUp s).nodes = s.nodes ∧ (fridgeStartUp s).panel = s.panel ∧ (fridgeStartUp s).energy = s.energy ∧
    (fridgeStartUp s).lights = s.lights ∧ (fridgeStartUp s).rest = s.rest ∧ (fridgeStartUp s).setup = s.setup ∧
    (fridgeStartUp s).store = s.store ∧ (fridgeStartUp s).notices = s.notices ∧ (fridgeStartUp s).power = s.power ∧
    (fridgeStartUp s).ret = s.ret ∧ (fridgeStartUp s).tables = s.tables ∧ (fridgeStartUp s).pending = s.pending := by
  unfold fridgeStartUp; try dsimp only
  first | (simp [State.ite_frame]; done) | ((repeat' split) <;> simp [State.ite_frame])

end Sys2Proof.Machine
end

