-- ==== Sys2Proof/Laws/FrameRest.lean ====
section
/-! SUPPORT. Laws/FrameRest.lean: which blocks of the state each operation leaves as they are: the lights and the rest clock. -/

namespace Sys2Proof.Machine

@[simp] theorem lightTest_frame (i : ℕ) (s : State) :
    (lightTest i s).phase = s.phase ∧ (lightTest i s).bus = s.bus ∧ (lightTest i s).signals = s.signals ∧
    (lightTest i s).egress = s.egress ∧ (lightTest i s).tx = s.tx ∧ (lightTest i s).rx = s.rx ∧
    (lightTest i s).nodes = s.nodes ∧ (lightTest i s).panel = s.panel ∧ (lightTest i s).energy = s.energy ∧
    (lightTest i s).lights = s.lights ∧ (lightTest i s).rest = s.rest ∧ (lightTest i s).setup = s.setup ∧
    (lightTest i s).store = s.store ∧ (lightTest i s).notices = s.notices ∧ (lightTest i s).power = s.power ∧
    (lightTest i s).ret = s.ret ∧ (lightTest i s).tables = s.tables ∧ (lightTest i s).pending = s.pending := by
  unfold lightTest; try dsimp only
  first | (simp [State.ite_frame]; done) | ((repeat' split) <;> simp [State.ite_frame])

@[simp] theorem lightTests_frame (s : State) :
    (lightTests s).phase = s.phase ∧ (lightTests s).bus = s.bus ∧ (lightTests s).signals = s.signals ∧
    (lightTests s).egress = s.egress ∧ (lightTests s).tx = s.tx ∧ (lightTests s).rx = s.rx ∧
    (lightTests s).nodes = s.nodes ∧ (lightTests s).panel = s.panel ∧ (lightTests s).energy = s.energy ∧
    (lightTests s).lights = s.lights ∧ (lightTests s).rest = s.rest ∧ (lightTests s).setup = s.setup ∧
    (lightTests s).store = s.store ∧ (lightTests s).notices = s.notices ∧ (lightTests s).power = s.power ∧
    (lightTests s).ret = s.ret ∧ (lightTests s).tables = s.tables ∧ (lightTests s).pending = s.pending := by
  unfold lightTests; try dsimp only
  first | (simp [State.ite_frame]; done) | ((repeat' split) <;> simp [State.ite_frame])

@[simp] theorem sceneAction_frame (n : ℕ) (s : State) :
    (sceneAction n s).phase = s.phase ∧ (sceneAction n s).bus = s.bus ∧ (sceneAction n s).signals = s.signals ∧
    (sceneAction n s).egress = s.egress ∧ (sceneAction n s).tx = s.tx ∧ (sceneAction n s).rx = s.rx ∧
    (sceneAction n s).nodes = s.nodes ∧ (sceneAction n s).panel = s.panel ∧ (sceneAction n s).energy = s.energy ∧
    (sceneAction n s).rest = s.rest ∧ (sceneAction n s).setup = s.setup ∧ (sceneAction n s).store = s.store ∧
    (sceneAction n s).notices = s.notices ∧ (sceneAction n s).power = s.power ∧ (sceneAction n s).ret = s.ret ∧
    (sceneAction n s).tables = s.tables ∧ (sceneAction n s).pending = s.pending := by
  unfold sceneAction; try dsimp only
  first | (simp [State.ite_frame]; done) | ((repeat' split) <;> simp [State.ite_frame])

@[simp] theorem lightsOff_frame (s : State) :
    (lightsOff s).phase = s.phase ∧ (lightsOff s).bus = s.bus ∧ (lightsOff s).signals = s.signals ∧
    (lightsOff s).egress = s.egress ∧ (lightsOff s).tx = s.tx ∧ (lightsOff s).rx = s.rx ∧
    (lightsOff s).nodes = s.nodes ∧ (lightsOff s).panel = s.panel ∧ (lightsOff s).energy = s.energy ∧
    (lightsOff s).rest = s.rest ∧ (lightsOff s).setup = s.setup ∧ (lightsOff s).store = s.store ∧
    (lightsOff s).notices = s.notices ∧ (lightsOff s).power = s.power ∧ (lightsOff s).ret = s.ret ∧
    (lightsOff s).tables = s.tables ∧ (lightsOff s).pending = s.pending := by
  unfold lightsOff; try dsimp only
  first | (simp [State.ite_frame]; done) | ((repeat' split) <;> simp [State.ite_frame])

@[simp] theorem lightStep_frame (d : ℤ) (s : State) :
    (lightStep d s).phase = s.phase ∧ (lightStep d s).bus = s.bus ∧ (lightStep d s).signals = s.signals ∧
    (lightStep d s).egress = s.egress ∧ (lightStep d s).tx = s.tx ∧ (lightStep d s).rx = s.rx ∧
    (lightStep d s).nodes = s.nodes ∧ (lightStep d s).panel = s.panel ∧ (lightStep d s).energy = s.energy ∧
    (lightStep d s).rest = s.rest ∧ (lightStep d s).setup = s.setup ∧ (lightStep d s).store = s.store ∧
    (lightStep d s).notices = s.notices ∧ (lightStep d s).power = s.power ∧ (lightStep d s).ret = s.ret ∧
    (lightStep d s).tables = s.tables ∧ (lightStep d s).pending = s.pending := by
  unfold lightStep; try dsimp only
  first | (simp [State.ite_frame]; done) | ((repeat' split) <;> simp [State.ite_frame])

@[simp] theorem sunriseStart_frame (lead : ℕ) (s : State) :
    (sunriseStart lead s).phase = s.phase ∧ (sunriseStart lead s).bus = s.bus ∧
    (sunriseStart lead s).signals = s.signals ∧ (sunriseStart lead s).egress = s.egress ∧
    (sunriseStart lead s).tx = s.tx ∧ (sunriseStart lead s).rx = s.rx ∧ (sunriseStart lead s).nodes = s.nodes ∧
    (sunriseStart lead s).panel = s.panel ∧ (sunriseStart lead s).energy = s.energy ∧
    (sunriseStart lead s).rest = s.rest ∧ (sunriseStart lead s).setup = s.setup ∧
    (sunriseStart lead s).store = s.store ∧ (sunriseStart lead s).notices = s.notices ∧
    (sunriseStart lead s).power = s.power ∧ (sunriseStart lead s).ret = s.ret ∧
    (sunriseStart lead s).tables = s.tables ∧ (sunriseStart lead s).pending = s.pending := by
  unfold sunriseStart; try dsimp only
  first | (simp [State.ite_frame]; done) | ((repeat' split) <;> simp [State.ite_frame])

@[simp] theorem freeOverlay_frame (r : ℕ) (s : State) :
    (freeOverlay r s).phase = s.phase ∧ (freeOverlay r s).bus = s.bus ∧ (freeOverlay r s).signals = s.signals ∧
    (freeOverlay r s).egress = s.egress ∧ (freeOverlay r s).tx = s.tx ∧ (freeOverlay r s).rx = s.rx ∧
    (freeOverlay r s).nodes = s.nodes ∧ (freeOverlay r s).panel = s.panel ∧ (freeOverlay r s).roster = s.roster ∧
    (freeOverlay r s).energy = s.energy ∧ (freeOverlay r s).heater = s.heater ∧ (freeOverlay r s).fridge = s.fridge ∧
    (freeOverlay r s).rest = s.rest ∧ (freeOverlay r s).setup = s.setup ∧ (freeOverlay r s).store = s.store ∧
    (freeOverlay r s).notices = s.notices ∧ (freeOverlay r s).power = s.power ∧ (freeOverlay r s).ret = s.ret ∧
    (freeOverlay r s).tables = s.tables ∧ (freeOverlay r s).pending = s.pending := by
  unfold freeOverlay; try dsimp only
  first | (simp [State.ite_frame]; done) | ((repeat' split) <;> simp [State.ite_frame])

@[simp] theorem overlayStart_frame (o : Overlay) (s : State) :
    (overlayStart o s).phase = s.phase ∧ (overlayStart o s).bus = s.bus ∧ (overlayStart o s).signals = s.signals ∧
    (overlayStart o s).egress = s.egress ∧ (overlayStart o s).tx = s.tx ∧ (overlayStart o s).rx = s.rx ∧
    (overlayStart o s).nodes = s.nodes ∧ (overlayStart o s).panel = s.panel ∧ (overlayStart o s).roster = s.roster ∧
    (overlayStart o s).energy = s.energy ∧ (overlayStart o s).heater = s.heater ∧
    (overlayStart o s).fridge = s.fridge ∧ (overlayStart o s).rest = s.rest ∧ (overlayStart o s).setup = s.setup ∧
    (overlayStart o s).store = s.store ∧ (overlayStart o s).notices = s.notices ∧
    (overlayStart o s).power = s.power ∧ (overlayStart o s).ret = s.ret ∧ (overlayStart o s).tables = s.tables ∧
    (overlayStart o s).pending = s.pending := by
  unfold overlayStart; try dsimp only
  first | (simp [State.ite_frame]; done) | ((repeat' split) <;> simp [State.ite_frame])

@[simp] theorem overlayEnd_frame (kind : ℕ) (index : ℕ) (s : State) :
    (overlayEnd kind index s).phase = s.phase ∧ (overlayEnd kind index s).bus = s.bus ∧
    (overlayEnd kind index s).signals = s.signals ∧ (overlayEnd kind index s).egress = s.egress ∧
    (overlayEnd kind index s).tx = s.tx ∧ (overlayEnd kind index s).rx = s.rx ∧
    (overlayEnd kind index s).nodes = s.nodes ∧ (overlayEnd kind index s).panel = s.panel ∧
    (overlayEnd kind index s).roster = s.roster ∧ (overlayEnd kind index s).energy = s.energy ∧
    (overlayEnd kind index s).heater = s.heater ∧ (overlayEnd kind index s).fridge = s.fridge ∧
    (overlayEnd kind index s).rest = s.rest ∧ (overlayEnd kind index s).setup = s.setup ∧
    (overlayEnd kind index s).store = s.store ∧ (overlayEnd kind index s).notices = s.notices ∧
    (overlayEnd kind index s).power = s.power ∧ (overlayEnd kind index s).ret = s.ret ∧
    (overlayEnd kind index s).tables = s.tables ∧ (overlayEnd kind index s).pending = s.pending := by
  unfold overlayEnd; try dsimp only
  first | (simp [State.ite_frame]; done) | ((repeat' split) <;> simp [State.ite_frame])

@[simp] theorem cycleStep_frame (s : State) :
    (cycleStep s).phase = s.phase ∧ (cycleStep s).bus = s.bus ∧ (cycleStep s).signals = s.signals ∧
    (cycleStep s).egress = s.egress ∧ (cycleStep s).tx = s.tx ∧ (cycleStep s).rx = s.rx ∧
    (cycleStep s).nodes = s.nodes ∧ (cycleStep s).energy = s.energy ∧ (cycleStep s).rest = s.rest ∧
    (cycleStep s).setup = s.setup ∧ (cycleStep s).store = s.store ∧ (cycleStep s).notices = s.notices ∧
    (cycleStep s).power = s.power ∧ (cycleStep s).ret = s.ret ∧ (cycleStep s).tables = s.tables ∧
    (cycleStep s).pending = s.pending := by
  unfold cycleStep; try dsimp only
  first | (simp [State.ite_frame]; done) | ((repeat' split) <;> simp [State.ite_frame])

@[simp] theorem lightShed_frame (i : ℕ) (s : State) :
    (lightShed i s).phase = s.phase ∧ (lightShed i s).bus = s.bus ∧ (lightShed i s).signals = s.signals ∧
    (lightShed i s).egress = s.egress ∧ (lightShed i s).tx = s.tx ∧ (lightShed i s).rx = s.rx ∧
    (lightShed i s).nodes = s.nodes ∧ (lightShed i s).panel = s.panel ∧ (lightShed i s).energy = s.energy ∧
    (lightShed i s).heater = s.heater ∧ (lightShed i s).fridge = s.fridge ∧ (lightShed i s).lights = s.lights ∧
    (lightShed i s).rest = s.rest ∧ (lightShed i s).setup = s.setup ∧ (lightShed i s).store = s.store ∧
    (lightShed i s).notices = s.notices ∧ (lightShed i s).power = s.power ∧ (lightShed i s).ret = s.ret ∧
    (lightShed i s).tables = s.tables ∧ (lightShed i s).pending = s.pending := by
  unfold lightShed; try dsimp only
  first | (simp [State.ite_frame]; done) | ((repeat' split) <;> simp [State.ite_frame])

@[simp] theorem lightRestOpened_frame (s : State) :
    (lightRestOpened s).phase = s.phase ∧ (lightRestOpened s).bus = s.bus ∧
    (lightRestOpened s).signals = s.signals ∧ (lightRestOpened s).egress = s.egress ∧
    (lightRestOpened s).tx = s.tx ∧ (lightRestOpened s).rx = s.rx ∧ (lightRestOpened s).nodes = s.nodes ∧
    (lightRestOpened s).panel = s.panel ∧ (lightRestOpened s).roster = s.roster ∧
    (lightRestOpened s).energy = s.energy ∧ (lightRestOpened s).heater = s.heater ∧
    (lightRestOpened s).fridge = s.fridge ∧ (lightRestOpened s).rest = s.rest ∧
    (lightRestOpened s).setup = s.setup ∧ (lightRestOpened s).store = s.store ∧
    (lightRestOpened s).notices = s.notices ∧ (lightRestOpened s).power = s.power ∧
    (lightRestOpened s).ret = s.ret ∧ (lightRestOpened s).tables = s.tables ∧
    (lightRestOpened s).pending = s.pending := by
  simp [lightRestOpened]

@[simp] theorem lightRestChanged_frame (s : State) :
    (lightRestChanged s).phase = s.phase ∧ (lightRestChanged s).bus = s.bus ∧
    (lightRestChanged s).signals = s.signals ∧ (lightRestChanged s).egress = s.egress ∧
    (lightRestChanged s).tx = s.tx ∧ (lightRestChanged s).rx = s.rx ∧ (lightRestChanged s).nodes = s.nodes ∧
    (lightRestChanged s).panel = s.panel ∧ (lightRestChanged s).roster = s.roster ∧
    (lightRestChanged s).energy = s.energy ∧ (lightRestChanged s).heater = s.heater ∧
    (lightRestChanged s).fridge = s.fridge ∧ (lightRestChanged s).rest = s.rest ∧
    (lightRestChanged s).setup = s.setup ∧ (lightRestChanged s).store = s.store ∧
    (lightRestChanged s).notices = s.notices ∧ (lightRestChanged s).power = s.power ∧
    (lightRestChanged s).ret = s.ret ∧ (lightRestChanged s).tables = s.tables ∧
    (lightRestChanged s).pending = s.pending := by
  unfold lightRestChanged; try dsimp only
  first | (simp [State.ite_frame]; done) | ((repeat' split) <;> simp [State.ite_frame])

@[simp] theorem lightFaults_frame (p : ℕ) (s : State) :
    (lightFaults p s).phase = s.phase ∧ (lightFaults p s).bus = s.bus ∧ (lightFaults p s).signals = s.signals ∧
    (lightFaults p s).egress = s.egress ∧ (lightFaults p s).tx = s.tx ∧ (lightFaults p s).rx = s.rx ∧
    (lightFaults p s).nodes = s.nodes ∧ (lightFaults p s).panel = s.panel ∧ (lightFaults p s).roster = s.roster ∧
    (lightFaults p s).energy = s.energy ∧ (lightFaults p s).heater = s.heater ∧ (lightFaults p s).fridge = s.fridge ∧
    (lightFaults p s).rest = s.rest ∧ (lightFaults p s).setup = s.setup ∧ (lightFaults p s).store = s.store ∧
    (lightFaults p s).notices = s.notices ∧ (lightFaults p s).power = s.power ∧ (lightFaults p s).ret = s.ret ∧
    (lightFaults p s).tables = s.tables ∧ (lightFaults p s).pending = s.pending := by
  unfold lightFaults; try dsimp only
  first | (simp [State.ite_frame]; done) | ((repeat' split) <;> simp [State.ite_frame])

@[simp] theorem lightSleep_frame (s : State) :
    (lightSleep s).phase = s.phase ∧ (lightSleep s).bus = s.bus ∧ (lightSleep s).signals = s.signals ∧
    (lightSleep s).egress = s.egress ∧ (lightSleep s).tx = s.tx ∧ (lightSleep s).rx = s.rx ∧
    (lightSleep s).nodes = s.nodes ∧ (lightSleep s).panel = s.panel ∧ (lightSleep s).roster = s.roster ∧
    (lightSleep s).energy = s.energy ∧ (lightSleep s).heater = s.heater ∧ (lightSleep s).fridge = s.fridge ∧
    (lightSleep s).rest = s.rest ∧ (lightSleep s).setup = s.setup ∧ (lightSleep s).store = s.store ∧
    (lightSleep s).notices = s.notices ∧ (lightSleep s).power = s.power ∧ (lightSleep s).ret = s.ret ∧
    (lightSleep s).tables = s.tables ∧ (lightSleep s).pending = s.pending := by
  unfold lightSleep; try dsimp only
  first | (simp [State.ite_frame]; done) | ((repeat' split) <;> simp [State.ite_frame])

@[simp] theorem enqueue_frame (w : Warning) (s : State) :
    (enqueue w s).phase = s.phase ∧ (enqueue w s).bus = s.bus ∧ (enqueue w s).signals = s.signals ∧
    (enqueue w s).egress = s.egress ∧ (enqueue w s).tx = s.tx ∧ (enqueue w s).rx = s.rx ∧
    (enqueue w s).nodes = s.nodes ∧ (enqueue w s).panel = s.panel ∧ (enqueue w s).roster = s.roster ∧
    (enqueue w s).energy = s.energy ∧ (enqueue w s).heater = s.heater ∧ (enqueue w s).fridge = s.fridge ∧
    (enqueue w s).lights = s.lights ∧ (enqueue w s).setup = s.setup ∧ (enqueue w s).store = s.store ∧
    (enqueue w s).notices = s.notices ∧ (enqueue w s).power = s.power ∧ (enqueue w s).tables = s.tables ∧
    (enqueue w s).pending = s.pending := by
  unfold enqueue; try dsimp only
  first | (simp [State.ite_frame]; done) | ((repeat' split) <;> simp [State.ite_frame])

@[simp] theorem removeKind_frame (k : WarnKind) (s : State) :
    (removeKind k s).phase = s.phase ∧ (removeKind k s).bus = s.bus ∧ (removeKind k s).signals = s.signals ∧
    (removeKind k s).egress = s.egress ∧ (removeKind k s).tx = s.tx ∧ (removeKind k s).rx = s.rx ∧
    (removeKind k s).nodes = s.nodes ∧ (removeKind k s).panel = s.panel ∧ (removeKind k s).roster = s.roster ∧
    (removeKind k s).energy = s.energy ∧ (removeKind k s).heater = s.heater ∧ (removeKind k s).fridge = s.fridge ∧
    (removeKind k s).lights = s.lights ∧ (removeKind k s).rest = s.rest ∧ (removeKind k s).setup = s.setup ∧
    (removeKind k s).store = s.store ∧ (removeKind k s).notices = s.notices ∧ (removeKind k s).power = s.power ∧
    (removeKind k s).tables = s.tables ∧ (removeKind k s).pending = s.pending := by
  unfold removeKind; try dsimp only
  first | (simp [State.ite_frame]; done) | ((repeat' split) <;> simp [State.ite_frame])

@[simp] theorem refreshIdle_frame (s : State) :
    (refreshIdle s).phase = s.phase ∧ (refreshIdle s).bus = s.bus ∧ (refreshIdle s).signals = s.signals ∧
    (refreshIdle s).egress = s.egress ∧ (refreshIdle s).tx = s.tx ∧ (refreshIdle s).rx = s.rx ∧
    (refreshIdle s).nodes = s.nodes ∧ (refreshIdle s).roster = s.roster ∧ (refreshIdle s).energy = s.energy ∧
    (refreshIdle s).heater = s.heater ∧ (refreshIdle s).fridge = s.fridge ∧ (refreshIdle s).lights = s.lights ∧
    (refreshIdle s).rest = s.rest ∧ (refreshIdle s).setup = s.setup ∧ (refreshIdle s).store = s.store ∧
    (refreshIdle s).notices = s.notices ∧ (refreshIdle s).power = s.power ∧ (refreshIdle s).ret = s.ret ∧
    (refreshIdle s).tables = s.tables ∧ (refreshIdle s).pending = s.pending := by
  unfold refreshIdle; try dsimp only
  first | (simp [State.ite_frame]; done) | ((repeat' split) <;> simp [State.ite_frame])

@[simp] theorem startRepeat_frame (s : State) :
    (startRepeat s).phase = s.phase ∧ (startRepeat s).bus = s.bus ∧ (startRepeat s).signals = s.signals ∧
    (startRepeat s).egress = s.egress ∧ (startRepeat s).tx = s.tx ∧ (startRepeat s).rx = s.rx ∧ (startRepeat
    s).nodes = s.nodes ∧ (startRepeat s).panel = s.panel ∧ (startRepeat s).roster = s.roster ∧ (startRepeat
    s).energy = s.energy ∧ (startRepeat s).heater = s.heater ∧ (startRepeat s).fridge = s.fridge ∧ (startRepeat
    s).lights = s.lights ∧ (startRepeat s).setup = s.setup ∧ (startRepeat s).store = s.store ∧ (startRepeat
    s).notices = s.notices ∧ (startRepeat s).power = s.power ∧ (startRepeat s).ret = s.ret ∧ (startRepeat
    s).tables = s.tables ∧ (startRepeat s).pending = s.pending := by
  simp [startRepeat]

@[simp] theorem strike_frame (s : State) :
    (strike s).phase = s.phase ∧ (strike s).bus = s.bus ∧ (strike s).signals = s.signals ∧
    (strike s).egress = s.egress ∧ (strike s).tx = s.tx ∧ (strike s).rx = s.rx ∧ (strike s).nodes = s.nodes ∧
    (strike s).roster = s.roster ∧ (strike s).energy = s.energy ∧ (strike s).heater = s.heater ∧
    (strike s).fridge = s.fridge ∧ (strike s).lights = s.lights ∧ (strike s).rest = s.rest ∧
    (strike s).setup = s.setup ∧ (strike s).store = s.store ∧ (strike s).notices = s.notices ∧
    (strike s).power = s.power ∧ (strike s).ret = s.ret ∧ (strike s).tables = s.tables ∧
    (strike s).pending = s.pending := by
  unfold strike; try dsimp only
  first | (simp [State.ite_frame]; done) | ((repeat' split) <;> simp [State.ite_frame])

@[simp] theorem endActive_frame (s : State) :
    (endActive s).phase = s.phase ∧ (endActive s).bus = s.bus ∧ (endActive s).signals = s.signals ∧
    (endActive s).egress = s.egress ∧ (endActive s).tx = s.tx ∧ (endActive s).rx = s.rx ∧
    (endActive s).nodes = s.nodes ∧ (endActive s).roster = s.roster ∧ (endActive s).energy = s.energy ∧
    (endActive s).heater = s.heater ∧ (endActive s).fridge = s.fridge ∧ (endActive s).setup = s.setup ∧
    (endActive s).store = s.store ∧ (endActive s).notices = s.notices ∧ (endActive s).power = s.power ∧
    (endActive s).tables = s.tables ∧ (endActive s).pending = s.pending := by
  unfold endActive; try dsimp only
  first | (simp [State.ite_frame]; done) | ((repeat' split) <;> simp [State.ite_frame])

@[simp] theorem endKinds_frame (ks : List WarnKind) (s : State) :
    (endKinds ks s).phase = s.phase ∧ (endKinds ks s).bus = s.bus ∧ (endKinds ks s).signals = s.signals ∧
    (endKinds ks s).egress = s.egress ∧ (endKinds ks s).tx = s.tx ∧ (endKinds ks s).rx = s.rx ∧
    (endKinds ks s).nodes = s.nodes ∧ (endKinds ks s).roster = s.roster ∧ (endKinds ks s).energy = s.energy ∧
    (endKinds ks s).heater = s.heater ∧ (endKinds ks s).fridge = s.fridge ∧ (endKinds ks s).setup = s.setup ∧
    (endKinds ks s).store = s.store ∧ (endKinds ks s).notices = s.notices ∧ (endKinds ks s).power = s.power ∧
    (endKinds ks s).tables = s.tables ∧ (endKinds ks s).pending = s.pending := by
  unfold endKinds; try dsimp only
  first | (simp [State.ite_frame]; done) | ((repeat' split) <;> simp [State.ite_frame])

@[simp] theorem displace_frame (s : State) :
    (displace s).phase = s.phase ∧ (displace s).bus = s.bus ∧ (displace s).signals = s.signals ∧
    (displace s).egress = s.egress ∧ (displace s).tx = s.tx ∧ (displace s).rx = s.rx ∧ (displace s).nodes = s.nodes ∧
    (displace s).roster = s.roster ∧ (displace s).energy = s.energy ∧ (displace s).heater = s.heater ∧
    (displace s).fridge = s.fridge ∧ (displace s).setup = s.setup ∧ (displace s).store = s.store ∧
    (displace s).notices = s.notices ∧ (displace s).power = s.power ∧ (displace s).tables = s.tables ∧
    (displace s).pending = s.pending := by
  unfold displace; try dsimp only
  first | (simp [State.ite_frame]; done) | ((repeat' split) <;> simp [State.ite_frame])

@[simp] theorem formPreheat_frame (s : State) :
    (formPreheat s).phase = s.phase ∧ (formPreheat s).bus = s.bus ∧ (formPreheat s).signals = s.signals ∧
    (formPreheat s).egress = s.egress ∧ (formPreheat s).tx = s.tx ∧ (formPreheat s).rx = s.rx ∧
    (formPreheat s).nodes = s.nodes ∧ (formPreheat s).panel = s.panel ∧ (formPreheat s).roster = s.roster ∧
    (formPreheat s).energy = s.energy ∧ (formPreheat s).heater = s.heater ∧ (formPreheat s).fridge = s.fridge ∧
    (formPreheat s).lights = s.lights ∧ (formPreheat s).setup = s.setup ∧ (formPreheat s).store = s.store ∧
    (formPreheat s).notices = s.notices ∧ (formPreheat s).power = s.power ∧ (formPreheat s).tables = s.tables ∧
    (formPreheat s).pending = s.pending := by
  unfold formPreheat; try dsimp only
  first | (simp [State.ite_frame]; done) | ((repeat' split) <;> simp [State.ite_frame])

@[simp] theorem movePreheat_frame (w : Option ℕ) (s : State) :
    (movePreheat w s).phase = s.phase ∧ (movePreheat w s).bus = s.bus ∧ (movePreheat w s).signals = s.signals ∧
    (movePreheat w s).egress = s.egress ∧ (movePreheat w s).tx = s.tx ∧ (movePreheat w s).rx = s.rx ∧
    (movePreheat w s).nodes = s.nodes ∧ (movePreheat w s).panel = s.panel ∧ (movePreheat w s).energy = s.energy ∧
    (movePreheat w s).lights = s.lights ∧ (movePreheat w s).rest = s.rest ∧ (movePreheat w s).setup = s.setup ∧
    (movePreheat w s).store = s.store ∧ (movePreheat w s).notices = s.notices ∧ (movePreheat w s).power = s.power ∧
    (movePreheat w s).tables = s.tables ∧ (movePreheat w s).pending = s.pending := by
  unfold movePreheat; try dsimp only
  first | (simp [State.ite_frame]; done) | ((repeat' split) <;> simp [State.ite_frame])

@[simp] theorem formWake_frame (s : State) :
    (formWake s).phase = s.phase ∧ (formWake s).bus = s.bus ∧ (formWake s).signals = s.signals ∧
    (formWake s).egress = s.egress ∧ (formWake s).tx = s.tx ∧ (formWake s).rx = s.rx ∧ (formWake s).nodes = s.nodes ∧
    (formWake s).panel = s.panel ∧ (formWake s).roster = s.roster ∧ (formWake s).energy = s.energy ∧
    (formWake s).heater = s.heater ∧ (formWake s).fridge = s.fridge ∧ (formWake s).lights = s.lights ∧
    (formWake s).setup = s.setup ∧ (formWake s).store = s.store ∧ (formWake s).notices = s.notices ∧
    (formWake s).power = s.power ∧ (formWake s).tables = s.tables ∧ (formWake s).pending = s.pending := by
  unfold formWake; try dsimp only
  first | (simp [State.ite_frame]; done) | ((repeat' split) <;> simp [State.ite_frame])

@[simp] theorem formSunrise_frame (s : State) :
    (formSunrise s).phase = s.phase ∧ (formSunrise s).bus = s.bus ∧ (formSunrise s).signals = s.signals ∧
    (formSunrise s).egress = s.egress ∧ (formSunrise s).tx = s.tx ∧ (formSunrise s).rx = s.rx ∧
    (formSunrise s).nodes = s.nodes ∧ (formSunrise s).panel = s.panel ∧ (formSunrise s).roster = s.roster ∧
    (formSunrise s).energy = s.energy ∧ (formSunrise s).heater = s.heater ∧ (formSunrise s).fridge = s.fridge ∧
    (formSunrise s).lights = s.lights ∧ (formSunrise s).setup = s.setup ∧ (formSunrise s).store = s.store ∧
    (formSunrise s).notices = s.notices ∧ (formSunrise s).power = s.power ∧ (formSunrise s).tables = s.tables ∧
    (formSunrise s).pending = s.pending := by
  unfold formSunrise; try dsimp only
  first | (simp [State.ite_frame]; done) | ((repeat' split) <;> simp [State.ite_frame])

@[simp] theorem workOutWake_frame (s : State) :
    (workOutWake s).phase = s.phase ∧ (workOutWake s).bus = s.bus ∧ (workOutWake s).signals = s.signals ∧
    (workOutWake s).egress = s.egress ∧ (workOutWake s).tx = s.tx ∧ (workOutWake s).rx = s.rx ∧
    (workOutWake s).nodes = s.nodes ∧ (workOutWake s).panel = s.panel ∧ (workOutWake s).energy = s.energy ∧
    (workOutWake s).lights = s.lights ∧ (workOutWake s).setup = s.setup ∧ (workOutWake s).store = s.store ∧
    (workOutWake s).notices = s.notices ∧ (workOutWake s).power = s.power ∧ (workOutWake s).tables = s.tables ∧
    (workOutWake s).pending = s.pending := by
  unfold workOutWake; try dsimp only
  first | (simp [State.ite_frame]; done) | ((repeat' split) <;> simp [State.ite_frame])

@[simp] theorem formLead_frame (i : ℕ) (s : State) :
    (formLead i s).phase = s.phase ∧ (formLead i s).bus = s.bus ∧ (formLead i s).signals = s.signals ∧
    (formLead i s).egress = s.egress ∧ (formLead i s).tx = s.tx ∧ (formLead i s).rx = s.rx ∧
    (formLead i s).nodes = s.nodes ∧ (formLead i s).panel = s.panel ∧ (formLead i s).roster = s.roster ∧
    (formLead i s).energy = s.energy ∧ (formLead i s).heater = s.heater ∧ (formLead i s).fridge = s.fridge ∧
    (formLead i s).lights = s.lights ∧ (formLead i s).setup = s.setup ∧ (formLead i s).store = s.store ∧
    (formLead i s).notices = s.notices ∧ (formLead i s).power = s.power ∧ (formLead i s).tables = s.tables ∧
    (formLead i s).pending = s.pending := by
  unfold formLead; try dsimp only
  first | (simp [State.ite_frame]; done) | ((repeat' split) <;> simp [State.ite_frame])

@[simp] theorem formLeads_frame (s : State) :
    (formLeads s).phase = s.phase ∧ (formLeads s).bus = s.bus ∧ (formLeads s).signals = s.signals ∧
    (formLeads s).egress = s.egress ∧ (formLeads s).tx = s.tx ∧ (formLeads s).rx = s.rx ∧
    (formLeads s).nodes = s.nodes ∧ (formLeads s).panel = s.panel ∧ (formLeads s).roster = s.roster ∧
    (formLeads s).energy = s.energy ∧ (formLeads s).heater = s.heater ∧ (formLeads s).fridge = s.fridge ∧
    (formLeads s).lights = s.lights ∧ (formLeads s).setup = s.setup ∧ (formLeads s).store = s.store ∧
    (formLeads s).notices = s.notices ∧ (formLeads s).power = s.power ∧ (formLeads s).tables = s.tables ∧
    (formLeads s).pending = s.pending := by
  unfold formLeads; try dsimp only
  first | (simp [State.ite_frame]; done) | ((repeat' split) <;> simp [State.ite_frame])

@[simp] theorem formBreaks_frame (s : State) :
    (formBreaks s).phase = s.phase ∧ (formBreaks s).bus = s.bus ∧ (formBreaks s).signals = s.signals ∧
    (formBreaks s).egress = s.egress ∧ (formBreaks s).tx = s.tx ∧ (formBreaks s).rx = s.rx ∧
    (formBreaks s).nodes = s.nodes ∧ (formBreaks s).panel = s.panel ∧ (formBreaks s).roster = s.roster ∧
    (formBreaks s).energy = s.energy ∧ (formBreaks s).heater = s.heater ∧ (formBreaks s).fridge = s.fridge ∧
    (formBreaks s).lights = s.lights ∧ (formBreaks s).setup = s.setup ∧ (formBreaks s).store = s.store ∧
    (formBreaks s).notices = s.notices ∧ (formBreaks s).power = s.power ∧ (formBreaks s).tables = s.tables ∧
    (formBreaks s).pending = s.pending := by
  unfold formBreaks; try dsimp only
  first | (simp [State.ite_frame]; done) | ((repeat' split) <;> simp [State.ite_frame])

@[simp] theorem leaveDrive_frame (s : State) :
    (leaveDrive s).phase = s.phase ∧ (leaveDrive s).bus = s.bus ∧ (leaveDrive s).signals = s.signals ∧
    (leaveDrive s).egress = s.egress ∧ (leaveDrive s).tx = s.tx ∧ (leaveDrive s).rx = s.rx ∧
    (leaveDrive s).nodes = s.nodes ∧ (leaveDrive s).roster = s.roster ∧ (leaveDrive s).energy = s.energy ∧
    (leaveDrive s).heater = s.heater ∧ (leaveDrive s).fridge = s.fridge ∧ (leaveDrive s).setup = s.setup ∧
    (leaveDrive s).store = s.store ∧ (leaveDrive s).notices = s.notices ∧ (leaveDrive s).power = s.power ∧
    (leaveDrive s).tables = s.tables ∧ (leaveDrive s).pending = s.pending := by
  unfold leaveDrive; try dsimp only
  first | (simp [State.ite_frame]; done) | ((repeat' split) <;> simp [State.ite_frame])

@[simp] theorem markServed_frame (w : Warning) (s : State) :
    (markServed w s).phase = s.phase ∧ (markServed w s).bus = s.bus ∧ (markServed w s).signals = s.signals ∧
    (markServed w s).egress = s.egress ∧ (markServed w s).tx = s.tx ∧ (markServed w s).rx = s.rx ∧
    (markServed w s).nodes = s.nodes ∧ (markServed w s).panel = s.panel ∧ (markServed w s).energy = s.energy ∧
    (markServed w s).lights = s.lights ∧ (markServed w s).setup = s.setup ∧ (markServed w s).store = s.store ∧
    (markServed w s).notices = s.notices ∧ (markServed w s).power = s.power ∧ (markServed w s).tables = s.tables ∧
    (markServed w s).pending = s.pending := by
  unfold markServed; try dsimp only
  first | (simp [State.ite_frame]; done) | ((repeat' split) <;> simp [State.ite_frame])

@[simp] theorem activate_frame (w : Warning) (s : State) :
    (activate w s).phase = s.phase ∧ (activate w s).bus = s.bus ∧ (activate w s).signals = s.signals ∧
    (activate w s).egress = s.egress ∧ (activate w s).tx = s.tx ∧ (activate w s).rx = s.rx ∧
    (activate w s).nodes = s.nodes ∧ (activate w s).energy = s.energy ∧ (activate w s).setup = s.setup ∧
    (activate w s).store = s.store ∧ (activate w s).notices = s.notices ∧ (activate w s).power = s.power ∧
    (activate w s).tables = s.tables ∧ (activate w s).pending = s.pending := by
  unfold activate; try dsimp only
  first | (simp [State.ite_frame]; done) | ((repeat' split) <;> simp [State.ite_frame])

@[simp] theorem dealWith_frame (w : Warning) (s : State) :
    (dealWith w s).phase = s.phase ∧ (dealWith w s).bus = s.bus ∧ (dealWith w s).signals = s.signals ∧
    (dealWith w s).egress = s.egress ∧ (dealWith w s).tx = s.tx ∧ (dealWith w s).rx = s.rx ∧
    (dealWith w s).nodes = s.nodes ∧ (dealWith w s).energy = s.energy ∧ (dealWith w s).setup = s.setup ∧
    (dealWith w s).store = s.store ∧ (dealWith w s).notices = s.notices ∧ (dealWith w s).power = s.power ∧
    (dealWith w s).tables = s.tables ∧ (dealWith w s).pending = s.pending := by
  unfold dealWith; try dsimp only
  first | (simp [State.ite_frame]; done) | ((repeat' split) <;> simp [State.ite_frame])

@[simp] theorem sweepN_frame (n : Nat) (s : State) :
    (sweepN n s).phase = s.phase ∧ (sweepN n s).bus = s.bus ∧ (sweepN n s).signals = s.signals ∧
    (sweepN n s).egress = s.egress ∧ (sweepN n s).tx = s.tx ∧ (sweepN n s).rx = s.rx ∧ (sweepN n s).nodes = s.nodes ∧
    (sweepN n s).energy = s.energy ∧ (sweepN n s).setup = s.setup ∧ (sweepN n s).store = s.store ∧
    (sweepN n s).notices = s.notices ∧ (sweepN n s).power = s.power ∧ (sweepN n s).tables = s.tables ∧
    (sweepN n s).pending = s.pending := by
  induction n generalizing s with
  | zero => simp [sweepN]
  | succ n ih => unfold sweepN; split <;> simp [ih]

@[simp] theorem restEnd_frame (s : State) :
    (restEnd s).phase = s.phase ∧ (restEnd s).bus = s.bus ∧ (restEnd s).signals = s.signals ∧
    (restEnd s).egress = s.egress ∧ (restEnd s).tx = s.tx ∧ (restEnd s).rx = s.rx ∧ (restEnd s).nodes = s.nodes ∧
    (restEnd s).energy = s.energy ∧ (restEnd s).setup = s.setup ∧ (restEnd s).store = s.store ∧
    (restEnd s).notices = s.notices ∧ (restEnd s).power = s.power ∧ (restEnd s).tables = s.tables ∧
    (restEnd s).pending = s.pending := by
  unfold restEnd; try dsimp only
  first | (simp [State.ite_frame]; done) | ((repeat' split) <;> simp [State.ite_frame])

@[simp] theorem raiseRestState_frame (s : State) :
    (raiseRestState s).phase = s.phase ∧ (raiseRestState s).signals = s.signals ∧
    (raiseRestState s).egress = s.egress ∧ (raiseRestState s).tx = s.tx ∧ (raiseRestState s).rx = s.rx ∧
    (raiseRestState s).nodes = s.nodes ∧ (raiseRestState s).panel = s.panel ∧ (raiseRestState s).roster = s.roster ∧
    (raiseRestState s).energy = s.energy ∧ (raiseRestState s).heater = s.heater ∧
    (raiseRestState s).fridge = s.fridge ∧ (raiseRestState s).lights = s.lights ∧ (raiseRestState s).rest = s.rest ∧
    (raiseRestState s).setup = s.setup ∧ (raiseRestState s).store = s.store ∧ (raiseRestState s).power = s.power ∧
    (raiseRestState s).ret = s.ret ∧ (raiseRestState s).tables = s.tables ∧ (raiseRestState s).pending = s.pending := by
  unfold raiseRestState; try dsimp only
  first | (simp [State.ite_frame]; done) | ((repeat' split) <;> simp [State.ite_frame])

@[simp] theorem judgeStale_frame (s : State) :
    (judgeStale s).phase = s.phase ∧ (judgeStale s).signals = s.signals ∧ (judgeStale s).egress = s.egress ∧
    (judgeStale s).tx = s.tx ∧ (judgeStale s).rx = s.rx ∧ (judgeStale s).nodes = s.nodes ∧
    (judgeStale s).panel = s.panel ∧ (judgeStale s).roster = s.roster ∧ (judgeStale s).energy = s.energy ∧
    (judgeStale s).heater = s.heater ∧ (judgeStale s).fridge = s.fridge ∧ (judgeStale s).lights = s.lights ∧
    (judgeStale s).setup = s.setup ∧ (judgeStale s).store = s.store ∧ (judgeStale s).power = s.power ∧
    (judgeStale s).ret = s.ret ∧ (judgeStale s).tables = s.tables ∧ (judgeStale s).pending = s.pending := by
  unfold judgeStale; try dsimp only
  first | (simp [State.ite_frame]; done) | ((repeat' split) <;> simp [State.ite_frame])

@[simp] theorem checkComplete_frame (s : State) :
    (checkComplete s).phase = s.phase ∧ (checkComplete s).signals = s.signals ∧ (checkComplete s).egress = s.egress ∧
    (checkComplete s).tx = s.tx ∧ (checkComplete s).rx = s.rx ∧ (checkComplete s).nodes = s.nodes ∧
    (checkComplete s).energy = s.energy ∧ (checkComplete s).setup = s.setup ∧ (checkComplete s).store = s.store ∧
    (checkComplete s).power = s.power ∧ (checkComplete s).tables = s.tables ∧ (checkComplete s).pending = s.pending := by
  unfold checkComplete; try dsimp only
  first | (simp [State.ite_frame]; done) | ((repeat' split) <;> simp [State.ite_frame])

@[simp] theorem openRest_frame (s : State) :
    (openRest s).phase = s.phase ∧ (openRest s).signals = s.signals ∧ (openRest s).egress = s.egress ∧
    (openRest s).tx = s.tx ∧ (openRest s).rx = s.rx ∧ (openRest s).nodes = s.nodes ∧ (openRest s).panel = s.panel ∧
    (openRest s).energy = s.energy ∧ (openRest s).setup = s.setup ∧ (openRest s).store = s.store ∧
    (openRest s).power = s.power ∧ (openRest s).tables = s.tables ∧ (openRest s).pending = s.pending := by
  unfold openRest; try dsimp only
  first | (simp [State.ite_frame]; done) | ((repeat' split) <;> simp [State.ite_frame])

@[simp] theorem confirmRest_frame (s : State) :
    (confirmRest s).phase = s.phase ∧ (confirmRest s).signals = s.signals ∧ (confirmRest s).egress = s.egress ∧
    (confirmRest s).tx = s.tx ∧ (confirmRest s).rx = s.rx ∧ (confirmRest s).nodes = s.nodes ∧
    (confirmRest s).energy = s.energy ∧ (confirmRest s).setup = s.setup ∧ (confirmRest s).store = s.store ∧
    (confirmRest s).power = s.power ∧ (confirmRest s).tables = s.tables ∧ (confirmRest s).pending = s.pending := by
  unfold confirmRest; try dsimp only
  first | (simp [State.ite_frame]; done) | ((repeat' split) <;> simp [State.ite_frame])

@[simp] theorem closeRest_frame (s : State) :
    (closeRest s).phase = s.phase ∧ (closeRest s).signals = s.signals ∧ (closeRest s).egress = s.egress ∧
    (closeRest s).tx = s.tx ∧ (closeRest s).rx = s.rx ∧ (closeRest s).nodes = s.nodes ∧
    (closeRest s).energy = s.energy ∧ (closeRest s).setup = s.setup ∧ (closeRest s).store = s.store ∧
    (closeRest s).power = s.power ∧ (closeRest s).tables = s.tables ∧ (closeRest s).pending = s.pending := by
  unfold closeRest; try dsimp only
  first | (simp [State.ite_frame]; done) | ((repeat' split) <;> simp [State.ite_frame])

@[simp] theorem countMinute_frame (s : State) :
    (countMinute s).phase = s.phase ∧ (countMinute s).bus = s.bus ∧ (countMinute s).signals = s.signals ∧
    (countMinute s).egress = s.egress ∧ (countMinute s).tx = s.tx ∧ (countMinute s).rx = s.rx ∧
    (countMinute s).nodes = s.nodes ∧ (countMinute s).panel = s.panel ∧ (countMinute s).roster = s.roster ∧
    (countMinute s).energy = s.energy ∧ (countMinute s).heater = s.heater ∧ (countMinute s).fridge = s.fridge ∧
    (countMinute s).lights = s.lights ∧ (countMinute s).rest = s.rest ∧ (countMinute s).setup = s.setup ∧
    (countMinute s).store = s.store ∧ (countMinute s).notices = s.notices ∧ (countMinute s).power = s.power ∧
    (countMinute s).tables = s.tables ∧ (countMinute s).pending = s.pending := by
  unfold countMinute; try dsimp only
  first | (simp [State.ite_frame]; done) | ((repeat' split) <;> simp [State.ite_frame])

@[simp] theorem restMinute_frame (s : State) :
    (restMinute s).phase = s.phase ∧ (restMinute s).signals = s.signals ∧ (restMinute s).egress = s.egress ∧
    (restMinute s).tx = s.tx ∧ (restMinute s).rx = s.rx ∧ (restMinute s).nodes = s.nodes ∧
    (restMinute s).energy = s.energy ∧ (restMinute s).setup = s.setup ∧ (restMinute s).store = s.store ∧
    (restMinute s).power = s.power ∧ (restMinute s).tables = s.tables ∧ (restMinute s).pending = s.pending := by
  unfold restMinute; try dsimp only
  first | (simp [State.ite_frame]; done) | ((repeat' split) <;> simp [State.ite_frame])

@[simp] theorem activityStored_frame (s : State) :
    (activityStored s).phase = s.phase ∧ (activityStored s).signals = s.signals ∧
    (activityStored s).egress = s.egress ∧ (activityStored s).tx = s.tx ∧ (activityStored s).rx = s.rx ∧
    (activityStored s).nodes = s.nodes ∧ (activityStored s).energy = s.energy ∧ (activityStored s).setup = s.setup ∧
    (activityStored s).store = s.store ∧ (activityStored s).power = s.power ∧ (activityStored s).tables = s.tables ∧
    (activityStored s).pending = s.pending := by
  unfold activityStored; try dsimp only
  first | (simp [State.ite_frame]; done) | ((repeat' split) <;> simp [State.ite_frame])

@[simp] theorem activityLost_frame (s : State) :
    (activityLost s).phase = s.phase ∧ (activityLost s).signals = s.signals ∧ (activityLost s).egress = s.egress ∧
    (activityLost s).tx = s.tx ∧ (activityLost s).rx = s.rx ∧ (activityLost s).nodes = s.nodes ∧
    (activityLost s).energy = s.energy ∧ (activityLost s).setup = s.setup ∧ (activityLost s).store = s.store ∧
    (activityLost s).power = s.power ∧ (activityLost s).tables = s.tables ∧ (activityLost s).pending = s.pending := by
  unfold activityLost; try dsimp only
  first | (simp [State.ite_frame]; done) | ((repeat' split) <;> simp [State.ite_frame])

@[simp] theorem remainingStored_frame (formsNow : Bool) (s : State) :
    (remainingStored formsNow s).phase = s.phase ∧ (remainingStored formsNow s).bus = s.bus ∧
    (remainingStored formsNow s).signals = s.signals ∧ (remainingStored formsNow s).egress = s.egress ∧
    (remainingStored formsNow s).tx = s.tx ∧ (remainingStored formsNow s).rx = s.rx ∧
    (remainingStored formsNow s).nodes = s.nodes ∧ (remainingStored formsNow s).energy = s.energy ∧
    (remainingStored formsNow s).setup = s.setup ∧ (remainingStored formsNow s).store = s.store ∧
    (remainingStored formsNow s).notices = s.notices ∧ (remainingStored formsNow s).power = s.power ∧
    (remainingStored formsNow s).tables = s.tables ∧ (remainingStored formsNow s).pending = s.pending := by
  unfold remainingStored; try dsimp only
  first | (simp [State.ite_frame]; done) | ((repeat' split) <;> simp [State.ite_frame])

@[simp] theorem timeStored_frame (s : State) :
    (timeStored s).phase = s.phase ∧ (timeStored s).bus = s.bus ∧ (timeStored s).signals = s.signals ∧
    (timeStored s).egress = s.egress ∧ (timeStored s).tx = s.tx ∧ (timeStored s).rx = s.rx ∧
    (timeStored s).nodes = s.nodes ∧ (timeStored s).energy = s.energy ∧ (timeStored s).setup = s.setup ∧
    (timeStored s).store = s.store ∧ (timeStored s).notices = s.notices ∧ (timeStored s).power = s.power ∧
    (timeStored s).tables = s.tables ∧ (timeStored s).pending = s.pending := by
  unfold timeStored; try dsimp only
  first | (simp [State.ite_frame]; done) | ((repeat' split) <;> simp [State.ite_frame])

@[simp] theorem ignitionStored_frame (s : State) :
    (ignitionStored s).phase = s.phase ∧ (ignitionStored s).bus = s.bus ∧ (ignitionStored s).signals = s.signals ∧
    (ignitionStored s).egress = s.egress ∧ (ignitionStored s).tx = s.tx ∧ (ignitionStored s).rx = s.rx ∧
    (ignitionStored s).nodes = s.nodes ∧ (ignitionStored s).energy = s.energy ∧ (ignitionStored s).setup = s.setup ∧
    (ignitionStored s).store = s.store ∧ (ignitionStored s).notices = s.notices ∧
    (ignitionStored s).power = s.power ∧ (ignitionStored s).tables = s.tables ∧ (ignitionStored s).pending = s.pending := by
  unfold ignitionStored; try dsimp only
  first | (simp [State.ite_frame]; done) | ((repeat' split) <;> simp [State.ite_frame])

@[simp] theorem restProfile_frame (p : ℕ) (s : State) :
    (restProfile p s).phase = s.phase ∧ (restProfile p s).signals = s.signals ∧ (restProfile p s).egress = s.egress ∧
    (restProfile p s).tx = s.tx ∧ (restProfile p s).rx = s.rx ∧ (restProfile p s).nodes = s.nodes ∧
    (restProfile p s).energy = s.energy ∧ (restProfile p s).setup = s.setup ∧ (restProfile p s).store = s.store ∧
    (restProfile p s).power = s.power ∧ (restProfile p s).tables = s.tables ∧ (restProfile p s).pending = s.pending := by
  unfold restProfile; try dsimp only
  first | (simp [State.ite_frame]; done) | ((repeat' split) <;> simp [State.ite_frame])

@[simp] theorem alarmSet_frame (m : ℕ) (s : State) :
    (alarmSet m s).phase = s.phase ∧ (alarmSet m s).bus = s.bus ∧ (alarmSet m s).signals = s.signals ∧
    (alarmSet m s).egress = s.egress ∧ (alarmSet m s).tx = s.tx ∧ (alarmSet m s).rx = s.rx ∧
    (alarmSet m s).nodes = s.nodes ∧ (alarmSet m s).energy = s.energy ∧ (alarmSet m s).setup = s.setup ∧
    (alarmSet m s).store = s.store ∧ (alarmSet m s).notices = s.notices ∧ (alarmSet m s).power = s.power ∧
    (alarmSet m s).tables = s.tables ∧ (alarmSet m s).pending = s.pending := by
  unfold alarmSet; try dsimp only
  first | (simp [State.ite_frame]; done) | ((repeat' split) <;> simp [State.ite_frame])

@[simp] theorem acknowledge_frame (s : State) :
    (acknowledge s).phase = s.phase ∧ (acknowledge s).bus = s.bus ∧ (acknowledge s).signals = s.signals ∧
    (acknowledge s).egress = s.egress ∧ (acknowledge s).tx = s.tx ∧ (acknowledge s).rx = s.rx ∧
    (acknowledge s).nodes = s.nodes ∧ (acknowledge s).energy = s.energy ∧ (acknowledge s).setup = s.setup ∧
    (acknowledge s).store = s.store ∧ (acknowledge s).notices = s.notices ∧ (acknowledge s).power = s.power ∧
    (acknowledge s).tables = s.tables ∧ (acknowledge s).pending = s.pending := by
  unfold acknowledge; try dsimp only
  first | (simp [State.ite_frame]; done) | ((repeat' split) <;> simp [State.ite_frame])

@[simp] theorem repeatExpires_frame (s : State) :
    (repeatExpires s).phase = s.phase ∧ (repeatExpires s).signals = s.signals ∧ (repeatExpires s).egress = s.egress ∧
    (repeatExpires s).tx = s.tx ∧ (repeatExpires s).rx = s.rx ∧ (repeatExpires s).nodes = s.nodes ∧
    (repeatExpires s).energy = s.energy ∧ (repeatExpires s).setup = s.setup ∧ (repeatExpires s).store = s.store ∧
    (repeatExpires s).power = s.power ∧ (repeatExpires s).tables = s.tables ∧ (repeatExpires s).pending = s.pending := by
  unfold repeatExpires; try dsimp only
  first | (simp [State.ite_frame]; done) | ((repeat' split) <;> simp [State.ite_frame])

@[simp] theorem windowClosed_frame (s : State) :
    (windowClosed s).phase = s.phase ∧ (windowClosed s).bus = s.bus ∧ (windowClosed s).signals = s.signals ∧
    (windowClosed s).egress = s.egress ∧ (windowClosed s).tx = s.tx ∧ (windowClosed s).rx = s.rx ∧
    (windowClosed s).nodes = s.nodes ∧ (windowClosed s).energy = s.energy ∧ (windowClosed s).setup = s.setup ∧
    (windowClosed s).store = s.store ∧ (windowClosed s).notices = s.notices ∧ (windowClosed s).power = s.power ∧
    (windowClosed s).tables = s.tables ∧ (windowClosed s).pending = s.pending := by
  unfold windowClosed; try dsimp only
  first | (simp [State.ite_frame]; done) | ((repeat' split) <;> simp [State.ite_frame])

@[simp] theorem preheatNews_frame (s : State) :
    (preheatNews s).phase = s.phase ∧ (preheatNews s).bus = s.bus ∧ (preheatNews s).signals = s.signals ∧
    (preheatNews s).egress = s.egress ∧ (preheatNews s).tx = s.tx ∧ (preheatNews s).rx = s.rx ∧
    (preheatNews s).nodes = s.nodes ∧ (preheatNews s).energy = s.energy ∧ (preheatNews s).setup = s.setup ∧
    (preheatNews s).store = s.store ∧ (preheatNews s).notices = s.notices ∧ (preheatNews s).power = s.power ∧
    (preheatNews s).tables = s.tables ∧ (preheatNews s).pending = s.pending := by
  unfold preheatNews; try dsimp only
  first | (simp [State.ite_frame]; done) | ((repeat' split) <;> simp [State.ite_frame])

@[simp] theorem heaterInputs_frame (s : State) :
    (heaterInputs s).phase = s.phase ∧ (heaterInputs s).bus = s.bus ∧ (heaterInputs s).signals = s.signals ∧
    (heaterInputs s).egress = s.egress ∧ (heaterInputs s).tx = s.tx ∧ (heaterInputs s).rx = s.rx ∧
    (heaterInputs s).nodes = s.nodes ∧ (heaterInputs s).energy = s.energy ∧ (heaterInputs s).setup = s.setup ∧
    (heaterInputs s).store = s.store ∧ (heaterInputs s).notices = s.notices ∧ (heaterInputs s).power = s.power ∧
    (heaterInputs s).tables = s.tables ∧ (heaterInputs s).pending = s.pending := by
  unfold heaterInputs; try dsimp only
  first | (simp [State.ite_frame]; done) | ((repeat' split) <;> simp [State.ite_frame])

@[simp] theorem heatModeAction_frame (n : ℕ) (s : State) :
    (heatModeAction n s).phase = s.phase ∧ (heatModeAction n s).bus = s.bus ∧
    (heatModeAction n s).signals = s.signals ∧ (heatModeAction n s).egress = s.egress ∧
    (heatModeAction n s).tx = s.tx ∧ (heatModeAction n s).rx = s.rx ∧ (heatModeAction n s).nodes = s.nodes ∧
    (heatModeAction n s).energy = s.energy ∧ (heatModeAction n s).setup = s.setup ∧
    (heatModeAction n s).store = s.store ∧ (heatModeAction n s).notices = s.notices ∧
    (heatModeAction n s).power = s.power ∧ (heatModeAction n s).tables = s.tables ∧
    (heatModeAction n s).pending = s.pending := by
  unfold heatModeAction; try dsimp only
  first | (simp [State.ite_frame]; done) | ((repeat' split) <;> simp [State.ite_frame])

@[simp] theorem windowExpires_frame (s : State) :
    (windowExpires s).phase = s.phase ∧ (windowExpires s).bus = s.bus ∧ (windowExpires s).signals = s.signals ∧
    (windowExpires s).egress = s.egress ∧ (windowExpires s).tx = s.tx ∧ (windowExpires s).rx = s.rx ∧
    (windowExpires s).nodes = s.nodes ∧ (windowExpires s).energy = s.energy ∧ (windowExpires s).setup = s.setup ∧
    (windowExpires s).store = s.store ∧ (windowExpires s).notices = s.notices ∧ (windowExpires s).power = s.power ∧
    (windowExpires s).tables = s.tables ∧ (windowExpires s).pending = s.pending := by
  unfold windowExpires; try dsimp only
  first | (simp [State.ite_frame]; done) | ((repeat' split) <;> simp [State.ite_frame])

@[simp] theorem restStartUp_frame (s : State) :
    (restStartUp s).phase = s.phase ∧ (restStartUp s).signals = s.signals ∧ (restStartUp s).egress = s.egress ∧
    (restStartUp s).tx = s.tx ∧ (restStartUp s).rx = s.rx ∧ (restStartUp s).nodes = s.nodes ∧
    (restStartUp s).energy = s.energy ∧ (restStartUp s).setup = s.setup ∧ (restStartUp s).store = s.store ∧
    (restStartUp s).power = s.power ∧ (restStartUp s).tables = s.tables ∧ (restStartUp s).pending = s.pending := by
  unfold restStartUp; try dsimp only
  first | (simp [State.ite_frame]; done) | ((repeat' split) <;> simp [State.ite_frame])

@[simp] theorem firstSweep_frame (s : State) :
    (firstSweep s).phase = s.phase ∧ (firstSweep s).bus = s.bus ∧ (firstSweep s).signals = s.signals ∧
    (firstSweep s).egress = s.egress ∧ (firstSweep s).tx = s.tx ∧ (firstSweep s).rx = s.rx ∧
    (firstSweep s).nodes = s.nodes ∧ (firstSweep s).energy = s.energy ∧ (firstSweep s).setup = s.setup ∧
    (firstSweep s).store = s.store ∧ (firstSweep s).notices = s.notices ∧ (firstSweep s).power = s.power ∧
    (firstSweep s).tables = s.tables ∧ (firstSweep s).pending = s.pending := by
  unfold firstSweep; try dsimp only
  first | (simp [State.ite_frame]; done) | ((repeat' split) <;> simp [State.ite_frame])

end Sys2Proof.Machine
end

