-- ==== Sys2Proof/Laws/FrameEnergy.lean ====
section
/-! SUPPORT. Laws/FrameEnergy.lean: which blocks of the state each operation leaves as they are: the budget decisions and the accountant. -/

namespace Sys2Proof.Machine

@[simp] theorem outletApply_frame (o : ℕ) (s : State) :
    (outletApply o s).phase = s.phase ∧ (outletApply o s).bus = s.bus ∧ (outletApply o s).signals = s.signals ∧
    (outletApply o s).egress = s.egress ∧ (outletApply o s).tx = s.tx ∧ (outletApply o s).rx = s.rx ∧
    (outletApply o s).nodes = s.nodes ∧ (outletApply o s).panel = s.panel ∧ (outletApply o s).energy = s.energy ∧
    (outletApply o s).lights = s.lights ∧ (outletApply o s).rest = s.rest ∧ (outletApply o s).setup = s.setup ∧
    (outletApply o s).store = s.store ∧ (outletApply o s).notices = s.notices ∧ (outletApply o s).power = s.power ∧
    (outletApply o s).ret = s.ret ∧ (outletApply o s).tables = s.tables ∧ (outletApply o s).pending = s.pending := by
  unfold outletApply; try dsimp only
  first | (simp [State.ite_frame]; done) | ((repeat' split) <;> simp [State.ite_frame])

@[simp] theorem setOutlet_frame (o : ℕ) (on : Bool) (s : State) :
    (setOutlet o on s).phase = s.phase ∧ (setOutlet o on s).bus = s.bus ∧ (setOutlet o on s).signals = s.signals ∧
    (setOutlet o on s).egress = s.egress ∧ (setOutlet o on s).tx = s.tx ∧ (setOutlet o on s).rx = s.rx ∧
    (setOutlet o on s).nodes = s.nodes ∧ (setOutlet o on s).panel = s.panel ∧ (setOutlet o on s).energy = s.energy ∧
    (setOutlet o on s).lights = s.lights ∧ (setOutlet o on s).rest = s.rest ∧ (setOutlet o on s).setup = s.setup ∧
    (setOutlet o on s).store = s.store ∧ (setOutlet o on s).notices = s.notices ∧
    (setOutlet o on s).power = s.power ∧ (setOutlet o on s).ret = s.ret ∧ (setOutlet o on s).tables = s.tables ∧
    (setOutlet o on s).pending = s.pending := by
  unfold setOutlet; try dsimp only
  first | (simp [State.ite_frame]; done) | ((repeat' split) <;> simp [State.ite_frame])

@[simp] theorem outletLost_frame (p : ℕ) (s : State) :
    (outletLost p s).phase = s.phase ∧ (outletLost p s).bus = s.bus ∧ (outletLost p s).signals = s.signals ∧
    (outletLost p s).egress = s.egress ∧ (outletLost p s).tx = s.tx ∧ (outletLost p s).rx = s.rx ∧
    (outletLost p s).nodes = s.nodes ∧ (outletLost p s).panel = s.panel ∧ (outletLost p s).energy = s.energy ∧
    (outletLost p s).lights = s.lights ∧ (outletLost p s).rest = s.rest ∧ (outletLost p s).setup = s.setup ∧
    (outletLost p s).store = s.store ∧ (outletLost p s).notices = s.notices ∧ (outletLost p s).power = s.power ∧
    (outletLost p s).ret = s.ret ∧ (outletLost p s).tables = s.tables ∧ (outletLost p s).pending = s.pending := by
  unfold outletLost; try dsimp only
  first | (simp [State.ite_frame]; done) | ((repeat' split) <;> simp [State.ite_frame])

@[simp] theorem raiseLoadShed_frame (restored : Bool) (i : ℕ) (s : State) :
    (raiseLoadShed restored i s).phase = s.phase ∧ (raiseLoadShed restored i s).signals = s.signals ∧
    (raiseLoadShed restored i s).egress = s.egress ∧ (raiseLoadShed restored i s).tx = s.tx ∧
    (raiseLoadShed restored i s).rx = s.rx ∧ (raiseLoadShed restored i s).nodes = s.nodes ∧
    (raiseLoadShed restored i s).panel = s.panel ∧ (raiseLoadShed restored i s).roster = s.roster ∧
    (raiseLoadShed restored i s).energy = s.energy ∧ (raiseLoadShed restored i s).heater = s.heater ∧
    (raiseLoadShed restored i s).fridge = s.fridge ∧ (raiseLoadShed restored i s).lights = s.lights ∧
    (raiseLoadShed restored i s).rest = s.rest ∧ (raiseLoadShed restored i s).setup = s.setup ∧
    (raiseLoadShed restored i s).store = s.store ∧ (raiseLoadShed restored i s).power = s.power ∧
    (raiseLoadShed restored i s).ret = s.ret ∧ (raiseLoadShed restored i s).tables = s.tables ∧
    (raiseLoadShed restored i s).pending = s.pending := by
  unfold raiseLoadShed; try dsimp only
  first | (simp [State.ite_frame]; done) | ((repeat' split) <;> simp [State.ite_frame])

@[simp] theorem tellGranted_frame (i : ℕ) (s : State) :
    (tellGranted i s).phase = s.phase ∧ (tellGranted i s).signals = s.signals ∧ (tellGranted i s).egress = s.egress ∧
    (tellGranted i s).tx = s.tx ∧ (tellGranted i s).rx = s.rx ∧ (tellGranted i s).nodes = s.nodes ∧
    (tellGranted i s).panel = s.panel ∧ (tellGranted i s).energy = s.energy ∧ (tellGranted i s).lights = s.lights ∧
    (tellGranted i s).rest = s.rest ∧ (tellGranted i s).setup = s.setup ∧ (tellGranted i s).store = s.store ∧
    (tellGranted i s).power = s.power ∧ (tellGranted i s).ret = s.ret ∧ (tellGranted i s).tables = s.tables ∧
    (tellGranted i s).pending = s.pending := by
  unfold tellGranted; try dsimp only
  first | (simp [State.ite_frame]; done) | ((repeat' split) <;> simp [State.ite_frame])

@[simp] theorem tellShed_frame (i : ℕ) (s : State) :
    (tellShed i s).phase = s.phase ∧ (tellShed i s).bus = s.bus ∧ (tellShed i s).signals = s.signals ∧
    (tellShed i s).egress = s.egress ∧ (tellShed i s).tx = s.tx ∧ (tellShed i s).rx = s.rx ∧
    (tellShed i s).nodes = s.nodes ∧ (tellShed i s).panel = s.panel ∧ (tellShed i s).energy = s.energy ∧
    (tellShed i s).lights = s.lights ∧ (tellShed i s).rest = s.rest ∧ (tellShed i s).setup = s.setup ∧
    (tellShed i s).store = s.store ∧ (tellShed i s).notices = s.notices ∧ (tellShed i s).power = s.power ∧
    (tellShed i s).ret = s.ret ∧ (tellShed i s).tables = s.tables ∧ (tellShed i s).pending = s.pending := by
  unfold tellShed; try dsimp only
  first | (simp [State.ite_frame]; done) | ((repeat' split) <;> simp [State.ite_frame])

@[simp] theorem grant_frame (i : ℕ) (s : State) :
    (grant i s).phase = s.phase ∧ (grant i s).signals = s.signals ∧ (grant i s).egress = s.egress ∧
    (grant i s).tx = s.tx ∧ (grant i s).rx = s.rx ∧ (grant i s).nodes = s.nodes ∧ (grant i s).panel = s.panel ∧
    (grant i s).energy = s.energy ∧ (grant i s).lights = s.lights ∧ (grant i s).rest = s.rest ∧
    (grant i s).setup = s.setup ∧ (grant i s).store = s.store ∧ (grant i s).power = s.power ∧
    (grant i s).ret = s.ret ∧ (grant i s).tables = s.tables ∧ (grant i s).pending = s.pending := by
  unfold grant; try dsimp only
  first | (simp [State.ite_frame]; done) | ((repeat' split) <;> simp [State.ite_frame])

@[simp] theorem budgetShed_frame (i : ℕ) (s : State) :
    (budgetShed i s).phase = s.phase ∧ (budgetShed i s).signals = s.signals ∧ (budgetShed i s).egress = s.egress ∧
    (budgetShed i s).tx = s.tx ∧ (budgetShed i s).rx = s.rx ∧ (budgetShed i s).nodes = s.nodes ∧
    (budgetShed i s).panel = s.panel ∧ (budgetShed i s).energy = s.energy ∧ (budgetShed i s).lights = s.lights ∧
    (budgetShed i s).rest = s.rest ∧ (budgetShed i s).setup = s.setup ∧ (budgetShed i s).store = s.store ∧
    (budgetShed i s).power = s.power ∧ (budgetShed i s).ret = s.ret ∧ (budgetShed i s).tables = s.tables ∧
    (budgetShed i s).pending = s.pending := by
  unfold budgetShed; try dsimp only
  first | (simp [State.ite_frame]; done) | ((repeat' split) <;> simp [State.ite_frame])

@[simp] theorem restore_frame (i : ℕ) (s : State) :
    (restore i s).phase = s.phase ∧ (restore i s).signals = s.signals ∧ (restore i s).egress = s.egress ∧
    (restore i s).tx = s.tx ∧ (restore i s).rx = s.rx ∧ (restore i s).nodes = s.nodes ∧
    (restore i s).panel = s.panel ∧ (restore i s).energy = s.energy ∧ (restore i s).heater = s.heater ∧
    (restore i s).fridge = s.fridge ∧ (restore i s).lights = s.lights ∧ (restore i s).rest = s.rest ∧
    (restore i s).setup = s.setup ∧ (restore i s).store = s.store ∧ (restore i s).power = s.power ∧
    (restore i s).ret = s.ret ∧ (restore i s).tables = s.tables ∧ (restore i s).pending = s.pending := by
  unfold restore; try dsimp only
  first | (simp [State.ite_frame]; done) | ((repeat' split) <;> simp [State.ite_frame])

@[simp] theorem emergencyOne_frame (i : ℕ) (s : State) :
    (emergencyOne i s).phase = s.phase ∧ (emergencyOne i s).signals = s.signals ∧
    (emergencyOne i s).egress = s.egress ∧ (emergencyOne i s).tx = s.tx ∧ (emergencyOne i s).rx = s.rx ∧
    (emergencyOne i s).nodes = s.nodes ∧ (emergencyOne i s).panel = s.panel ∧ (emergencyOne i s).energy = s.energy ∧
    (emergencyOne i s).lights = s.lights ∧ (emergencyOne i s).rest = s.rest ∧ (emergencyOne i s).setup = s.setup ∧
    (emergencyOne i s).store = s.store ∧ (emergencyOne i s).power = s.power ∧ (emergencyOne i s).ret = s.ret ∧
    (emergencyOne i s).tables = s.tables ∧ (emergencyOne i s).pending = s.pending := by
  unfold emergencyOne; try dsimp only
  first | (simp [State.ite_frame]; done) | ((repeat' split) <;> simp [State.ite_frame])

@[simp] theorem emergencyShed_frame (s : State) :
    (emergencyShed s).phase = s.phase ∧ (emergencyShed s).signals = s.signals ∧ (emergencyShed s).egress = s.egress ∧
    (emergencyShed s).tx = s.tx ∧ (emergencyShed s).rx = s.rx ∧ (emergencyShed s).nodes = s.nodes ∧
    (emergencyShed s).panel = s.panel ∧ (emergencyShed s).energy = s.energy ∧ (emergencyShed s).lights = s.lights ∧
    (emergencyShed s).rest = s.rest ∧ (emergencyShed s).setup = s.setup ∧ (emergencyShed s).store = s.store ∧
    (emergencyShed s).power = s.power ∧ (emergencyShed s).ret = s.ret ∧ (emergencyShed s).tables = s.tables ∧
    (emergencyShed s).pending = s.pending := by
  unfold emergencyShed; try dsimp only
  first | (simp [State.ite_frame]; done) | ((repeat' split) <;> simp [State.ite_frame])

@[simp] theorem protectRestores_frame (s : State) :
    (protectRestores s).phase = s.phase ∧ (protectRestores s).signals = s.signals ∧
    (protectRestores s).egress = s.egress ∧ (protectRestores s).tx = s.tx ∧ (protectRestores s).rx = s.rx ∧
    (protectRestores s).nodes = s.nodes ∧ (protectRestores s).panel = s.panel ∧
    (protectRestores s).energy = s.energy ∧ (protectRestores s).heater = s.heater ∧
    (protectRestores s).fridge = s.fridge ∧ (protectRestores s).lights = s.lights ∧
    (protectRestores s).rest = s.rest ∧ (protectRestores s).setup = s.setup ∧ (protectRestores s).store = s.store ∧
    (protectRestores s).power = s.power ∧ (protectRestores s).ret = s.ret ∧ (protectRestores s).tables = s.tables ∧
    (protectRestores s).pending = s.pending := by
  unfold protectRestores; try dsimp only
  first | (simp [State.ite_frame]; done) | ((repeat' split) <;> simp [State.ite_frame])

@[simp] theorem grantAll_frame (n : Nat) (is : List Nat) (s : State) :
    (grantAll n is s).phase = s.phase ∧ (grantAll n is s).signals = s.signals ∧ (grantAll n is s).egress = s.egress ∧
    (grantAll n is s).tx = s.tx ∧ (grantAll n is s).rx = s.rx ∧ (grantAll n is s).nodes = s.nodes ∧
    (grantAll n is s).panel = s.panel ∧ (grantAll n is s).energy = s.energy ∧ (grantAll n is s).lights = s.lights ∧
    (grantAll n is s).rest = s.rest ∧ (grantAll n is s).setup = s.setup ∧ (grantAll n is s).store = s.store ∧
    (grantAll n is s).power = s.power ∧ (grantAll n is s).ret = s.ret ∧ (grantAll n is s).tables = s.tables ∧
    (grantAll n is s).pending = s.pending := by
  induction n generalizing is s with
  | zero => simp [grantAll]
  | succ n ih => unfold grantAll; split <;> simp [ih]

@[simp] theorem decideSurplus_frame (s : State) :
    (decideSurplus s).phase = s.phase ∧ (decideSurplus s).signals = s.signals ∧ (decideSurplus s).egress = s.egress ∧
    (decideSurplus s).tx = s.tx ∧ (decideSurplus s).rx = s.rx ∧ (decideSurplus s).nodes = s.nodes ∧
    (decideSurplus s).panel = s.panel ∧ (decideSurplus s).energy = s.energy ∧ (decideSurplus s).lights = s.lights ∧
    (decideSurplus s).rest = s.rest ∧ (decideSurplus s).setup = s.setup ∧ (decideSurplus s).store = s.store ∧
    (decideSurplus s).power = s.power ∧ (decideSurplus s).ret = s.ret ∧ (decideSurplus s).tables = s.tables ∧
    (decideSurplus s).pending = s.pending := by
  unfold decideSurplus; try dsimp only
  first | (simp [State.ite_frame]; done) | ((repeat' split) <;> simp [State.ite_frame])

@[simp] theorem shedStep_frame (d : ℕ) (p : ℕ) (s : State) :
    (shedStep d p s).phase = s.phase ∧ (shedStep d p s).signals = s.signals ∧ (shedStep d p s).egress = s.egress ∧
    (shedStep d p s).tx = s.tx ∧ (shedStep d p s).rx = s.rx ∧ (shedStep d p s).nodes = s.nodes ∧
    (shedStep d p s).panel = s.panel ∧ (shedStep d p s).energy = s.energy ∧ (shedStep d p s).lights = s.lights ∧
    (shedStep d p s).rest = s.rest ∧ (shedStep d p s).setup = s.setup ∧ (shedStep d p s).store = s.store ∧
    (shedStep d p s).power = s.power ∧ (shedStep d p s).ret = s.ret ∧ (shedStep d p s).tables = s.tables ∧
    (shedStep d p s).pending = s.pending := by
  unfold shedStep; try dsimp only
  first | (simp [State.ite_frame]; done) | ((repeat' split) <;> simp [State.ite_frame])

@[simp] theorem restoreStep_frame (p : ℕ) (s : State) :
    (restoreStep p s).phase = s.phase ∧ (restoreStep p s).signals = s.signals ∧ (restoreStep p s).egress = s.egress ∧
    (restoreStep p s).tx = s.tx ∧ (restoreStep p s).rx = s.rx ∧ (restoreStep p s).nodes = s.nodes ∧
    (restoreStep p s).panel = s.panel ∧ (restoreStep p s).energy = s.energy ∧ (restoreStep p s).heater = s.heater ∧
    (restoreStep p s).fridge = s.fridge ∧ (restoreStep p s).lights = s.lights ∧ (restoreStep p s).rest = s.rest ∧
    (restoreStep p s).setup = s.setup ∧ (restoreStep p s).store = s.store ∧ (restoreStep p s).power = s.power ∧
    (restoreStep p s).ret = s.ret ∧ (restoreStep p s).tables = s.tables ∧ (restoreStep p s).pending = s.pending := by
  unfold restoreStep; try dsimp only
  first | (simp [State.ite_frame]; done) | ((repeat' split) <;> simp [State.ite_frame])

@[simp] theorem decideNormal_frame (d : ℕ) (p : ℕ) (s : State) :
    (decideNormal d p s).phase = s.phase ∧ (decideNormal d p s).signals = s.signals ∧
    (decideNormal d p s).egress = s.egress ∧ (decideNormal d p s).tx = s.tx ∧ (decideNormal d p s).rx = s.rx ∧
    (decideNormal d p s).nodes = s.nodes ∧ (decideNormal d p s).panel = s.panel ∧
    (decideNormal d p s).energy = s.energy ∧ (decideNormal d p s).lights = s.lights ∧
    (decideNormal d p s).rest = s.rest ∧ (decideNormal d p s).setup = s.setup ∧
    (decideNormal d p s).store = s.store ∧ (decideNormal d p s).power = s.power ∧ (decideNormal d p s).ret = s.ret ∧
    (decideNormal d p s).tables = s.tables ∧ (decideNormal d p s).pending = s.pending := by
  unfold decideNormal; try dsimp only
  first | (simp [State.ite_frame]; done) | ((repeat' split) <;> simp [State.ite_frame])

@[simp] theorem decideLow_frame (d : ℕ) (p : ℕ) (s : State) :
    (decideLow d p s).phase = s.phase ∧ (decideLow d p s).signals = s.signals ∧ (decideLow d p s).egress = s.egress ∧
    (decideLow d p s).tx = s.tx ∧ (decideLow d p s).rx = s.rx ∧ (decideLow d p s).nodes = s.nodes ∧
    (decideLow d p s).panel = s.panel ∧ (decideLow d p s).energy = s.energy ∧ (decideLow d p s).lights = s.lights ∧
    (decideLow d p s).rest = s.rest ∧ (decideLow d p s).setup = s.setup ∧ (decideLow d p s).store = s.store ∧
    (decideLow d p s).power = s.power ∧ (decideLow d p s).ret = s.ret ∧ (decideLow d p s).tables = s.tables ∧
    (decideLow d p s).pending = s.pending := by
  unfold decideLow; try dsimp only
  first | (simp [State.ite_frame]; done) | ((repeat' split) <;> simp [State.ite_frame])

@[simp] theorem decideTick_frame (m : Mode) (d : ℕ) (p : ℕ) (s : State) :
    (decideTick m d p s).phase = s.phase ∧ (decideTick m d p s).signals = s.signals ∧
    (decideTick m d p s).egress = s.egress ∧ (decideTick m d p s).tx = s.tx ∧ (decideTick m d p s).rx = s.rx ∧
    (decideTick m d p s).nodes = s.nodes ∧ (decideTick m d p s).panel = s.panel ∧
    (decideTick m d p s).energy = s.energy ∧ (decideTick m d p s).lights = s.lights ∧
    (decideTick m d p s).rest = s.rest ∧ (decideTick m d p s).setup = s.setup ∧
    (decideTick m d p s).store = s.store ∧ (decideTick m d p s).power = s.power ∧ (decideTick m d p s).ret = s.ret ∧
    (decideTick m d p s).tables = s.tables ∧ (decideTick m d p s).pending = s.pending := by
  unfold decideTick; try dsimp only
  first | (simp [State.ite_frame]; done) | ((repeat' split) <;> simp [State.ite_frame])

@[simp] theorem fridgeDutyTick_frame (s : State) :
    (fridgeDutyTick s).phase = s.phase ∧ (fridgeDutyTick s).bus = s.bus ∧ (fridgeDutyTick s).signals = s.signals ∧
    (fridgeDutyTick s).egress = s.egress ∧ (fridgeDutyTick s).tx = s.tx ∧ (fridgeDutyTick s).rx = s.rx ∧
    (fridgeDutyTick s).nodes = s.nodes ∧ (fridgeDutyTick s).panel = s.panel ∧ (fridgeDutyTick s).roster = s.roster ∧
    (fridgeDutyTick s).energy = s.energy ∧ (fridgeDutyTick s).heater = s.heater ∧
    (fridgeDutyTick s).fridge = s.fridge ∧ (fridgeDutyTick s).lights = s.lights ∧ (fridgeDutyTick s).rest = s.rest ∧
    (fridgeDutyTick s).setup = s.setup ∧ (fridgeDutyTick s).store = s.store ∧
    (fridgeDutyTick s).notices = s.notices ∧ (fridgeDutyTick s).power = s.power ∧
    (fridgeDutyTick s).tables = s.tables ∧ (fridgeDutyTick s).pending = s.pending := by
  unfold fridgeDutyTick onEntry; split <;> simp

@[simp] theorem readRoster_frame (s : State) :
    (readRoster s).phase = s.phase ∧ (readRoster s).signals = s.signals ∧ (readRoster s).egress = s.egress ∧
    (readRoster s).tx = s.tx ∧ (readRoster s).rx = s.rx ∧ (readRoster s).nodes = s.nodes ∧
    (readRoster s).panel = s.panel ∧ (readRoster s).energy = s.energy ∧ (readRoster s).heater = s.heater ∧
    (readRoster s).fridge = s.fridge ∧ (readRoster s).lights = s.lights ∧ (readRoster s).rest = s.rest ∧
    (readRoster s).setup = s.setup ∧ (readRoster s).store = s.store ∧ (readRoster s).power = s.power ∧
    (readRoster s).tables = s.tables ∧ (readRoster s).pending = s.pending := by
  unfold readRoster; try dsimp only
  first | (simp [State.ite_frame]; done) | ((repeat' split) <;> simp [State.ite_frame])

@[simp] theorem budgetTickBody_frame (s : State) :
    (budgetTickBody s).phase = s.phase ∧ (budgetTickBody s).signals = s.signals ∧
    (budgetTickBody s).egress = s.egress ∧ (budgetTickBody s).tx = s.tx ∧ (budgetTickBody s).rx = s.rx ∧
    (budgetTickBody s).nodes = s.nodes ∧ (budgetTickBody s).panel = s.panel ∧ (budgetTickBody s).lights = s.lights ∧
    (budgetTickBody s).rest = s.rest ∧ (budgetTickBody s).setup = s.setup ∧ (budgetTickBody s).store = s.store ∧
    (budgetTickBody s).power = s.power ∧ (budgetTickBody s).tables = s.tables ∧ (budgetTickBody s).pending = s.pending := by
  unfold budgetTickBody; try dsimp only
  first | (simp [State.ite_frame]; done) | ((repeat' split) <;> simp [State.ite_frame])

@[simp] theorem integrate_frame (i : ℤ) (s : State) :
    (integrate i s).phase = s.phase ∧ (integrate i s).bus = s.bus ∧ (integrate i s).signals = s.signals ∧
    (integrate i s).egress = s.egress ∧ (integrate i s).tx = s.tx ∧ (integrate i s).rx = s.rx ∧
    (integrate i s).nodes = s.nodes ∧ (integrate i s).panel = s.panel ∧ (integrate i s).roster = s.roster ∧
    (integrate i s).energy = s.energy ∧ (integrate i s).heater = s.heater ∧ (integrate i s).fridge = s.fridge ∧
    (integrate i s).lights = s.lights ∧ (integrate i s).rest = s.rest ∧ (integrate i s).setup = s.setup ∧
    (integrate i s).store = s.store ∧ (integrate i s).notices = s.notices ∧ (integrate i s).power = s.power ∧
    (integrate i s).tables = s.tables ∧ (integrate i s).pending = s.pending := by
  unfold integrate; try dsimp only
  first | (simp [State.ite_frame]; done) | ((repeat' split) <;> simp [State.ite_frame])

@[simp] theorem setCharge_frame (q : ℕ) (s : State) :
    (setCharge q s).phase = s.phase ∧ (setCharge q s).bus = s.bus ∧ (setCharge q s).signals = s.signals ∧
    (setCharge q s).egress = s.egress ∧ (setCharge q s).tx = s.tx ∧ (setCharge q s).rx = s.rx ∧
    (setCharge q s).nodes = s.nodes ∧ (setCharge q s).panel = s.panel ∧ (setCharge q s).roster = s.roster ∧
    (setCharge q s).energy = s.energy ∧ (setCharge q s).heater = s.heater ∧ (setCharge q s).fridge = s.fridge ∧
    (setCharge q s).lights = s.lights ∧ (setCharge q s).rest = s.rest ∧ (setCharge q s).setup = s.setup ∧
    (setCharge q s).store = s.store ∧ (setCharge q s).notices = s.notices ∧ (setCharge q s).power = s.power ∧
    (setCharge q s).tables = s.tables ∧ (setCharge q s).pending = s.pending := by
  unfold setCharge; try dsimp only
  first | (simp [State.ite_frame]; done) | ((repeat' split) <;> simp [State.ite_frame])

@[simp] theorem capCharge_frame (s : State) :
    (capCharge s).phase = s.phase ∧ (capCharge s).bus = s.bus ∧ (capCharge s).signals = s.signals ∧
    (capCharge s).egress = s.egress ∧ (capCharge s).tx = s.tx ∧ (capCharge s).rx = s.rx ∧
    (capCharge s).nodes = s.nodes ∧ (capCharge s).panel = s.panel ∧ (capCharge s).roster = s.roster ∧
    (capCharge s).energy = s.energy ∧ (capCharge s).heater = s.heater ∧ (capCharge s).fridge = s.fridge ∧
    (capCharge s).lights = s.lights ∧ (capCharge s).rest = s.rest ∧ (capCharge s).setup = s.setup ∧
    (capCharge s).store = s.store ∧ (capCharge s).notices = s.notices ∧ (capCharge s).power = s.power ∧
    (capCharge s).tables = s.tables ∧ (capCharge s).pending = s.pending := by
  unfold capCharge; try dsimp only
  first | (simp [State.ite_frame]; done) | ((repeat' split) <;> simp [State.ite_frame])

@[simp] theorem substitute_frame (s : State) :
    (substitute s).phase = s.phase ∧ (substitute s).bus = s.bus ∧ (substitute s).signals = s.signals ∧
    (substitute s).egress = s.egress ∧ (substitute s).tx = s.tx ∧ (substitute s).rx = s.rx ∧
    (substitute s).nodes = s.nodes ∧ (substitute s).panel = s.panel ∧ (substitute s).roster = s.roster ∧
    (substitute s).heater = s.heater ∧ (substitute s).fridge = s.fridge ∧ (substitute s).lights = s.lights ∧
    (substitute s).rest = s.rest ∧ (substitute s).setup = s.setup ∧ (substitute s).store = s.store ∧
    (substitute s).notices = s.notices ∧ (substitute s).power = s.power ∧ (substitute s).tables = s.tables ∧
    (substitute s).pending = s.pending := by
  unfold substitute; try dsimp only
  first | (simp [State.ite_frame]; done) | ((repeat' split) <;> simp [State.ite_frame])

@[simp] theorem energyMinute_frame (s : State) :
    (energyMinute s).phase = s.phase ∧ (energyMinute s).bus = s.bus ∧ (energyMinute s).signals = s.signals ∧
    (energyMinute s).egress = s.egress ∧ (energyMinute s).tx = s.tx ∧ (energyMinute s).rx = s.rx ∧
    (energyMinute s).nodes = s.nodes ∧ (energyMinute s).panel = s.panel ∧ (energyMinute s).roster = s.roster ∧
    (energyMinute s).energy = s.energy ∧ (energyMinute s).heater = s.heater ∧ (energyMinute s).fridge = s.fridge ∧
    (energyMinute s).lights = s.lights ∧ (energyMinute s).rest = s.rest ∧ (energyMinute s).setup = s.setup ∧
    (energyMinute s).store = s.store ∧ (energyMinute s).notices = s.notices ∧ (energyMinute s).power = s.power ∧
    (energyMinute s).tables = s.tables ∧ (energyMinute s).pending = s.pending := by
  unfold energyMinute; try dsimp only
  first | (simp [State.ite_frame]; done) | ((repeat' split) <;> simp [State.ite_frame])

@[simp] theorem State.modLevel_frame (s : State) (l : WatchLevel) (f : Machine.Level → Machine.Level) :
    (State.modLevel s l f).phase = s.phase ∧ (State.modLevel s l f).bus = s.bus ∧
    (State.modLevel s l f).signals = s.signals ∧ (State.modLevel s l f).egress = s.egress ∧
    (State.modLevel s l f).tx = s.tx ∧ (State.modLevel s l f).rx = s.rx ∧ (State.modLevel s l f).nodes = s.nodes ∧
    (State.modLevel s l f).panel = s.panel ∧ (State.modLevel s l f).roster = s.roster ∧
    (State.modLevel s l f).heater = s.heater ∧ (State.modLevel s l f).fridge = s.fridge ∧
    (State.modLevel s l f).lights = s.lights ∧ (State.modLevel s l f).rest = s.rest ∧
    (State.modLevel s l f).setup = s.setup ∧ (State.modLevel s l f).store = s.store ∧
    (State.modLevel s l f).notices = s.notices ∧ (State.modLevel s l f).power = s.power ∧
    (State.modLevel s l f).ret = s.ret ∧ (State.modLevel s l f).tables = s.tables ∧
    (State.modLevel s l f).pending = s.pending := by
  unfold State.modLevel; try dsimp only
  first | (simp [State.ite_frame]; done) | ((repeat' split) <;> simp [State.ite_frame])

@[simp] theorem raiseLevel_frame (l : WatchLevel) (begun : Bool) (s : State) :
    (raiseLevel l begun s).phase = s.phase ∧ (raiseLevel l begun s).signals = s.signals ∧
    (raiseLevel l begun s).egress = s.egress ∧ (raiseLevel l begun s).tx = s.tx ∧ (raiseLevel l begun s).rx = s.rx ∧
    (raiseLevel l begun s).nodes = s.nodes ∧ (raiseLevel l begun s).panel = s.panel ∧
    (raiseLevel l begun s).roster = s.roster ∧ (raiseLevel l begun s).energy = s.energy ∧
    (raiseLevel l begun s).heater = s.heater ∧ (raiseLevel l begun s).fridge = s.fridge ∧
    (raiseLevel l begun s).lights = s.lights ∧ (raiseLevel l begun s).rest = s.rest ∧
    (raiseLevel l begun s).setup = s.setup ∧ (raiseLevel l begun s).store = s.store ∧
    (raiseLevel l begun s).power = s.power ∧ (raiseLevel l begun s).ret = s.ret ∧
    (raiseLevel l begun s).tables = s.tables ∧ (raiseLevel l begun s).pending = s.pending := by
  unfold raiseLevel; try dsimp only
  first | (simp [State.ite_frame]; done) | ((repeat' split) <;> simp [State.ite_frame])

@[simp] theorem assertLevel_frame (l : WatchLevel) (s : State) :
    (assertLevel l s).phase = s.phase ∧ (assertLevel l s).signals = s.signals ∧ (assertLevel l s).egress = s.egress ∧
    (assertLevel l s).tx = s.tx ∧ (assertLevel l s).rx = s.rx ∧ (assertLevel l s).nodes = s.nodes ∧
    (assertLevel l s).panel = s.panel ∧ (assertLevel l s).roster = s.roster ∧ (assertLevel l s).heater = s.heater ∧
    (assertLevel l s).fridge = s.fridge ∧ (assertLevel l s).lights = s.lights ∧ (assertLevel l s).rest = s.rest ∧
    (assertLevel l s).setup = s.setup ∧ (assertLevel l s).store = s.store ∧ (assertLevel l s).power = s.power ∧
    (assertLevel l s).ret = s.ret ∧ (assertLevel l s).tables = s.tables ∧ (assertLevel l s).pending = s.pending := by
  unfold assertLevel; try dsimp only
  first | (simp [State.ite_frame]; done) | ((repeat' split) <;> simp [State.ite_frame])

@[simp] theorem clearLevel_frame (l : WatchLevel) (s : State) :
    (clearLevel l s).phase = s.phase ∧ (clearLevel l s).signals = s.signals ∧ (clearLevel l s).egress = s.egress ∧
    (clearLevel l s).tx = s.tx ∧ (clearLevel l s).rx = s.rx ∧ (clearLevel l s).nodes = s.nodes ∧
    (clearLevel l s).panel = s.panel ∧ (clearLevel l s).heater = s.heater ∧ (clearLevel l s).fridge = s.fridge ∧
    (clearLevel l s).lights = s.lights ∧ (clearLevel l s).rest = s.rest ∧ (clearLevel l s).setup = s.setup ∧
    (clearLevel l s).store = s.store ∧ (clearLevel l s).power = s.power ∧ (clearLevel l s).ret = s.ret ∧
    (clearLevel l s).tables = s.tables ∧ (clearLevel l s).pending = s.pending := by
  unfold clearLevel; try dsimp only
  first | (simp [State.ite_frame]; done) | ((repeat' split) <;> simp [State.ite_frame])

@[simp] theorem resetCounts_frame (l : WatchLevel) (s : State) :
    (resetCounts l s).phase = s.phase ∧ (resetCounts l s).bus = s.bus ∧ (resetCounts l s).signals = s.signals ∧
    (resetCounts l s).egress = s.egress ∧ (resetCounts l s).tx = s.tx ∧ (resetCounts l s).rx = s.rx ∧
    (resetCounts l s).nodes = s.nodes ∧ (resetCounts l s).panel = s.panel ∧ (resetCounts l s).roster = s.roster ∧
    (resetCounts l s).heater = s.heater ∧ (resetCounts l s).fridge = s.fridge ∧ (resetCounts l s).lights = s.lights ∧
    (resetCounts l s).rest = s.rest ∧ (resetCounts l s).setup = s.setup ∧ (resetCounts l s).store = s.store ∧
    (resetCounts l s).notices = s.notices ∧ (resetCounts l s).power = s.power ∧ (resetCounts l s).ret = s.ret ∧
    (resetCounts l s).tables = s.tables ∧ (resetCounts l s).pending = s.pending := by
  unfold resetCounts; try dsimp only
  first | (simp [State.ite_frame]; done) | ((repeat' split) <;> simp [State.ite_frame])

@[simp] theorem fullCharge_frame (s : State) :
    (fullCharge s).phase = s.phase ∧ (fullCharge s).bus = s.bus ∧ (fullCharge s).signals = s.signals ∧
    (fullCharge s).egress = s.egress ∧ (fullCharge s).tx = s.tx ∧ (fullCharge s).rx = s.rx ∧
    (fullCharge s).nodes = s.nodes ∧ (fullCharge s).panel = s.panel ∧ (fullCharge s).roster = s.roster ∧
    (fullCharge s).heater = s.heater ∧ (fullCharge s).fridge = s.fridge ∧ (fullCharge s).lights = s.lights ∧
    (fullCharge s).rest = s.rest ∧ (fullCharge s).setup = s.setup ∧ (fullCharge s).store = s.store ∧
    (fullCharge s).notices = s.notices ∧ (fullCharge s).power = s.power ∧ (fullCharge s).tables = s.tables ∧
    (fullCharge s).pending = s.pending := by
  unfold fullCharge; try dsimp only
  first | (simp [State.ite_frame]; done) | ((repeat' split) <;> simp [State.ite_frame])

@[simp] theorem countFull_frame (i : ℤ) (v : ℕ) (s : State) :
    (countFull i v s).phase = s.phase ∧ (countFull i v s).bus = s.bus ∧ (countFull i v s).signals = s.signals ∧
    (countFull i v s).egress = s.egress ∧ (countFull i v s).tx = s.tx ∧ (countFull i v s).rx = s.rx ∧
    (countFull i v s).nodes = s.nodes ∧ (countFull i v s).panel = s.panel ∧ (countFull i v s).roster = s.roster ∧
    (countFull i v s).heater = s.heater ∧ (countFull i v s).fridge = s.fridge ∧ (countFull i v s).lights = s.lights ∧
    (countFull i v s).rest = s.rest ∧ (countFull i v s).setup = s.setup ∧ (countFull i v s).store = s.store ∧
    (countFull i v s).notices = s.notices ∧ (countFull i v s).power = s.power ∧ (countFull i v s).ret = s.ret ∧
    (countFull i v s).tables = s.tables ∧ (countFull i v s).pending = s.pending := by
  unfold countFull; try dsimp only
  first | (simp [State.ite_frame]; done) | ((repeat' split) <;> simp [State.ite_frame])

@[simp] theorem estimate_frame (i : ℤ) (v : ℕ) (s : State) :
    (estimate i v s).phase = s.phase ∧ (estimate i v s).bus = s.bus ∧ (estimate i v s).signals = s.signals ∧
    (estimate i v s).egress = s.egress ∧ (estimate i v s).tx = s.tx ∧ (estimate i v s).rx = s.rx ∧
    (estimate i v s).nodes = s.nodes ∧ (estimate i v s).panel = s.panel ∧ (estimate i v s).roster = s.roster ∧
    (estimate i v s).heater = s.heater ∧ (estimate i v s).fridge = s.fridge ∧ (estimate i v s).lights = s.lights ∧
    (estimate i v s).rest = s.rest ∧ (estimate i v s).setup = s.setup ∧ (estimate i v s).store = s.store ∧
    (estimate i v s).notices = s.notices ∧ (estimate i v s).power = s.power ∧ (estimate i v s).tables = s.tables ∧
    (estimate i v s).pending = s.pending := by
  unfold estimate; try dsimp only
  first | (simp [State.ite_frame]; done) | ((repeat' split) <;> simp [State.ite_frame])

@[simp] theorem energyDues_frame (s : State) :
    (energyDues s).phase = s.phase ∧ (energyDues s).signals = s.signals ∧ (energyDues s).egress = s.egress ∧
    (energyDues s).tx = s.tx ∧ (energyDues s).rx = s.rx ∧ (energyDues s).nodes = s.nodes ∧
    (energyDues s).panel = s.panel ∧ (energyDues s).heater = s.heater ∧ (energyDues s).fridge = s.fridge ∧
    (energyDues s).lights = s.lights ∧ (energyDues s).rest = s.rest ∧ (energyDues s).setup = s.setup ∧
    (energyDues s).store = s.store ∧ (energyDues s).power = s.power ∧ (energyDues s).tables = s.tables ∧
    (energyDues s).pending = s.pending := by
  unfold energyDues; try dsimp only
  first | (simp [State.ite_frame]; done) | ((repeat' split) <;> simp [State.ite_frame])

@[simp] theorem batteryMessage_frame (i : ℤ) (v : ℕ) (s : State) :
    (batteryMessage i v s).phase = s.phase ∧ (batteryMessage i v s).signals = s.signals ∧
    (batteryMessage i v s).egress = s.egress ∧ (batteryMessage i v s).tx = s.tx ∧ (batteryMessage i v s).rx = s.rx ∧
    (batteryMessage i v s).nodes = s.nodes ∧ (batteryMessage i v s).panel = s.panel ∧
    (batteryMessage i v s).heater = s.heater ∧ (batteryMessage i v s).fridge = s.fridge ∧
    (batteryMessage i v s).lights = s.lights ∧ (batteryMessage i v s).rest = s.rest ∧
    (batteryMessage i v s).setup = s.setup ∧ (batteryMessage i v s).store = s.store ∧
    (batteryMessage i v s).power = s.power ∧ (batteryMessage i v s).tables = s.tables ∧
    (batteryMessage i v s).pending = s.pending := by
  unfold batteryMessage; try dsimp only
  first | (simp [State.ite_frame]; done) | ((repeat' split) <;> simp [State.ite_frame])

@[simp] theorem energyStartUp_frame (powerOn : Bool) (s : State) :
    (energyStartUp powerOn s).phase = s.phase ∧ (energyStartUp powerOn s).bus = s.bus ∧
    (energyStartUp powerOn s).signals = s.signals ∧ (energyStartUp powerOn s).egress = s.egress ∧
    (energyStartUp powerOn s).tx = s.tx ∧ (energyStartUp powerOn s).rx = s.rx ∧
    (energyStartUp powerOn s).nodes = s.nodes ∧ (energyStartUp powerOn s).panel = s.panel ∧
    (energyStartUp powerOn s).roster = s.roster ∧ (energyStartUp powerOn s).heater = s.heater ∧
    (energyStartUp powerOn s).fridge = s.fridge ∧ (energyStartUp powerOn s).lights = s.lights ∧
    (energyStartUp powerOn s).rest = s.rest ∧ (energyStartUp powerOn s).setup = s.setup ∧
    (energyStartUp powerOn s).store = s.store ∧ (energyStartUp powerOn s).notices = s.notices ∧
    (energyStartUp powerOn s).power = s.power ∧ (energyStartUp powerOn s).tables = s.tables ∧
    (energyStartUp powerOn s).pending = s.pending := by
  unfold energyStartUp; try dsimp only
  first | (simp [State.ite_frame]; done) | ((repeat' split) <;> simp [State.ite_frame])

@[simp] theorem energySleep_frame (s : State) :
    (energySleep s).phase = s.phase ∧ (energySleep s).bus = s.bus ∧ (energySleep s).signals = s.signals ∧
    (energySleep s).egress = s.egress ∧ (energySleep s).tx = s.tx ∧ (energySleep s).rx = s.rx ∧
    (energySleep s).nodes = s.nodes ∧ (energySleep s).panel = s.panel ∧ (energySleep s).roster = s.roster ∧
    (energySleep s).heater = s.heater ∧ (energySleep s).fridge = s.fridge ∧ (energySleep s).lights = s.lights ∧
    (energySleep s).rest = s.rest ∧ (energySleep s).setup = s.setup ∧ (energySleep s).store = s.store ∧
    (energySleep s).notices = s.notices ∧ (energySleep s).power = s.power ∧ (energySleep s).ret = s.ret ∧
    (energySleep s).tables = s.tables ∧ (energySleep s).pending = s.pending := by
  unfold energySleep; try dsimp only
  first | (simp [State.ite_frame]; done) | ((repeat' split) <;> simp [State.ite_frame])

end Sys2Proof.Machine
end

