-- ==== Sys2Proof/Laws/FrameLoop.lean ====
section
/-! SUPPORT. Laws/FrameLoop.lean: which blocks of the state each operation leaves as they are: the actions, the signal store and the berth loop. -/

namespace Sys2Proof.Machine

@[simp] theorem perform_frame (code : ℕ) (a : ℤ) (s : State) :
    (perform code a s).phase = s.phase ∧ (perform code a s).signals = s.signals ∧
    (perform code a s).egress = s.egress ∧ (perform code a s).tx = s.tx ∧ (perform code a s).rx = s.rx ∧
    (perform code a s).nodes = s.nodes ∧ (perform code a s).energy = s.energy ∧ (perform code a s).setup = s.setup ∧
    (perform code a s).store = s.store ∧ (perform code a s).power = s.power ∧ (perform code a s).tables = s.tables ∧
    (perform code a s).pending = s.pending := by
  unfold perform; try dsimp only
  first | (simp [State.ite_frame]; done) | ((repeat' split) <;> simp [State.ite_frame])

@[simp] theorem recordAction_frame (code : ℕ) (a : Option ℤ) (src : ActionSource) (taken : Bool) (s : State) :
    (recordAction code a src taken s).phase = s.phase ∧ (recordAction code a src taken s).bus = s.bus ∧
    (recordAction code a src taken s).signals = s.signals ∧ (recordAction code a src taken s).egress = s.egress ∧
    (recordAction code a src taken s).tx = s.tx ∧ (recordAction code a src taken s).rx = s.rx ∧
    (recordAction code a src taken s).nodes = s.nodes ∧ (recordAction code a src taken s).roster = s.roster ∧
    (recordAction code a src taken s).energy = s.energy ∧ (recordAction code a src taken s).heater = s.heater ∧
    (recordAction code a src taken s).fridge = s.fridge ∧ (recordAction code a src taken s).lights = s.lights ∧
    (recordAction code a src taken s).rest = s.rest ∧ (recordAction code a src taken s).setup = s.setup ∧
    (recordAction code a src taken s).store = s.store ∧ (recordAction code a src taken s).notices = s.notices ∧
    (recordAction code a src taken s).power = s.power ∧ (recordAction code a src taken s).ret = s.ret ∧
    (recordAction code a src taken s).tables = s.tables ∧ (recordAction code a src taken s).pending = s.pending := by
  unfold recordAction; try dsimp only
  first | (simp [State.ite_frame]; done) | ((repeat' split) <;> simp [State.ite_frame])

@[simp] theorem handAction_frame (src : ActionSource) (code : ℕ) (a : ℤ) (s : State) :
    (handAction src code a s).phase = s.phase ∧ (handAction src code a s).signals = s.signals ∧
    (handAction src code a s).egress = s.egress ∧ (handAction src code a s).tx = s.tx ∧
    (handAction src code a s).rx = s.rx ∧ (handAction src code a s).nodes = s.nodes ∧
    (handAction src code a s).energy = s.energy ∧ (handAction src code a s).setup = s.setup ∧
    (handAction src code a s).store = s.store ∧ (handAction src code a s).power = s.power ∧
    (handAction src code a s).tables = s.tables ∧ (handAction src code a s).pending = s.pending := by
  unfold handAction; try dsimp only
  first | (simp [State.ite_frame]; done) | ((repeat' split) <;> simp [State.ite_frame])

@[simp] theorem setBaseline_frame (n : ℕ) (b : Option (List ℕ)) (s : State) :
    (setBaseline n b s).phase = s.phase ∧ (setBaseline n b s).bus = s.bus ∧ (setBaseline n b s).signals = s.signals ∧
    (setBaseline n b s).egress = s.egress ∧ (setBaseline n b s).tx = s.tx ∧ (setBaseline n b s).rx = s.rx ∧
    (setBaseline n b s).nodes = s.nodes ∧ (setBaseline n b s).roster = s.roster ∧
    (setBaseline n b s).energy = s.energy ∧ (setBaseline n b s).heater = s.heater ∧
    (setBaseline n b s).fridge = s.fridge ∧ (setBaseline n b s).lights = s.lights ∧
    (setBaseline n b s).rest = s.rest ∧ (setBaseline n b s).setup = s.setup ∧ (setBaseline n b s).store = s.store ∧
    (setBaseline n b s).notices = s.notices ∧ (setBaseline n b s).power = s.power ∧ (setBaseline n b s).ret = s.ret ∧
    (setBaseline n b s).tables = s.tables ∧ (setBaseline n b s).pending = s.pending := by
  unfold setBaseline; try dsimp only
  first | (simp [State.ite_frame]; done) | ((repeat' split) <;> simp [State.ite_frame])

@[simp] theorem press_frame (entry : ℕ) (s : State) :
    (press entry s).phase = s.phase ∧ (press entry s).signals = s.signals ∧ (press entry s).egress = s.egress ∧
    (press entry s).tx = s.tx ∧ (press entry s).rx = s.rx ∧ (press entry s).nodes = s.nodes ∧
    (press entry s).energy = s.energy ∧ (press entry s).setup = s.setup ∧ (press entry s).store = s.store ∧

    (press entry s).power.state = s.power.state ∧ (press entry s).power.quietTimer = s.power.quietTimer ∧
    (press entry s).power.cause = s.power.cause ∧ (press entry s).tables = s.tables ∧ (press entry s).pending = s.pending := by
  unfold press; try dsimp only
  first | (simp [State.ite_frame]; done) | ((repeat' split) <;> simp [State.ite_frame])

@[simp] theorem pressTimes_frame (e n : Nat) (s : State) :
    (pressTimes e n s).phase = s.phase ∧ (pressTimes e n s).signals = s.signals ∧
    (pressTimes e n s).egress = s.egress ∧ (pressTimes e n s).tx = s.tx ∧ (pressTimes e n s).rx = s.rx ∧
    (pressTimes e n s).nodes = s.nodes ∧ (pressTimes e n s).energy = s.energy ∧ (pressTimes e n s).setup = s.setup ∧
    (pressTimes e n s).store = s.store ∧
    (pressTimes e n s).power.state = s.power.state ∧ (pressTimes e n s).power.quietTimer = s.power.quietTimer ∧
    (pressTimes e n s).power.cause = s.power.cause ∧ (pressTimes e n s).tables = s.tables ∧
    (pressTimes e n s).pending = s.pending := by
  induction n generalizing s with
  | zero => simp [pressTimes]
  | succ n ih => simp [pressTimes, ih]

@[simp] theorem dispatch_frame (n : ℕ) (old : List ℕ) (new : List ℕ) (s : State) :
    (dispatch n old new s).phase = s.phase ∧ (dispatch n old new s).signals = s.signals ∧
    (dispatch n old new s).egress = s.egress ∧ (dispatch n old new s).tx = s.tx ∧ (dispatch n old new s).rx = s.rx ∧
    (dispatch n old new s).nodes = s.nodes ∧ (dispatch n old new s).energy = s.energy ∧
    (dispatch n old new s).setup = s.setup ∧ (dispatch n old new s).store = s.store ∧

    (dispatch n old new s).power.state = s.power.state ∧ (dispatch n old new s).power.quietTimer = s.power.quietTimer ∧
    (dispatch n old new s).power.cause = s.power.cause ∧ (dispatch n old new s).tables = s.tables ∧
    (dispatch n old new s).pending = s.pending := by
  unfold dispatch; try dsimp only
  first | (simp [State.ite_frame]; done) | ((repeat' split) <;> simp [State.ite_frame])

@[simp] theorem panelMessage_frame (p : ℕ) (s : State) :
    (panelMessage p s).phase = s.phase ∧ (panelMessage p s).signals = s.signals ∧
    (panelMessage p s).egress = s.egress ∧ (panelMessage p s).tx = s.tx ∧ (panelMessage p s).rx = s.rx ∧
    (panelMessage p s).nodes = s.nodes ∧ (panelMessage p s).energy = s.energy ∧ (panelMessage p s).setup = s.setup ∧
    (panelMessage p s).store = s.store ∧
    (panelMessage p s).power.state = s.power.state ∧ (panelMessage p s).power.quietTimer = s.power.quietTimer ∧
    (panelMessage p s).power.cause = s.power.cause ∧ (panelMessage p s).tables = s.tables ∧
    (panelMessage p s).pending = s.pending := by
  unfold panelMessage; try dsimp only
  first | (simp [State.ite_frame]; done) | ((repeat' split) <;> simp [State.ite_frame])

@[simp] theorem takeMark_frame (n : ℕ) (s : State) :
    (takeMark n s).phase = s.phase ∧ (takeMark n s).bus = s.bus ∧ (takeMark n s).egress = s.egress ∧
    (takeMark n s).tx = s.tx ∧ (takeMark n s).rx = s.rx ∧ (takeMark n s).nodes = s.nodes ∧
    (takeMark n s).panel = s.panel ∧ (takeMark n s).roster = s.roster ∧ (takeMark n s).energy = s.energy ∧
    (takeMark n s).heater = s.heater ∧ (takeMark n s).fridge = s.fridge ∧ (takeMark n s).lights = s.lights ∧
    (takeMark n s).rest = s.rest ∧ (takeMark n s).setup = s.setup ∧ (takeMark n s).store = s.store ∧
    (takeMark n s).notices = s.notices ∧ (takeMark n s).power = s.power ∧ (takeMark n s).ret = s.ret ∧
    (takeMark n s).tables = s.tables ∧ (takeMark n s).pending = s.pending := by
  unfold takeMark; try dsimp only
  first | (simp [State.ite_frame]; done) | ((repeat' split) <;> simp [State.ite_frame])

@[simp] theorem tellStored_frame (n : ℕ) (fresh : Bool) (s : State) :
    (tellStored n fresh s).phase = s.phase ∧ (tellStored n fresh s).egress = s.egress ∧
    (tellStored n fresh s).tx = s.tx ∧ (tellStored n fresh s).rx = s.rx ∧ (tellStored n fresh s).nodes = s.nodes ∧
    (tellStored n fresh s).energy = s.energy ∧ (tellStored n fresh s).setup = s.setup ∧
    (tellStored n fresh s).store = s.store ∧ (tellStored n fresh s).power = s.power ∧
    (tellStored n fresh s).tables = s.tables ∧ (tellStored n fresh s).pending = s.pending := by
  unfold tellStored; try dsimp only
  first | (simp [State.ite_frame]; done) | ((repeat' split) <;> simp [State.ite_frame])

@[simp] theorem tellLost_frame (n : ℕ) (s : State) :
    (tellLost n s).phase = s.phase ∧ (tellLost n s).egress = s.egress ∧ (tellLost n s).tx = s.tx ∧
    (tellLost n s).rx = s.rx ∧ (tellLost n s).nodes = s.nodes ∧ (tellLost n s).energy = s.energy ∧
    (tellLost n s).setup = s.setup ∧ (tellLost n s).store = s.store ∧ (tellLost n s).power = s.power ∧
    (tellLost n s).tables = s.tables ∧ (tellLost n s).pending = s.pending := by
  unfold tellLost; try dsimp only
  first | (simp [State.ite_frame]; done) | ((repeat' split) <;> simp [State.ite_frame])

@[simp] theorem countClamp_frame (s : State) :
    (countClamp s).phase = s.phase ∧ (countClamp s).signals = s.signals ∧ (countClamp s).egress = s.egress ∧
    (countClamp s).tx = s.tx ∧ (countClamp s).rx = s.rx ∧ (countClamp s).nodes = s.nodes ∧
    (countClamp s).panel = s.panel ∧ (countClamp s).roster = s.roster ∧ (countClamp s).energy = s.energy ∧
    (countClamp s).heater = s.heater ∧ (countClamp s).fridge = s.fridge ∧ (countClamp s).lights = s.lights ∧
    (countClamp s).rest = s.rest ∧ (countClamp s).setup = s.setup ∧ (countClamp s).store = s.store ∧
    (countClamp s).notices = s.notices ∧ (countClamp s).power = s.power ∧ (countClamp s).ret = s.ret ∧
    (countClamp s).tables = s.tables ∧ (countClamp s).pending = s.pending := by
  unfold countClamp; try dsimp only
  first | (simp [State.ite_frame]; done) | ((repeat' split) <;> simp [State.ite_frame])

@[simp] theorem storeSignal_frame (n : ℕ) (v : ℤ) (s : State) :
    (storeSignal n v s).phase = s.phase ∧ (storeSignal n v s).egress = s.egress ∧ (storeSignal n v s).tx = s.tx ∧
    (storeSignal n v s).rx = s.rx ∧ (storeSignal n v s).nodes = s.nodes ∧ (storeSignal n v s).energy = s.energy ∧
    (storeSignal n v s).setup = s.setup ∧ (storeSignal n v s).store = s.store ∧ (storeSignal n v s).power = s.power ∧
    (storeSignal n v s).tables = s.tables ∧ (storeSignal n v s).pending = s.pending := by
  unfold storeSignal; try dsimp only
  first | (simp [State.ite_frame]; done) | ((repeat' split) <;> simp [State.ite_frame])

@[simp] theorem turnStale_frame (n : ℕ) (s : State) :
    (turnStale n s).phase = s.phase ∧ (turnStale n s).egress = s.egress ∧ (turnStale n s).tx = s.tx ∧
    (turnStale n s).rx = s.rx ∧ (turnStale n s).nodes = s.nodes ∧ (turnStale n s).energy = s.energy ∧
    (turnStale n s).setup = s.setup ∧ (turnStale n s).store = s.store ∧ (turnStale n s).power = s.power ∧
    (turnStale n s).tables = s.tables ∧ (turnStale n s).pending = s.pending := by
  unfold turnStale; try dsimp only
  first | (simp [State.ite_frame]; done) | ((repeat' split) <;> simp [State.ite_frame])

@[simp] theorem redefine_frame (n : ℕ) (s : State) :
    (redefine n s).phase = s.phase ∧ (redefine n s).egress = s.egress ∧ (redefine n s).tx = s.tx ∧
    (redefine n s).rx = s.rx ∧ (redefine n s).nodes = s.nodes ∧ (redefine n s).energy = s.energy ∧
    (redefine n s).setup = s.setup ∧ (redefine n s).store = s.store ∧ (redefine n s).power = s.power ∧
    (redefine n s).tables = s.tables ∧ (redefine n s).pending = s.pending := by
  unfold redefine; try dsimp only
  first | (simp [State.ite_frame]; done) | ((repeat' split) <;> simp [State.ite_frame])

@[simp] theorem useValue_frame (e : IngressEntry) (v : ℤ) (s : State) :
    (useValue e v s).phase = s.phase ∧ (useValue e v s).egress = s.egress ∧ (useValue e v s).tx = s.tx ∧
    (useValue e v s).rx = s.rx ∧ (useValue e v s).nodes = s.nodes ∧ (useValue e v s).energy = s.energy ∧
    (useValue e v s).setup = s.setup ∧ (useValue e v s).store = s.store ∧ (useValue e v s).power = s.power ∧
    (useValue e v s).tables = s.tables ∧ (useValue e v s).pending = s.pending := by
  unfold useValue; try dsimp only
  first | (simp [State.ite_frame]; done) | ((repeat' split) <;> simp [State.ite_frame])

@[simp] theorem matchFrame_frame (f : RxFrame) (s : State) :
    (matchFrame f s).phase = s.phase ∧ (matchFrame f s).egress = s.egress ∧ (matchFrame f s).tx = s.tx ∧
    (matchFrame f s).rx = s.rx ∧ (matchFrame f s).nodes = s.nodes ∧ (matchFrame f s).energy = s.energy ∧
    (matchFrame f s).setup = s.setup ∧ (matchFrame f s).store = s.store ∧ (matchFrame f s).power = s.power ∧
    (matchFrame f s).tables = s.tables ∧ (matchFrame f s).pending = s.pending := by
  unfold matchFrame; try dsimp only
  first | (simp [State.ite_frame]; done) | ((repeat' split) <;> simp [State.ite_frame])

@[simp] theorem beginCycle_frame (s : State) :
    (beginCycle s).phase = s.phase ∧ (beginCycle s).bus = s.bus ∧ (beginCycle s).signals = s.signals ∧
    (beginCycle s).egress = s.egress ∧ (beginCycle s).rx = s.rx ∧ (beginCycle s).nodes = s.nodes ∧
    (beginCycle s).panel = s.panel ∧ (beginCycle s).roster = s.roster ∧ (beginCycle s).energy = s.energy ∧
    (beginCycle s).heater = s.heater ∧ (beginCycle s).fridge = s.fridge ∧ (beginCycle s).lights = s.lights ∧
    (beginCycle s).rest = s.rest ∧ (beginCycle s).setup = s.setup ∧ (beginCycle s).store = s.store ∧
    (beginCycle s).notices = s.notices ∧ (beginCycle s).power = s.power ∧ (beginCycle s).ret = s.ret ∧
    (beginCycle s).tables = s.tables ∧ (beginCycle s).pending = s.pending := by
  unfold beginCycle; try dsimp only
  first | (simp [State.ite_frame]; done) | ((repeat' split) <;> simp [State.ite_frame])

@[simp] theorem endCycle_frame (s : State) :
    (endCycle s).phase = s.phase ∧ (endCycle s).bus = s.bus ∧ (endCycle s).signals = s.signals ∧
    (endCycle s).egress = s.egress ∧ (endCycle s).rx = s.rx ∧ (endCycle s).nodes = s.nodes ∧
    (endCycle s).setup = s.setup ∧ (endCycle s).store = s.store ∧ (endCycle s).notices = s.notices ∧
    (endCycle s).power = s.power ∧ (endCycle s).tables = s.tables ∧ (endCycle s).pending = s.pending := by
  unfold endCycle; try dsimp only
  first | (simp [State.ite_frame]; done) | ((repeat' split) <;> simp [State.ite_frame])

/-- The end of a round touches nothing but its own mark. -/
@[simp] theorem roundEnds_frame (s : State) :
    (roundEnds s).tx = { s.tx with finishing := false } ∧
    (roundEnds s).phase = s.phase ∧ (roundEnds s).bus = s.bus ∧ (roundEnds s).signals = s.signals ∧
    (roundEnds s).egress = s.egress ∧ (roundEnds s).rx = s.rx ∧ (roundEnds s).nodes = s.nodes ∧
    (roundEnds s).panel = s.panel ∧ (roundEnds s).roster = s.roster ∧ (roundEnds s).energy = s.energy ∧
    (roundEnds s).heater = s.heater ∧ (roundEnds s).fridge = s.fridge ∧ (roundEnds s).lights = s.lights ∧
    (roundEnds s).rest = s.rest ∧ (roundEnds s).setup = s.setup ∧ (roundEnds s).store = s.store ∧
    (roundEnds s).notices = s.notices ∧ (roundEnds s).power = s.power ∧ (roundEnds s).ret = s.ret ∧
    (roundEnds s).tables = s.tables ∧ (roundEnds s).pending = s.pending :=
  ⟨rfl, rfl, rfl, rfl, rfl, rfl, rfl, rfl, rfl, rfl, rfl, rfl, rfl, rfl, rfl, rfl, rfl, rfl, rfl, rfl, rfl⟩

@[simp] theorem windowEnd_frame (s : State) :
    (windowEnd s).phase = s.phase ∧ (windowEnd s).signals = s.signals ∧ (windowEnd s).egress = s.egress ∧
    (windowEnd s).rx = s.rx ∧ (windowEnd s).nodes = s.nodes ∧ (windowEnd s).panel = s.panel ∧
    (windowEnd s).roster = s.roster ∧ (windowEnd s).energy = s.energy ∧ (windowEnd s).heater = s.heater ∧
    (windowEnd s).fridge = s.fridge ∧ (windowEnd s).lights = s.lights ∧ (windowEnd s).rest = s.rest ∧
    (windowEnd s).setup = s.setup ∧ (windowEnd s).store = s.store ∧ (windowEnd s).power = s.power ∧
    (windowEnd s).ret = s.ret ∧ (windowEnd s).tables = s.tables ∧ (windowEnd s).pending = s.pending := by
  unfold windowEnd; try dsimp only
  first | (simp [State.ite_frame]; done) | ((repeat' split) <;> simp [State.ite_frame])

@[simp] theorem tellLeft_frame (p : ℕ) (s : State) :
    (tellLeft p s).phase = s.phase ∧ (tellLeft p s).signals = s.signals ∧ (tellLeft p s).egress = s.egress ∧
    (tellLeft p s).tx = s.tx ∧ (tellLeft p s).rx = s.rx ∧ (tellLeft p s).nodes = s.nodes ∧
    (tellLeft p s).energy = s.energy ∧ (tellLeft p s).lights = s.lights ∧ (tellLeft p s).rest = s.rest ∧
    (tellLeft p s).setup = s.setup ∧ (tellLeft p s).store = s.store ∧ (tellLeft p s).power = s.power ∧
    (tellLeft p s).ret = s.ret ∧ (tellLeft p s).tables = s.tables ∧ (tellLeft p s).pending = s.pending := by
  unfold tellLeft; try dsimp only
  first | (simp [State.ite_frame]; done) | ((repeat' split) <;> simp [State.ite_frame])

@[simp] theorem tellStaleMark_frame (p : ℕ) (s : State) :
    (tellStaleMark p s).phase = s.phase ∧ (tellStaleMark p s).signals = s.signals ∧
    (tellStaleMark p s).egress = s.egress ∧ (tellStaleMark p s).tx = s.tx ∧ (tellStaleMark p s).rx = s.rx ∧
    (tellStaleMark p s).nodes = s.nodes ∧ (tellStaleMark p s).energy = s.energy ∧
    (tellStaleMark p s).setup = s.setup ∧ (tellStaleMark p s).store = s.store ∧ (tellStaleMark p s).power = s.power ∧
    (tellStaleMark p s).tables = s.tables ∧ (tellStaleMark p s).pending = s.pending := by
  unfold tellStaleMark; try dsimp only
  first | (simp [State.ite_frame]; done) | ((repeat' split) <;> simp [State.ite_frame])

@[simp] theorem tellPresent_frame (p : ℕ) (s : State) :
    (tellPresent p s).phase = s.phase ∧ (tellPresent p s).signals = s.signals ∧ (tellPresent p s).egress = s.egress ∧
    (tellPresent p s).tx = s.tx ∧ (tellPresent p s).rx = s.rx ∧ (tellPresent p s).nodes = s.nodes ∧
    (tellPresent p s).energy = s.energy ∧ (tellPresent p s).lights = s.lights ∧ (tellPresent p s).rest = s.rest ∧
    (tellPresent p s).setup = s.setup ∧ (tellPresent p s).store = s.store ∧ (tellPresent p s).power = s.power ∧
    (tellPresent p s).ret = s.ret ∧ (tellPresent p s).tables = s.tables ∧ (tellPresent p s).pending = s.pending := by
  unfold tellPresent; try dsimp only
  first | (simp [State.ite_frame]; done) | ((repeat' split) <;> simp [State.ite_frame])

@[simp] theorem raisePresence_frame (p : ℕ) (s : State) :
    (raisePresence p s).phase = s.phase ∧ (raisePresence p s).signals = s.signals ∧
    (raisePresence p s).egress = s.egress ∧ (raisePresence p s).tx = s.tx ∧ (raisePresence p s).rx = s.rx ∧
    (raisePresence p s).nodes = s.nodes ∧ (raisePresence p s).panel = s.panel ∧
    (raisePresence p s).roster = s.roster ∧ (raisePresence p s).energy = s.energy ∧
    (raisePresence p s).heater = s.heater ∧ (raisePresence p s).fridge = s.fridge ∧
    (raisePresence p s).lights = s.lights ∧ (raisePresence p s).rest = s.rest ∧ (raisePresence p s).setup = s.setup ∧
    (raisePresence p s).store = s.store ∧ (raisePresence p s).power = s.power ∧ (raisePresence p s).ret = s.ret ∧
    (raisePresence p s).tables = s.tables ∧ (raisePresence p s).pending = s.pending := by
  unfold raisePresence; try dsimp only
  first | (simp [State.ite_frame]; done) | ((repeat' split) <;> simp [State.ite_frame])

@[simp] theorem loseNode_frame (st : Presence) (p : ℕ) (s : State) :
    (loseNode st p s).phase = s.phase ∧ (loseNode st p s).signals = s.signals ∧ (loseNode st p s).egress = s.egress ∧
    (loseNode st p s).tx = s.tx ∧ (loseNode st p s).rx = s.rx ∧ (loseNode st p s).energy = s.energy ∧
    (loseNode st p s).setup = s.setup ∧ (loseNode st p s).store = s.store ∧ (loseNode st p s).power = s.power ∧
    (loseNode st p s).tables = s.tables ∧ (loseNode st p s).pending = s.pending := by
  unfold loseNode; try dsimp only
  first | (simp [State.ite_frame]; done) | ((repeat' split) <;> simp [State.ite_frame])

@[simp] theorem gainNode_frame (p : ℕ) (s : State) :
    (gainNode p s).phase = s.phase ∧ (gainNode p s).signals = s.signals ∧ (gainNode p s).egress = s.egress ∧
    (gainNode p s).tx = s.tx ∧ (gainNode p s).rx = s.rx ∧ (gainNode p s).energy = s.energy ∧
    (gainNode p s).lights = s.lights ∧ (gainNode p s).rest = s.rest ∧ (gainNode p s).setup = s.setup ∧
    (gainNode p s).store = s.store ∧ (gainNode p s).power = s.power ∧ (gainNode p s).ret = s.ret ∧
    (gainNode p s).tables = s.tables ∧ (gainNode p s).pending = s.pending := by
  unfold gainNode; try dsimp only
  first | (simp [State.ite_frame]; done) | ((repeat' split) <;> simp [State.ite_frame])

@[simp] theorem loopFails_frame (s : State) :
    (loopFails s).phase = s.phase ∧ (loopFails s).signals = s.signals ∧ (loopFails s).egress = s.egress ∧
    (loopFails s).rx = s.rx ∧ (loopFails s).energy = s.energy ∧ (loopFails s).setup = s.setup ∧
    (loopFails s).store = s.store ∧ (loopFails s).power = s.power ∧ (loopFails s).tables = s.tables ∧
    (loopFails s).pending = s.pending := by
  unfold loopFails; try dsimp only
  first | (simp [State.ite_frame]; done) | ((repeat' split) <;> simp [State.ite_frame])

@[simp] theorem tellAccepted_frame (p : ℕ) (old : NodeRec) (s : State) :
    (tellAccepted p old s).phase = s.phase ∧ (tellAccepted p old s).signals = s.signals ∧
    (tellAccepted p old s).egress = s.egress ∧ (tellAccepted p old s).tx = s.tx ∧ (tellAccepted p old s).rx = s.rx ∧
    (tellAccepted p old s).nodes = s.nodes ∧ (tellAccepted p old s).setup = s.setup ∧
    (tellAccepted p old s).store = s.store ∧
    (tellAccepted p old s).power.state = s.power.state ∧ (tellAccepted p old s).power.quietTimer = s.power.quietTimer ∧
    (tellAccepted p old s).power.cause = s.power.cause ∧
    (tellAccepted p old s).tables = s.tables ∧ (tellAccepted p old s).pending = s.pending := by
  unfold tellAccepted; try dsimp only
  first | (simp [State.ite_frame]; done) | ((repeat' split) <;> simp [State.ite_frame])

@[simp] theorem acceptMessage_frame (p : ℕ) (seq : ℕ) (d : Decoded) (s : State) :
    (acceptMessage p seq d s).phase = s.phase ∧ (acceptMessage p seq d s).signals = s.signals ∧
    (acceptMessage p seq d s).egress = s.egress ∧ (acceptMessage p seq d s).rx = s.rx ∧
    (acceptMessage p seq d s).setup = s.setup ∧ (acceptMessage p seq d s).store = s.store ∧

    (acceptMessage p seq d s).power.state = s.power.state ∧ (acceptMessage p seq d s).power.quietTimer = s.power.quietTimer ∧
    (acceptMessage p seq d s).power.cause = s.power.cause ∧ (acceptMessage p seq d s).tables = s.tables ∧
    (acceptMessage p seq d s).pending = s.pending := by
  unfold acceptMessage; try dsimp only
  first | (simp [State.ite_frame]; done) | ((repeat' split) <;> simp [State.ite_frame])

@[simp] theorem foreignMessage_frame (p : ℕ) (s : State) :
    (foreignMessage p s).phase = s.phase ∧ (foreignMessage p s).signals = s.signals ∧
    (foreignMessage p s).egress = s.egress ∧ (foreignMessage p s).tx = s.tx ∧ (foreignMessage p s).rx = s.rx ∧
    (foreignMessage p s).energy = s.energy ∧ (foreignMessage p s).setup = s.setup ∧
    (foreignMessage p s).store = s.store ∧ (foreignMessage p s).power = s.power ∧
    (foreignMessage p s).tables = s.tables ∧ (foreignMessage p s).pending = s.pending := by
  unfold foreignMessage; try dsimp only
  first | (simp [State.ite_frame]; done) | ((repeat' split) <;> simp [State.ite_frame])

@[simp] theorem testMessage_frame (m : ReadyMsg) (s : State) :
    (testMessage m s).phase = s.phase ∧ (testMessage m s).signals = s.signals ∧ (testMessage m s).egress = s.egress ∧
    (testMessage m s).rx = s.rx ∧ (testMessage m s).setup = s.setup ∧ (testMessage m s).store = s.store ∧

    (testMessage m s).power.state = s.power.state ∧ (testMessage m s).power.quietTimer = s.power.quietTimer ∧
    (testMessage m s).power.cause = s.power.cause ∧ (testMessage m s).tables = s.tables ∧ (testMessage m s).pending = s.pending := by
  unfold testMessage; try dsimp only
  first | (simp [State.ite_frame]; done) | ((repeat' split) <;> simp [State.ite_frame])

@[simp] theorem takeMessage_frame (s : State) :
    (takeMessage s).phase = s.phase ∧ (takeMessage s).signals = s.signals ∧ (takeMessage s).egress = s.egress ∧
    (takeMessage s).setup = s.setup ∧ (takeMessage s).store = s.store ∧
    (takeMessage s).power.state = s.power.state ∧ (takeMessage s).power.quietTimer = s.power.quietTimer ∧
    (takeMessage s).power.cause = s.power.cause ∧
    (takeMessage s).tables = s.tables ∧ (takeMessage s).pending = s.pending := by
  unfold takeMessage; try dsimp only
  first | (simp [State.ite_frame]; done) | ((repeat' split) <;> simp [State.ite_frame])

@[simp] theorem receivedCycleEnds_frame (s : State) :
    (receivedCycleEnds s).phase = s.phase ∧ (receivedCycleEnds s).bus = s.bus ∧
    (receivedCycleEnds s).signals = s.signals ∧ (receivedCycleEnds s).egress = s.egress ∧
    (receivedCycleEnds s).tx = s.tx ∧ (receivedCycleEnds s).panel = s.panel ∧
    (receivedCycleEnds s).roster = s.roster ∧ (receivedCycleEnds s).energy = s.energy ∧
    (receivedCycleEnds s).heater = s.heater ∧ (receivedCycleEnds s).fridge = s.fridge ∧
    (receivedCycleEnds s).lights = s.lights ∧ (receivedCycleEnds s).rest = s.rest ∧
    (receivedCycleEnds s).setup = s.setup ∧ (receivedCycleEnds s).store = s.store ∧
    (receivedCycleEnds s).notices = s.notices ∧ (receivedCycleEnds s).power = s.power ∧
    (receivedCycleEnds s).ret = s.ret ∧ (receivedCycleEnds s).tables = s.tables ∧
    (receivedCycleEnds s).pending = s.pending := by
  unfold receivedCycleEnds; try dsimp only
  first | (simp [State.ite_frame]; done) | ((repeat' split) <;> simp [State.ite_frame])

@[simp] theorem presenceDues_frame (s : State) :
    (presenceDues s).phase = s.phase ∧ (presenceDues s).signals = s.signals ∧ (presenceDues s).egress = s.egress ∧
    (presenceDues s).tx = s.tx ∧ (presenceDues s).rx = s.rx ∧ (presenceDues s).energy = s.energy ∧
    (presenceDues s).setup = s.setup ∧ (presenceDues s).store = s.store ∧
    (presenceDues s).power.state = s.power.state ∧ (presenceDues s).power.quietTimer = s.power.quietTimer ∧
    (presenceDues s).power.cause = s.power.cause ∧
    (presenceDues s).tables = s.tables ∧ (presenceDues s).pending = s.pending := by
  unfold presenceDues; try dsimp only
  simp [Power.ite_parts, State.ite_frame]

@[simp] theorem drainReceived_frame (s : State) :
    (drainReceived s).phase = s.phase ∧ (drainReceived s).signals = s.signals ∧ (drainReceived s).egress = s.egress ∧
    (drainReceived s).setup = s.setup ∧ (drainReceived s).store = s.store ∧
    (drainReceived s).power.state = s.power.state ∧ (drainReceived s).power.quietTimer = s.power.quietTimer ∧
    (drainReceived s).power.cause = s.power.cause ∧
    (drainReceived s).tables = s.tables ∧ (drainReceived s).pending = s.pending := by
  unfold drainReceived; try dsimp only
  first | (simp [State.ite_frame]; done) | ((repeat' split) <;> simp [State.ite_frame])

@[simp] theorem markAllStale_frame (s : State) :
    (markAllStale s).phase = s.phase ∧ (markAllStale s).signals = s.signals ∧ (markAllStale s).egress = s.egress ∧
    (markAllStale s).tx = s.tx ∧ (markAllStale s).rx = s.rx ∧ (markAllStale s).energy = s.energy ∧
    (markAllStale s).setup = s.setup ∧ (markAllStale s).store = s.store ∧ (markAllStale s).power = s.power ∧
    (markAllStale s).tables = s.tables ∧ (markAllStale s).pending = s.pending := by
  unfold markAllStale; try dsimp only
  first | (simp [State.ite_frame]; done) | ((repeat' split) <;> simp [State.ite_frame])

@[simp] theorem loseSync_frame (toSearch : Bool) (s : State) :
    (loseSync toSearch s).phase = s.phase ∧ (loseSync toSearch s).signals = s.signals ∧
    (loseSync toSearch s).egress = s.egress ∧ (loseSync toSearch s).setup = s.setup ∧
    (loseSync toSearch s).store = s.store ∧
    (loseSync toSearch s).power.state = s.power.state ∧ (loseSync toSearch s).power.quietTimer = s.power.quietTimer ∧
    (loseSync toSearch s).power.cause = s.power.cause ∧
    (loseSync toSearch s).tables = s.tables ∧ (loseSync toSearch s).pending = s.pending := by
  unfold loseSync; try dsimp only
  first | (simp [State.ite_frame]; done) | ((repeat' split) <;> simp [State.ite_frame])

@[simp] theorem enterInSync_frame (c : Candidate) (s : State) :
    (enterInSync c s).phase = s.phase ∧ (enterInSync c s).signals = s.signals ∧ (enterInSync c s).egress = s.egress ∧
    (enterInSync c s).nodes = s.nodes ∧ (enterInSync c s).panel = s.panel ∧ (enterInSync c s).roster = s.roster ∧
    (enterInSync c s).energy = s.energy ∧ (enterInSync c s).heater = s.heater ∧ (enterInSync c s).fridge = s.fridge ∧
    (enterInSync c s).lights = s.lights ∧ (enterInSync c s).rest = s.rest ∧ (enterInSync c s).setup = s.setup ∧
    (enterInSync c s).store = s.store ∧ (enterInSync c s).power = s.power ∧ (enterInSync c s).ret = s.ret ∧
    (enterInSync c s).tables = s.tables ∧ (enterInSync c s).pending = s.pending := by
  unfold enterInSync; try dsimp only
  first | (simp [State.ite_frame]; done) | ((repeat' split) <;> simp [State.ite_frame])

@[simp] theorem searchBit_frame (i : ℕ) (s : State) :
    (searchBit i s).phase = s.phase ∧ (searchBit i s).bus = s.bus ∧ (searchBit i s).signals = s.signals ∧
    (searchBit i s).egress = s.egress ∧ (searchBit i s).tx = s.tx ∧ (searchBit i s).nodes = s.nodes ∧
    (searchBit i s).panel = s.panel ∧ (searchBit i s).roster = s.roster ∧ (searchBit i s).energy = s.energy ∧
    (searchBit i s).heater = s.heater ∧ (searchBit i s).fridge = s.fridge ∧ (searchBit i s).lights = s.lights ∧
    (searchBit i s).rest = s.rest ∧ (searchBit i s).setup = s.setup ∧ (searchBit i s).store = s.store ∧
    (searchBit i s).notices = s.notices ∧ (searchBit i s).power = s.power ∧ (searchBit i s).ret = s.ret ∧
    (searchBit i s).tables = s.tables ∧ (searchBit i s).pending = s.pending := by
  unfold searchBit; try dsimp only
  first | (simp [State.ite_frame]; done) | ((repeat' split) <;> simp [State.ite_frame])

@[simp] theorem confirmBit_frame (i : ℕ) (b : Bool) (c : Candidate) (s : State) :
    (confirmBit i b c s).phase = s.phase ∧ (confirmBit i b c s).signals = s.signals ∧
    (confirmBit i b c s).egress = s.egress ∧ (confirmBit i b c s).nodes = s.nodes ∧
    (confirmBit i b c s).panel = s.panel ∧ (confirmBit i b c s).roster = s.roster ∧
    (confirmBit i b c s).energy = s.energy ∧ (confirmBit i b c s).heater = s.heater ∧
    (confirmBit i b c s).fridge = s.fridge ∧ (confirmBit i b c s).lights = s.lights ∧
    (confirmBit i b c s).rest = s.rest ∧ (confirmBit i b c s).setup = s.setup ∧
    (confirmBit i b c s).store = s.store ∧ (confirmBit i b c s).power = s.power ∧ (confirmBit i b c s).ret = s.ret ∧
    (confirmBit i b c s).tables = s.tables ∧ (confirmBit i b c s).pending = s.pending := by
  unfold confirmBit; try dsimp only
  first | (simp [State.ite_frame]; done) | ((repeat' split) <;> simp [State.ite_frame])

@[simp] theorem markerBit_frame (b : Bool) (s : State) :
    (markerBit b s).phase = s.phase ∧ (markerBit b s).signals = s.signals ∧ (markerBit b s).egress = s.egress ∧
    (markerBit b s).setup = s.setup ∧ (markerBit b s).store = s.store ∧
    (markerBit b s).power.state = s.power.state ∧ (markerBit b s).power.quietTimer = s.power.quietTimer ∧
    (markerBit b s).power.cause = s.power.cause ∧
    (markerBit b s).tables = s.tables ∧ (markerBit b s).pending = s.pending := by
  unfold markerBit; try dsimp only
  first | (simp [State.ite_frame]; done) | ((repeat' split) <;> simp [State.ite_frame])

@[simp] theorem slotDone_frame (bits : List Bool) (s : State) :
    (slotDone bits s).phase = s.phase ∧ (slotDone bits s).bus = s.bus ∧ (slotDone bits s).signals = s.signals ∧
    (slotDone bits s).egress = s.egress ∧ (slotDone bits s).nodes = s.nodes ∧ (slotDone bits s).panel = s.panel ∧
    (slotDone bits s).roster = s.roster ∧ (slotDone bits s).energy = s.energy ∧ (slotDone bits s).heater = s.heater ∧
    (slotDone bits s).fridge = s.fridge ∧ (slotDone bits s).lights = s.lights ∧ (slotDone bits s).rest = s.rest ∧
    (slotDone bits s).setup = s.setup ∧ (slotDone bits s).store = s.store ∧ (slotDone bits s).notices = s.notices ∧
    (slotDone bits s).power = s.power ∧ (slotDone bits s).ret = s.ret ∧ (slotDone bits s).tables = s.tables ∧
    (slotDone bits s).pending = s.pending := by
  unfold slotDone; try dsimp only
  first | (simp [State.ite_frame]; done) | ((repeat' split) <;> simp [State.ite_frame])

@[simp] theorem syncBit_frame (i : ℕ) (b : Bool) (s : State) :
    (syncBit i b s).phase = s.phase ∧ (syncBit i b s).signals = s.signals ∧ (syncBit i b s).egress = s.egress ∧
    (syncBit i b s).setup = s.setup ∧ (syncBit i b s).store = s.store ∧
    (syncBit i b s).power.state = s.power.state ∧ (syncBit i b s).power.quietTimer = s.power.quietTimer ∧
    (syncBit i b s).power.cause = s.power.cause ∧
    (syncBit i b s).tables = s.tables ∧ (syncBit i b s).pending = s.pending := by
  unfold syncBit; try dsimp only
  first | (simp [State.ite_frame]; done) | ((repeat' split) <;> simp [State.ite_frame])

@[simp] theorem receiveBit_frame (i : ℕ) (b : Bool) (s : State) :
    (receiveBit i b s).phase = s.phase ∧ (receiveBit i b s).signals = s.signals ∧
    (receiveBit i b s).egress = s.egress ∧ (receiveBit i b s).setup = s.setup ∧ (receiveBit i b s).store = s.store ∧

    (receiveBit i b s).power.state = s.power.state ∧ (receiveBit i b s).power.quietTimer = s.power.quietTimer ∧
    (receiveBit i b s).power.cause = s.power.cause ∧ (receiveBit i b s).tables = s.tables ∧ (receiveBit i b s).pending = s.pending := by
  unfold receiveBit; try dsimp only
  first | (simp [State.ite_frame]; done) | ((repeat' split) <;> simp [State.ite_frame])

@[simp] theorem receiveRound_frame (bits : BitVec 121) (s : State) :
    (receiveRound bits s).phase = s.phase ∧ (receiveRound bits s).signals = s.signals ∧
    (receiveRound bits s).egress = s.egress ∧ (receiveRound bits s).setup = s.setup ∧
    (receiveRound bits s).store = s.store ∧
    (receiveRound bits s).power.state = s.power.state ∧ (receiveRound bits s).power.quietTimer = s.power.quietTimer ∧
    (receiveRound bits s).power.cause = s.power.cause ∧
    (receiveRound bits s).tables = s.tables ∧ (receiveRound bits s).pending = s.pending := by
  unfold receiveRound; try dsimp only
  first | (simp [State.ite_frame]; done) | ((repeat' split) <;> simp [State.ite_frame])

@[simp] theorem reframe_frame (s : State) :
    (reframe s).phase = s.phase ∧ (reframe s).signals = s.signals ∧ (reframe s).egress = s.egress ∧
    (reframe s).setup = s.setup ∧ (reframe s).store = s.store ∧
    (reframe s).power.state = s.power.state ∧ (reframe s).power.quietTimer = s.power.quietTimer ∧
    (reframe s).power.cause = s.power.cause ∧
    (reframe s).tables = s.tables ∧ (reframe s).pending = s.pending := by
  unfold reframe; try dsimp only
  first | (simp [State.ite_frame]; done) | ((repeat' split) <;> simp [State.ite_frame])

@[simp] theorem startTransmit_frame (s : State) :
    (startTransmit s).phase = s.phase ∧ (startTransmit s).bus = s.bus ∧ (startTransmit s).signals = s.signals ∧
    (startTransmit s).egress = s.egress ∧ (startTransmit s).rx = s.rx ∧ (startTransmit s).nodes = s.nodes ∧
    (startTransmit s).panel = s.panel ∧ (startTransmit s).roster = s.roster ∧ (startTransmit s).energy = s.energy ∧
    (startTransmit s).heater = s.heater ∧ (startTransmit s).fridge = s.fridge ∧ (startTransmit s).lights = s.lights ∧
    (startTransmit s).rest = s.rest ∧ (startTransmit s).setup = s.setup ∧ (startTransmit s).store = s.store ∧
    (startTransmit s).notices = s.notices ∧ (startTransmit s).power = s.power ∧ (startTransmit s).ret = s.ret ∧
    (startTransmit s).tables = s.tables ∧ (startTransmit s).pending = s.pending := by
  unfold startTransmit; try dsimp only
  first | (simp [State.ite_frame]; done) | ((repeat' split) <;> simp [State.ite_frame])

@[simp] theorem nodesStartUp_frame (s : State) :
    (nodesStartUp s).phase = s.phase ∧ (nodesStartUp s).bus = s.bus ∧ (nodesStartUp s).signals = s.signals ∧
    (nodesStartUp s).egress = s.egress ∧ (nodesStartUp s).tx = s.tx ∧ (nodesStartUp s).rx = s.rx ∧
    (nodesStartUp s).panel = s.panel ∧ (nodesStartUp s).roster = s.roster ∧ (nodesStartUp s).energy = s.energy ∧
    (nodesStartUp s).heater = s.heater ∧ (nodesStartUp s).fridge = s.fridge ∧ (nodesStartUp s).lights = s.lights ∧
    (nodesStartUp s).rest = s.rest ∧ (nodesStartUp s).setup = s.setup ∧ (nodesStartUp s).store = s.store ∧
    (nodesStartUp s).notices = s.notices ∧ (nodesStartUp s).power = s.power ∧ (nodesStartUp s).ret = s.ret ∧
    (nodesStartUp s).tables = s.tables ∧ (nodesStartUp s).pending = s.pending := by
  unfold nodesStartUp; try dsimp only
  first | (simp [State.ite_frame]; done) | ((repeat' split) <;> simp [State.ite_frame])

@[simp] theorem loopWake_frame (s : State) :
    (loopWake s).phase = s.phase ∧ (loopWake s).signals = s.signals ∧ (loopWake s).egress = s.egress ∧
    (loopWake s).tx = s.tx ∧ (loopWake s).energy = s.energy ∧ (loopWake s).setup = s.setup ∧
    (loopWake s).store = s.store ∧ (loopWake s).power = s.power ∧ (loopWake s).tables = s.tables ∧
    (loopWake s).pending = s.pending := by
  unfold loopWake; try dsimp only
  first | (simp [State.ite_frame]; done) | ((repeat' split) <;> simp [State.ite_frame])

@[simp] theorem resetPosition_frame (p : ℕ) (k : NodeKind) (s : State) :
    (resetPosition p k s).phase = s.phase ∧ (resetPosition p k s).signals = s.signals ∧
    (resetPosition p k s).egress = s.egress ∧ (resetPosition p k s).energy = s.energy ∧
    (resetPosition p k s).setup = s.setup ∧ (resetPosition p k s).store = s.store ∧
    (resetPosition p k s).power = s.power ∧ (resetPosition p k s).tables = s.tables ∧
    (resetPosition p k s).pending = s.pending := by
  unfold resetPosition; try dsimp only
  first | (simp [State.ite_frame]; done) | ((repeat' split) <;> simp [State.ite_frame])

end Sys2Proof.Machine
end

