-- ==== Sys2Proof/Laws/FrameSetup.lean ====
section
/-! SUPPORT. Laws/FrameSetup.lean: which blocks of the state each operation leaves as they are: the egress pass and the setup channel. -/

namespace Sys2Proof.Machine

@[simp] theorem setCountdown_frame (i : ℕ) (n : ℕ) (s : State) :
    (setCountdown i n s).phase = s.phase ∧ (setCountdown i n s).bus = s.bus ∧
    (setCountdown i n s).signals = s.signals ∧ (setCountdown i n s).tx = s.tx ∧ (setCountdown i n s).rx = s.rx ∧
    (setCountdown i n s).nodes = s.nodes ∧ (setCountdown i n s).panel = s.panel ∧
    (setCountdown i n s).roster = s.roster ∧ (setCountdown i n s).energy = s.energy ∧
    (setCountdown i n s).heater = s.heater ∧ (setCountdown i n s).fridge = s.fridge ∧
    (setCountdown i n s).lights = s.lights ∧ (setCountdown i n s).rest = s.rest ∧
    (setCountdown i n s).setup = s.setup ∧ (setCountdown i n s).store = s.store ∧
    (setCountdown i n s).notices = s.notices ∧ (setCountdown i n s).power = s.power ∧
    (setCountdown i n s).ret = s.ret ∧ (setCountdown i n s).tables = s.tables ∧
    (setCountdown i n s).pending = s.pending := by
  unfold setCountdown; try dsimp only
  first | (simp [State.ite_frame]; done) | ((repeat' split) <;> simp [State.ite_frame])

@[simp] theorem onChange_frame (i : ℕ) (s : State) :
    (onChange i s).phase = s.phase ∧ (onChange i s).signals = s.signals ∧ (onChange i s).tx = s.tx ∧
    (onChange i s).rx = s.rx ∧ (onChange i s).nodes = s.nodes ∧ (onChange i s).panel = s.panel ∧
    (onChange i s).roster = s.roster ∧ (onChange i s).energy = s.energy ∧ (onChange i s).heater = s.heater ∧
    (onChange i s).fridge = s.fridge ∧ (onChange i s).lights = s.lights ∧ (onChange i s).rest = s.rest ∧
    (onChange i s).setup = s.setup ∧ (onChange i s).store = s.store ∧ (onChange i s).notices = s.notices ∧
    (onChange i s).power = s.power ∧ (onChange i s).ret = s.ret ∧ (onChange i s).tables = s.tables ∧
    (onChange i s).pending = s.pending := by
  unfold onChange; try dsimp only
  first | (simp [State.ite_frame]; done) | ((repeat' split) <;> simp [State.ite_frame])

@[simp] theorem endPass_frame (s : State) :
    (endPass s).phase = s.phase ∧ (endPass s).bus = s.bus ∧ (endPass s).tx = s.tx ∧ (endPass s).rx = s.rx ∧
    (endPass s).nodes = s.nodes ∧ (endPass s).panel = s.panel ∧ (endPass s).roster = s.roster ∧
    (endPass s).energy = s.energy ∧ (endPass s).heater = s.heater ∧ (endPass s).fridge = s.fridge ∧
    (endPass s).lights = s.lights ∧ (endPass s).rest = s.rest ∧ (endPass s).setup = s.setup ∧
    (endPass s).store = s.store ∧ (endPass s).notices = s.notices ∧ (endPass s).power = s.power ∧
    (endPass s).ret = s.ret ∧ (endPass s).tables = s.tables ∧ (endPass s).pending = s.pending := by
  unfold endPass; try dsimp only
  first | (simp [State.ite_frame]; done) | ((repeat' split) <;> simp [State.ite_frame])

@[simp] theorem passOver_frame (is : List Nat) (s : State) :
    (passOver is s).phase = s.phase ∧ (passOver is s).tx = s.tx ∧ (passOver is s).rx = s.rx ∧
    (passOver is s).nodes = s.nodes ∧ (passOver is s).panel = s.panel ∧ (passOver is s).roster = s.roster ∧
    (passOver is s).energy = s.energy ∧ (passOver is s).heater = s.heater ∧ (passOver is s).fridge = s.fridge ∧
    (passOver is s).lights = s.lights ∧ (passOver is s).rest = s.rest ∧ (passOver is s).setup = s.setup ∧
    (passOver is s).store = s.store ∧ (passOver is s).notices = s.notices ∧ (passOver is s).power = s.power ∧
    (passOver is s).ret = s.ret ∧ (passOver is s).tables = s.tables ∧ (passOver is s).pending = s.pending := by
  induction is generalizing s with
  | nil => simp [passOver]
  | cons i is ih => unfold passOver; dsimp only; (repeat' split) <;> simp [ih]

@[simp] theorem countdownExpires_frame (s : State) :
    (countdownExpires s).phase = s.phase ∧ (countdownExpires s).tx = s.tx ∧ (countdownExpires s).rx = s.rx ∧
    (countdownExpires s).nodes = s.nodes ∧ (countdownExpires s).panel = s.panel ∧
    (countdownExpires s).roster = s.roster ∧ (countdownExpires s).energy = s.energy ∧
    (countdownExpires s).heater = s.heater ∧ (countdownExpires s).fridge = s.fridge ∧
    (countdownExpires s).lights = s.lights ∧ (countdownExpires s).rest = s.rest ∧
    (countdownExpires s).setup = s.setup ∧ (countdownExpires s).store = s.store ∧
    (countdownExpires s).notices = s.notices ∧ (countdownExpires s).power = s.power ∧
    (countdownExpires s).ret = s.ret ∧ (countdownExpires s).tables = s.tables ∧
    (countdownExpires s).pending = s.pending := by
  unfold countdownExpires; try dsimp only
  first | (simp [State.ite_frame]; done) | ((repeat' split) <;> simp [State.ite_frame])

@[simp] theorem egressStartUp_frame (s : State) :
    (egressStartUp s).phase = s.phase ∧ (egressStartUp s).bus = s.bus ∧ (egressStartUp s).signals = s.signals ∧
    (egressStartUp s).tx = s.tx ∧ (egressStartUp s).rx = s.rx ∧ (egressStartUp s).nodes = s.nodes ∧
    (egressStartUp s).panel = s.panel ∧ (egressStartUp s).roster = s.roster ∧ (egressStartUp s).energy = s.energy ∧
    (egressStartUp s).heater = s.heater ∧ (egressStartUp s).fridge = s.fridge ∧ (egressStartUp s).lights = s.lights ∧
    (egressStartUp s).rest = s.rest ∧ (egressStartUp s).setup = s.setup ∧ (egressStartUp s).store = s.store ∧
    (egressStartUp s).notices = s.notices ∧ (egressStartUp s).power = s.power ∧ (egressStartUp s).ret = s.ret ∧
    (egressStartUp s).tables = s.tables ∧ (egressStartUp s).pending = s.pending := by
  unfold egressStartUp; try dsimp only
  first | (simp [State.ite_frame]; done) | ((repeat' split) <;> simp [State.ite_frame])

@[simp] theorem putEntry_frame (t : ℕ) (i : ℕ) (e : Entry) (s : State) :
    (putEntry t i e s).phase = s.phase ∧ (putEntry t i e s).bus = s.bus ∧ (putEntry t i e s).signals = s.signals ∧
    (putEntry t i e s).egress = s.egress ∧ (putEntry t i e s).tx = s.tx ∧ (putEntry t i e s).rx = s.rx ∧
    (putEntry t i e s).nodes = s.nodes ∧ (putEntry t i e s).panel = s.panel ∧ (putEntry t i e s).roster = s.roster ∧
    (putEntry t i e s).energy = s.energy ∧ (putEntry t i e s).heater = s.heater ∧
    (putEntry t i e s).fridge = s.fridge ∧ (putEntry t i e s).lights = s.lights ∧ (putEntry t i e s).rest = s.rest ∧
    (putEntry t i e s).setup = s.setup ∧ (putEntry t i e s).store = s.store ∧
    (putEntry t i e s).notices = s.notices ∧ (putEntry t i e s).power = s.power ∧ (putEntry t i e s).ret = s.ret ∧
    (putEntry t i e s).pending = s.pending := by
  unfold putEntry; try dsimp only
  first | (simp [State.ite_frame]; done) | ((repeat' split) <;> simp [State.ite_frame])

@[simp] theorem commitBus_frame (e : Entry) (s : State) :
    (commitBus e s).phase = s.phase ∧ (commitBus e s).signals = s.signals ∧ (commitBus e s).egress = s.egress ∧
    (commitBus e s).tx = s.tx ∧ (commitBus e s).rx = s.rx ∧ (commitBus e s).nodes = s.nodes ∧
    (commitBus e s).panel = s.panel ∧ (commitBus e s).roster = s.roster ∧ (commitBus e s).energy = s.energy ∧
    (commitBus e s).heater = s.heater ∧ (commitBus e s).fridge = s.fridge ∧ (commitBus e s).lights = s.lights ∧
    (commitBus e s).rest = s.rest ∧ (commitBus e s).setup = s.setup ∧ (commitBus e s).store = s.store ∧
    (commitBus e s).power = s.power ∧ (commitBus e s).ret = s.ret ∧ (commitBus e s).pending = s.pending := by
  unfold commitBus; try dsimp only
  first | (simp [State.ite_frame]; done) | ((repeat' split) <;> simp [State.ite_frame])

@[simp] theorem commitEnergy_frame (e : Entry) (s : State) :
    (commitEnergy e s).phase = s.phase ∧ (commitEnergy e s).bus = s.bus ∧ (commitEnergy e s).signals = s.signals ∧
    (commitEnergy e s).egress = s.egress ∧ (commitEnergy e s).tx = s.tx ∧ (commitEnergy e s).rx = s.rx ∧
    (commitEnergy e s).nodes = s.nodes ∧ (commitEnergy e s).panel = s.panel ∧ (commitEnergy e s).roster = s.roster ∧
    (commitEnergy e s).heater = s.heater ∧ (commitEnergy e s).fridge = s.fridge ∧
    (commitEnergy e s).lights = s.lights ∧ (commitEnergy e s).rest = s.rest ∧ (commitEnergy e s).setup = s.setup ∧
    (commitEnergy e s).store = s.store ∧ (commitEnergy e s).notices = s.notices ∧
    (commitEnergy e s).power = s.power ∧ (commitEnergy e s).pending = s.pending := by
  unfold commitEnergy; try dsimp only
  first | (simp [State.ite_frame]; done) | ((repeat' split) <;> simp [State.ite_frame])

@[simp] theorem commitClimate_frame (e : Entry) (s : State) :
    (commitClimate e s).phase = s.phase ∧ (commitClimate e s).signals = s.signals ∧
    (commitClimate e s).egress = s.egress ∧ (commitClimate e s).tx = s.tx ∧ (commitClimate e s).rx = s.rx ∧
    (commitClimate e s).nodes = s.nodes ∧ (commitClimate e s).energy = s.energy ∧
    (commitClimate e s).setup = s.setup ∧ (commitClimate e s).store = s.store ∧ (commitClimate e s).power = s.power ∧
    (commitClimate e s).pending = s.pending := by
  unfold commitClimate; try dsimp only
  first | (simp [State.ite_frame]; done) | ((repeat' split) <;> simp [State.ite_frame])

@[simp] theorem commitEgress_frame (i : ℕ) (e : Entry) (s : State) :
    (commitEgress i e s).phase = s.phase ∧ (commitEgress i e s).bus = s.bus ∧
    (commitEgress i e s).signals = s.signals ∧ (commitEgress i e s).tx = s.tx ∧ (commitEgress i e s).rx = s.rx ∧
    (commitEgress i e s).nodes = s.nodes ∧ (commitEgress i e s).panel = s.panel ∧
    (commitEgress i e s).roster = s.roster ∧ (commitEgress i e s).energy = s.energy ∧
    (commitEgress i e s).heater = s.heater ∧ (commitEgress i e s).fridge = s.fridge ∧
    (commitEgress i e s).lights = s.lights ∧ (commitEgress i e s).rest = s.rest ∧
    (commitEgress i e s).setup = s.setup ∧ (commitEgress i e s).store = s.store ∧
    (commitEgress i e s).notices = s.notices ∧ (commitEgress i e s).power = s.power ∧
    (commitEgress i e s).ret = s.ret ∧ (commitEgress i e s).pending = s.pending := by
  unfold commitEgress; try dsimp only
  first | (simp [State.ite_frame]; done) | ((repeat' split) <;> simp [State.ite_frame])

@[simp] theorem commitNodeMap_frame (p : ℕ) (e : Entry) (s : State) :
    (commitNodeMap p e s).phase = s.phase ∧ (commitNodeMap p e s).signals = s.signals ∧
    (commitNodeMap p e s).egress = s.egress ∧ (commitNodeMap p e s).energy = s.energy ∧
    (commitNodeMap p e s).setup = s.setup ∧ (commitNodeMap p e s).store = s.store ∧
    (commitNodeMap p e s).power = s.power ∧ (commitNodeMap p e s).pending = s.pending := by
  unfold commitNodeMap; try dsimp only
  first | (simp [State.ite_frame]; done) | ((repeat' split) <;> simp [State.ite_frame])

@[simp] theorem tellEntry_frame (i : ℕ) (s : State) :
    (tellEntry i s).phase = s.phase ∧ (tellEntry i s).signals = s.signals ∧ (tellEntry i s).egress = s.egress ∧
    (tellEntry i s).tx = s.tx ∧ (tellEntry i s).rx = s.rx ∧ (tellEntry i s).nodes = s.nodes ∧
    (tellEntry i s).panel = s.panel ∧ (tellEntry i s).energy = s.energy ∧ (tellEntry i s).lights = s.lights ∧
    (tellEntry i s).rest = s.rest ∧ (tellEntry i s).setup = s.setup ∧ (tellEntry i s).store = s.store ∧
    (tellEntry i s).power = s.power ∧ (tellEntry i s).ret = s.ret ∧ (tellEntry i s).tables = s.tables ∧
    (tellEntry i s).pending = s.pending := by
  unfold tellEntry; try dsimp only
  first | (simp [State.ite_frame]; done) | ((repeat' split) <;> simp [State.ite_frame])

@[simp] theorem commitRoster_frame (i : ℕ) (e : Entry) (s : State) :
    (commitRoster i e s).phase = s.phase ∧ (commitRoster i e s).signals = s.signals ∧
    (commitRoster i e s).egress = s.egress ∧ (commitRoster i e s).tx = s.tx ∧ (commitRoster i e s).rx = s.rx ∧
    (commitRoster i e s).nodes = s.nodes ∧ (commitRoster i e s).panel = s.panel ∧
    (commitRoster i e s).energy = s.energy ∧ (commitRoster i e s).lights = s.lights ∧
    (commitRoster i e s).rest = s.rest ∧ (commitRoster i e s).setup = s.setup ∧
    (commitRoster i e s).store = s.store ∧ (commitRoster i e s).power = s.power ∧
    (commitRoster i e s).pending = s.pending := by
  unfold commitRoster; try dsimp only
  first | (simp [State.ite_frame]; done) | ((repeat' split) <;> simp [State.ite_frame])

@[simp] theorem commitEntry_frame (t : ℕ) (i : ℕ) (e : Entry) (s : State) :
    (commitEntry t i e s).phase = s.phase ∧ (commitEntry t i e s).store = s.store ∧
    (commitEntry t i e s).power = s.power ∧ (commitEntry t i e s).pending = s.pending := by
  unfold commitEntry; try dsimp only
  first | (simp [State.ite_frame]; done) | ((repeat' split) <;> simp [State.ite_frame])

@[simp] theorem dropStaging_frame (s : State) :
    (dropStaging s).phase = s.phase ∧ (dropStaging s).bus = s.bus ∧ (dropStaging s).signals = s.signals ∧
    (dropStaging s).egress = s.egress ∧ (dropStaging s).tx = s.tx ∧ (dropStaging s).rx = s.rx ∧
    (dropStaging s).nodes = s.nodes ∧ (dropStaging s).panel = s.panel ∧ (dropStaging s).roster = s.roster ∧
    (dropStaging s).energy = s.energy ∧ (dropStaging s).heater = s.heater ∧ (dropStaging s).fridge = s.fridge ∧
    (dropStaging s).lights = s.lights ∧ (dropStaging s).rest = s.rest ∧ (dropStaging s).store = s.store ∧
    (dropStaging s).notices = s.notices ∧ (dropStaging s).power = s.power ∧ (dropStaging s).ret = s.ret ∧
    (dropStaging s).tables = s.tables ∧ (dropStaging s).pending = s.pending := by
  unfold dropStaging; try dsimp only
  first | (simp [State.ite_frame]; done) | ((repeat' split) <;> simp [State.ite_frame])

@[simp] theorem afterRead_frame (c : Cursor) (part : ℕ) (s : State) :
    (afterRead c part s).phase = s.phase ∧ (afterRead c part s).bus = s.bus ∧
    (afterRead c part s).signals = s.signals ∧ (afterRead c part s).egress = s.egress ∧
    (afterRead c part s).tx = s.tx ∧ (afterRead c part s).rx = s.rx ∧ (afterRead c part s).nodes = s.nodes ∧
    (afterRead c part s).panel = s.panel ∧ (afterRead c part s).roster = s.roster ∧
    (afterRead c part s).energy = s.energy ∧ (afterRead c part s).heater = s.heater ∧
    (afterRead c part s).fridge = s.fridge ∧ (afterRead c part s).lights = s.lights ∧
    (afterRead c part s).rest = s.rest ∧ (afterRead c part s).store = s.store ∧
    (afterRead c part s).notices = s.notices ∧ (afterRead c part s).power = s.power ∧
    (afterRead c part s).ret = s.ret ∧ (afterRead c part s).tables = s.tables ∧
    (afterRead c part s).pending = s.pending := by
  unfold afterRead; try dsimp only
  first | (simp [State.ite_frame]; done) | ((repeat' split) <;> simp [State.ite_frame])

@[simp] theorem saveEnds_frame (good : Bool) (s : State) :
    (saveEnds good s).phase = s.phase ∧ (saveEnds good s).signals = s.signals ∧ (saveEnds good s).egress = s.egress ∧
    (saveEnds good s).tx = s.tx ∧ (saveEnds good s).rx = s.rx ∧ (saveEnds good s).nodes = s.nodes ∧
    (saveEnds good s).panel = s.panel ∧ (saveEnds good s).roster = s.roster ∧ (saveEnds good s).energy = s.energy ∧
    (saveEnds good s).heater = s.heater ∧ (saveEnds good s).fridge = s.fridge ∧ (saveEnds good s).lights = s.lights ∧
    (saveEnds good s).rest = s.rest ∧ (saveEnds good s).power = s.power ∧ (saveEnds good s).ret = s.ret ∧
    (saveEnds good s).tables = s.tables ∧ (saveEnds good s).pending = s.pending := by
  unfold saveEnds; try dsimp only
  first | (simp [State.ite_frame]; done) | ((repeat' split) <;> simp [State.ite_frame])

@[simp] theorem lockWriteEnds_frame (good : Bool) (s : State) :
    (lockWriteEnds good s).phase = s.phase ∧ (lockWriteEnds good s).signals = s.signals ∧
    (lockWriteEnds good s).egress = s.egress ∧ (lockWriteEnds good s).tx = s.tx ∧ (lockWriteEnds good s).rx = s.rx ∧
    (lockWriteEnds good s).nodes = s.nodes ∧ (lockWriteEnds good s).panel = s.panel ∧
    (lockWriteEnds good s).roster = s.roster ∧ (lockWriteEnds good s).energy = s.energy ∧
    (lockWriteEnds good s).heater = s.heater ∧ (lockWriteEnds good s).fridge = s.fridge ∧
    (lockWriteEnds good s).lights = s.lights ∧ (lockWriteEnds good s).rest = s.rest ∧
    (lockWriteEnds good s).power = s.power ∧ (lockWriteEnds good s).ret = s.ret ∧
    (lockWriteEnds good s).tables = s.tables ∧ (lockWriteEnds good s).pending = s.pending := by
  unfold lockWriteEnds; try dsimp only
  first | (simp [State.ite_frame]; done) | ((repeat' split) <;> simp [State.ite_frame])

@[simp] theorem arrangeRestart_frame (c : ResetCause) (s : State) :
    (arrangeRestart c s).phase = s.phase ∧ (arrangeRestart c s).bus = s.bus ∧
    (arrangeRestart c s).signals = s.signals ∧ (arrangeRestart c s).egress = s.egress ∧
    (arrangeRestart c s).tx = s.tx ∧ (arrangeRestart c s).rx = s.rx ∧ (arrangeRestart c s).nodes = s.nodes ∧
    (arrangeRestart c s).panel = s.panel ∧ (arrangeRestart c s).roster = s.roster ∧
    (arrangeRestart c s).energy = s.energy ∧ (arrangeRestart c s).heater = s.heater ∧
    (arrangeRestart c s).fridge = s.fridge ∧ (arrangeRestart c s).lights = s.lights ∧
    (arrangeRestart c s).rest = s.rest ∧ (arrangeRestart c s).store = s.store ∧
    (arrangeRestart c s).notices = s.notices ∧ (arrangeRestart c s).power = s.power ∧
    (arrangeRestart c s).ret = s.ret ∧ (arrangeRestart c s).tables = s.tables ∧
    (arrangeRestart c s).pending = s.pending := by
  unfold arrangeRestart; try dsimp only
  first | (simp [State.ite_frame]; done) | ((repeat' split) <;> simp [State.ite_frame])

end Sys2Proof.Machine
end

