-- ==== Sys2Proof/Laws/FramePower.lean ====
section
/-! SUPPORT. Laws/FramePower.lean: which blocks of the state each operation leaves as they are: the power states, the settling and the commands. -/

namespace Sys2Proof.Machine

@[simp] theorem canActivity_frame (s : State) :
    (canActivity s).phase = s.phase ∧ (canActivity s).signals = s.signals ∧ (canActivity s).egress = s.egress ∧
    (canActivity s).tx = s.tx ∧ (canActivity s).rx = s.rx ∧ (canActivity s).nodes = s.nodes ∧
    (canActivity s).panel = s.panel ∧ (canActivity s).roster = s.roster ∧ (canActivity s).energy = s.energy ∧
    (canActivity s).heater = s.heater ∧ (canActivity s).fridge = s.fridge ∧ (canActivity s).lights = s.lights ∧
    (canActivity s).rest = s.rest ∧ (canActivity s).setup = s.setup ∧ (canActivity s).store = s.store ∧
    (canActivity s).ret = s.ret ∧ (canActivity s).tables = s.tables ∧ (canActivity s).pending = s.pending := by
  unfold canActivity; try dsimp only
  first | (simp [State.ite_frame]; done) | ((repeat' split) <;> simp [State.ite_frame])

@[simp] theorem quietExpires_frame (s : State) :
    (quietExpires s).phase = s.phase ∧ (quietExpires s).signals = s.signals ∧ (quietExpires s).egress = s.egress ∧
    (quietExpires s).tx = s.tx ∧ (quietExpires s).rx = s.rx ∧ (quietExpires s).nodes = s.nodes ∧
    (quietExpires s).panel = s.panel ∧ (quietExpires s).roster = s.roster ∧ (quietExpires s).energy = s.energy ∧
    (quietExpires s).heater = s.heater ∧ (quietExpires s).fridge = s.fridge ∧ (quietExpires s).lights = s.lights ∧
    (quietExpires s).rest = s.rest ∧ (quietExpires s).setup = s.setup ∧ (quietExpires s).store = s.store ∧
    (quietExpires s).ret = s.ret ∧ (quietExpires s).tables = s.tables ∧ (quietExpires s).pending = s.pending := by
  unfold quietExpires; try dsimp only
  first | (simp [State.ite_frame]; done) | ((repeat' split) <;> simp [State.ite_frame])

@[simp] theorem enterStandby_frame (s : State) :
    (enterStandby s).phase = s.phase ∧ (enterStandby s).signals = s.signals ∧ (enterStandby s).egress = s.egress ∧
    (enterStandby s).tx = { s.tx with finishing := true } ∧ (enterStandby s).rx = s.rx ∧ (enterStandby s).nodes = s.nodes ∧
    (enterStandby s).panel = s.panel ∧ (enterStandby s).roster = s.roster ∧ (enterStandby s).heater = s.heater ∧
    (enterStandby s).fridge = s.fridge ∧ (enterStandby s).rest = s.rest ∧ (enterStandby s).setup = s.setup ∧
    (enterStandby s).store = s.store ∧ (enterStandby s).ret = s.ret ∧ (enterStandby s).tables = s.tables ∧
    (enterStandby s).pending = s.pending := by
  unfold enterStandby; try dsimp only
  first | (simp [State.ite_frame]; done) | ((repeat' split) <;> simp [State.ite_frame])

@[simp] theorem signalsWake_frame (s : State) :
    (signalsWake s).phase = s.phase ∧ (signalsWake s).egress = s.egress ∧ (signalsWake s).tx = s.tx ∧
    (signalsWake s).rx = s.rx ∧ (signalsWake s).nodes = s.nodes ∧ (signalsWake s).energy = s.energy ∧
    (signalsWake s).setup = s.setup ∧ (signalsWake s).store = s.store ∧ (signalsWake s).power = s.power ∧
    (signalsWake s).tables = s.tables ∧ (signalsWake s).pending = s.pending := by
  unfold signalsWake; try dsimp only
  first | (simp [State.ite_frame]; done) | ((repeat' split) <;> simp [State.ite_frame])

@[simp] theorem wake_frame (st : PowerState) (s : State) :
    (wake st s).phase = s.phase ∧ (wake st s).egress = s.egress ∧ (wake st s).energy = s.energy ∧
    (wake st s).setup = s.setup ∧ (wake st s).store = s.store ∧ (wake st s).tables = s.tables ∧
    (wake st s).pending = s.pending := by
  unfold wake; try dsimp only
  first | (simp [State.ite_frame]; done) | ((repeat' split) <;> simp [State.ite_frame])

@[simp] theorem minutePasses_frame (s : State) :
    (minutePasses s).phase = s.phase ∧ (minutePasses s).egress = s.egress ∧ (minutePasses s).energy = s.energy ∧
    (minutePasses s).setup = s.setup ∧ (minutePasses s).store = s.store ∧ (minutePasses s).tables = s.tables ∧
    (minutePasses s).pending = s.pending := by
  unfold minutePasses; try dsimp only
  first | (simp [State.ite_frame]; done) | ((repeat' split) <;> simp [State.ite_frame])

@[simp] theorem blocksStartUp_frame (s : State) :
    (blocksStartUp s).phase = s.phase ∧ (blocksStartUp s).signals = s.signals ∧ (blocksStartUp s).tx = s.tx ∧
    (blocksStartUp s).rx = s.rx ∧ (blocksStartUp s).setup = s.setup ∧ (blocksStartUp s).store = s.store ∧
    (blocksStartUp s).power = s.power ∧ (blocksStartUp s).tables = s.tables ∧ (blocksStartUp s).pending = s.pending := by
  unfold blocksStartUp; try dsimp only
  first | (simp [State.ite_frame]; done) | ((repeat' split) <;> simp [State.ite_frame])

@[simp] theorem openReception_frame (s : State) :
    (openReception s).signals = s.signals ∧ (openReception s).egress = s.egress ∧ (openReception s).rx = s.rx ∧
    (openReception s).nodes = s.nodes ∧ (openReception s).panel = s.panel ∧ (openReception s).roster = s.roster ∧
    (openReception s).energy = s.energy ∧ (openReception s).heater = s.heater ∧ (openReception s).fridge = s.fridge ∧
    (openReception s).lights = s.lights ∧ (openReception s).rest = s.rest ∧ (openReception s).setup = s.setup ∧
    (openReception s).store = s.store ∧ (openReception s).ret = s.ret ∧ (openReception s).tables = s.tables ∧
    (openReception s).pending = s.pending := by
  unfold openReception; try dsimp only
  first | (simp [State.ite_frame]; done) | ((repeat' split) <;> simp [State.ite_frame])

@[simp] theorem startUpWith_frame (d : StoreDamage) (s : State) :
    (startUpWith d s).signals = s.signals ∧ (startUpWith d s).rx = s.rx ∧ (startUpWith d s).pending = s.pending := by
  unfold startUpWith; try dsimp only
  first | (simp [State.ite_frame]; done) | ((repeat' split) <;> simp [State.ite_frame])

@[simp] theorem signalStaleStep_frame (n : ℕ) (s : State) :
    (signalStaleStep n s).phase = s.phase ∧ (signalStaleStep n s).egress = s.egress ∧
    (signalStaleStep n s).tx = s.tx ∧ (signalStaleStep n s).rx = s.rx ∧ (signalStaleStep n s).nodes = s.nodes ∧
    (signalStaleStep n s).energy = s.energy ∧ (signalStaleStep n s).setup = s.setup ∧
    (signalStaleStep n s).store = s.store ∧
    (signalStaleStep n s).power.state = s.power.state ∧ (signalStaleStep n s).power.quietTimer = s.power.quietTimer ∧
    (signalStaleStep n s).power.cause = s.power.cause ∧
    (signalStaleStep n s).tables = s.tables ∧ (signalStaleStep n s).pending = s.pending := by
  unfold signalStaleStep; try dsimp only
  first | (simp [State.ite_frame]; done) | ((repeat' split) <;> simp [State.ite_frame])

@[simp] theorem busOffStep_frame (s : State) :
    (busOffStep s).phase = s.phase ∧ (busOffStep s).signals = s.signals ∧ (busOffStep s).egress = s.egress ∧
    (busOffStep s).tx = s.tx ∧ (busOffStep s).rx = s.rx ∧ (busOffStep s).nodes = s.nodes ∧
    (busOffStep s).panel = s.panel ∧ (busOffStep s).roster = s.roster ∧ (busOffStep s).energy = s.energy ∧
    (busOffStep s).heater = s.heater ∧ (busOffStep s).fridge = s.fridge ∧ (busOffStep s).lights = s.lights ∧
    (busOffStep s).rest = s.rest ∧ (busOffStep s).setup = s.setup ∧ (busOffStep s).store = s.store ∧
    (busOffStep s).notices = s.notices ∧ (busOffStep s).power = s.power ∧ (busOffStep s).ret = s.ret ∧
    (busOffStep s).tables = s.tables ∧ (busOffStep s).pending = s.pending := by
  unfold busOffStep; try dsimp only
  first | (simp [State.ite_frame]; done) | ((repeat' split) <;> simp [State.ite_frame])

@[simp] theorem admissionStep_frame (s : State) :
    (admissionStep s).phase = s.phase ∧ (admissionStep s).signals = s.signals ∧ (admissionStep s).egress = s.egress ∧
    (admissionStep s).tx = s.tx ∧ (admissionStep s).rx = s.rx ∧ (admissionStep s).nodes = s.nodes ∧
    (admissionStep s).panel = s.panel ∧ (admissionStep s).roster = s.roster ∧ (admissionStep s).energy = s.energy ∧
    (admissionStep s).heater = s.heater ∧ (admissionStep s).fridge = s.fridge ∧ (admissionStep s).lights = s.lights ∧
    (admissionStep s).rest = s.rest ∧ (admissionStep s).store = s.store ∧ (admissionStep s).power = s.power ∧
    (admissionStep s).ret = s.ret ∧ (admissionStep s).tables = s.tables ∧ (admissionStep s).pending = s.pending := by
  unfold admissionStep; try dsimp only
  first | (simp [State.ite_frame]; done) | ((repeat' split) <;> simp [State.ite_frame])

@[simp] theorem blindStep_frame (s : State) :
    (blindStep s).phase = s.phase ∧ (blindStep s).bus = s.bus ∧ (blindStep s).signals = s.signals ∧
    (blindStep s).egress = s.egress ∧ (blindStep s).tx = s.tx ∧ (blindStep s).rx = s.rx ∧
    (blindStep s).nodes = s.nodes ∧ (blindStep s).panel = s.panel ∧ (blindStep s).roster = s.roster ∧
    (blindStep s).heater = s.heater ∧ (blindStep s).fridge = s.fridge ∧ (blindStep s).lights = s.lights ∧
    (blindStep s).rest = s.rest ∧ (blindStep s).setup = s.setup ∧ (blindStep s).store = s.store ∧
    (blindStep s).notices = s.notices ∧ (blindStep s).power = s.power ∧ (blindStep s).ret = s.ret ∧
    (blindStep s).tables = s.tables ∧ (blindStep s).pending = s.pending := by
  unfold blindStep; try dsimp only
  first | (simp [State.ite_frame]; done) | ((repeat' split) <;> simp [State.ite_frame])

@[simp] theorem loopFailedStep_frame (s : State) :
    (loopFailedStep s).phase = s.phase ∧ (loopFailedStep s).signals = s.signals ∧
    (loopFailedStep s).egress = s.egress ∧ (loopFailedStep s).rx = s.rx ∧ (loopFailedStep s).energy = s.energy ∧
    (loopFailedStep s).setup = s.setup ∧ (loopFailedStep s).store = s.store ∧
    (loopFailedStep s).power.state = s.power.state ∧ (loopFailedStep s).power.quietTimer = s.power.quietTimer ∧
    (loopFailedStep s).power.cause = s.power.cause ∧
    (loopFailedStep s).tables = s.tables ∧ (loopFailedStep s).pending = s.pending := by
  unfold loopFailedStep; try dsimp only
  first | (simp [State.ite_frame]; done) | ((repeat' split) <;> simp [State.ite_frame])

@[simp] theorem windowEndStep_frame (s : State) :
    (windowEndStep s).phase = s.phase ∧ (windowEndStep s).signals = s.signals ∧ (windowEndStep s).egress = s.egress ∧
    (windowEndStep s).rx = s.rx ∧ (windowEndStep s).nodes = s.nodes ∧ (windowEndStep s).panel = s.panel ∧
    (windowEndStep s).roster = s.roster ∧ (windowEndStep s).energy = s.energy ∧ (windowEndStep s).heater = s.heater ∧
    (windowEndStep s).fridge = s.fridge ∧ (windowEndStep s).lights = s.lights ∧ (windowEndStep s).rest = s.rest ∧
    (windowEndStep s).setup = s.setup ∧ (windowEndStep s).store = s.store ∧ (windowEndStep s).power = s.power ∧
    (windowEndStep s).ret = s.ret ∧ (windowEndStep s).tables = s.tables ∧ (windowEndStep s).pending = s.pending := by
  unfold windowEndStep; try dsimp only
  first | (simp [State.ite_frame]; done) | ((repeat' split) <;> simp [State.ite_frame])

@[simp] theorem commandStallStep_frame (p : ℕ) (s : State) :
    (commandStallStep p s).phase = s.phase ∧ (commandStallStep p s).bus = s.bus ∧
    (commandStallStep p s).signals = s.signals ∧ (commandStallStep p s).egress = s.egress ∧
    (commandStallStep p s).rx = s.rx ∧ (commandStallStep p s).nodes = s.nodes ∧
    (commandStallStep p s).panel = s.panel ∧ (commandStallStep p s).roster = s.roster ∧
    (commandStallStep p s).energy = s.energy ∧ (commandStallStep p s).heater = s.heater ∧
    (commandStallStep p s).fridge = s.fridge ∧ (commandStallStep p s).lights = s.lights ∧
    (commandStallStep p s).rest = s.rest ∧ (commandStallStep p s).setup = s.setup ∧
    (commandStallStep p s).store = s.store ∧ (commandStallStep p s).notices = s.notices ∧
    (commandStallStep p s).power = s.power ∧ (commandStallStep p s).ret = s.ret ∧
    (commandStallStep p s).tables = s.tables ∧ (commandStallStep p s).pending = s.pending := by
  unfold commandStallStep; try dsimp only
  first | (simp [State.ite_frame]; done) | ((repeat' split) <;> simp [State.ite_frame])

@[simp] theorem statusMessageStep_frame (s : State) :
    (statusMessageStep s).phase = s.phase ∧ (statusMessageStep s).signals = s.signals ∧
    (statusMessageStep s).egress = s.egress ∧ (statusMessageStep s).setup = s.setup ∧
    (statusMessageStep s).store = s.store ∧
    (statusMessageStep s).power.state = s.power.state ∧ (statusMessageStep s).power.quietTimer = s.power.quietTimer ∧
    (statusMessageStep s).power.cause = s.power.cause ∧
    (statusMessageStep s).tables = s.tables ∧ (statusMessageStep s).pending = s.pending := by
  unfold statusMessageStep; try dsimp only
  first | (simp [State.ite_frame]; done) | ((repeat' split) <;> simp [State.ite_frame])

@[simp] theorem receivedCycleEndStep_frame (s : State) :
    (receivedCycleEndStep s).phase = s.phase ∧ (receivedCycleEndStep s).bus = s.bus ∧
    (receivedCycleEndStep s).signals = s.signals ∧ (receivedCycleEndStep s).egress = s.egress ∧
    (receivedCycleEndStep s).tx = s.tx ∧ (receivedCycleEndStep s).panel = s.panel ∧
    (receivedCycleEndStep s).roster = s.roster ∧ (receivedCycleEndStep s).energy = s.energy ∧
    (receivedCycleEndStep s).heater = s.heater ∧ (receivedCycleEndStep s).fridge = s.fridge ∧
    (receivedCycleEndStep s).lights = s.lights ∧ (receivedCycleEndStep s).rest = s.rest ∧
    (receivedCycleEndStep s).setup = s.setup ∧ (receivedCycleEndStep s).store = s.store ∧
    (receivedCycleEndStep s).notices = s.notices ∧ (receivedCycleEndStep s).power = s.power ∧
    (receivedCycleEndStep s).ret = s.ret ∧ (receivedCycleEndStep s).tables = s.tables ∧
    (receivedCycleEndStep s).pending = s.pending := by
  unfold receivedCycleEndStep; try dsimp only
  first | (simp [State.ite_frame]; done) | ((repeat' split) <;> simp [State.ite_frame])

@[simp] theorem nodePresentStep_frame (p : ℕ) (s : State) :
    (nodePresentStep p s).phase = s.phase ∧ (nodePresentStep p s).signals = s.signals ∧
    (nodePresentStep p s).egress = s.egress ∧ (nodePresentStep p s).tx = s.tx ∧ (nodePresentStep p s).rx = s.rx ∧
    (nodePresentStep p s).energy = s.energy ∧ (nodePresentStep p s).lights = s.lights ∧
    (nodePresentStep p s).rest = s.rest ∧ (nodePresentStep p s).setup = s.setup ∧
    (nodePresentStep p s).store = s.store ∧
    (nodePresentStep p s).power.state = s.power.state ∧ (nodePresentStep p s).power.quietTimer = s.power.quietTimer ∧
    (nodePresentStep p s).power.cause = s.power.cause ∧
    (nodePresentStep p s).ret = s.ret ∧ (nodePresentStep p s).tables = s.tables ∧
    (nodePresentStep p s).pending = s.pending := by
  unfold nodePresentStep; try dsimp only
  first | (simp [State.ite_frame]; done) | ((repeat' split) <;> simp [State.ite_frame])

@[simp] theorem nodeLostStep_frame (p : ℕ) (s : State) :
    (nodeLostStep p s).phase = s.phase ∧ (nodeLostStep p s).signals = s.signals ∧
    (nodeLostStep p s).egress = s.egress ∧ (nodeLostStep p s).tx = s.tx ∧ (nodeLostStep p s).rx = s.rx ∧
    (nodeLostStep p s).energy = s.energy ∧ (nodeLostStep p s).setup = s.setup ∧ (nodeLostStep p s).store = s.store ∧

    (nodeLostStep p s).power.state = s.power.state ∧ (nodeLostStep p s).power.quietTimer = s.power.quietTimer ∧
    (nodeLostStep p s).power.cause = s.power.cause ∧ (nodeLostStep p s).tables = s.tables ∧ (nodeLostStep p s).pending = s.pending := by
  unfold nodeLostStep; try dsimp only
  first | (simp [State.ite_frame]; done) | ((repeat' split) <;> simp [State.ite_frame])

@[simp] theorem estimateCloseStep_frame (s : State) :
    (estimateCloseStep s).phase = s.phase ∧ (estimateCloseStep s).bus = s.bus ∧
    (estimateCloseStep s).signals = s.signals ∧ (estimateCloseStep s).egress = s.egress ∧
    (estimateCloseStep s).tx = s.tx ∧ (estimateCloseStep s).rx = s.rx ∧ (estimateCloseStep s).nodes = s.nodes ∧
    (estimateCloseStep s).panel = s.panel ∧ (estimateCloseStep s).roster = s.roster ∧
    (estimateCloseStep s).heater = s.heater ∧ (estimateCloseStep s).fridge = s.fridge ∧
    (estimateCloseStep s).lights = s.lights ∧ (estimateCloseStep s).rest = s.rest ∧
    (estimateCloseStep s).setup = s.setup ∧ (estimateCloseStep s).store = s.store ∧
    (estimateCloseStep s).notices = s.notices ∧ (estimateCloseStep s).power = s.power ∧
    (estimateCloseStep s).ret = s.ret ∧ (estimateCloseStep s).tables = s.tables ∧
    (estimateCloseStep s).pending = s.pending := by
  unfold estimateCloseStep; try dsimp only
  first | (simp [State.ite_frame]; done) | ((repeat' split) <;> simp [State.ite_frame])

@[simp] theorem levelAssertStep_frame (l : WatchLevel) (s : State) :
    (levelAssertStep l s).phase = s.phase ∧ (levelAssertStep l s).signals = s.signals ∧
    (levelAssertStep l s).egress = s.egress ∧ (levelAssertStep l s).tx = s.tx ∧ (levelAssertStep l s).rx = s.rx ∧
    (levelAssertStep l s).nodes = s.nodes ∧ (levelAssertStep l s).panel = s.panel ∧
    (levelAssertStep l s).roster = s.roster ∧ (levelAssertStep l s).heater = s.heater ∧
    (levelAssertStep l s).fridge = s.fridge ∧ (levelAssertStep l s).lights = s.lights ∧
    (levelAssertStep l s).rest = s.rest ∧ (levelAssertStep l s).setup = s.setup ∧
    (levelAssertStep l s).store = s.store ∧
    (levelAssertStep l s).power.state = s.power.state ∧ (levelAssertStep l s).power.quietTimer = s.power.quietTimer ∧
    (levelAssertStep l s).power.cause = s.power.cause ∧
    (levelAssertStep l s).ret = s.ret ∧ (levelAssertStep l s).tables = s.tables ∧
    (levelAssertStep l s).pending = s.pending := by
  unfold levelAssertStep; try dsimp only
  first | (simp [State.ite_frame]; done) | ((repeat' split) <;> simp [State.ite_frame])

@[simp] theorem levelClearStep_frame (l : WatchLevel) (s : State) :
    (levelClearStep l s).phase = s.phase ∧ (levelClearStep l s).signals = s.signals ∧
    (levelClearStep l s).egress = s.egress ∧ (levelClearStep l s).tx = s.tx ∧ (levelClearStep l s).rx = s.rx ∧
    (levelClearStep l s).nodes = s.nodes ∧ (levelClearStep l s).panel = s.panel ∧
    (levelClearStep l s).heater = s.heater ∧ (levelClearStep l s).fridge = s.fridge ∧
    (levelClearStep l s).lights = s.lights ∧ (levelClearStep l s).rest = s.rest ∧
    (levelClearStep l s).setup = s.setup ∧ (levelClearStep l s).store = s.store ∧

    (levelClearStep l s).power.state = s.power.state ∧ (levelClearStep l s).power.quietTimer = s.power.quietTimer ∧
    (levelClearStep l s).power.cause = s.power.cause ∧ (levelClearStep l s).ret = s.ret ∧
    (levelClearStep l s).tables = s.tables ∧ (levelClearStep l s).pending = s.pending := by
  unfold levelClearStep; try dsimp only
  first | (simp [State.ite_frame]; done) | ((repeat' split) <;> simp [State.ite_frame])

@[simp] theorem fullChargeStep_frame (s : State) :
    (fullChargeStep s).phase = s.phase ∧ (fullChargeStep s).bus = s.bus ∧ (fullChargeStep s).signals = s.signals ∧
    (fullChargeStep s).egress = s.egress ∧ (fullChargeStep s).tx = s.tx ∧ (fullChargeStep s).rx = s.rx ∧
    (fullChargeStep s).nodes = s.nodes ∧ (fullChargeStep s).panel = s.panel ∧ (fullChargeStep s).roster = s.roster ∧
    (fullChargeStep s).heater = s.heater ∧ (fullChargeStep s).fridge = s.fridge ∧
    (fullChargeStep s).lights = s.lights ∧ (fullChargeStep s).rest = s.rest ∧ (fullChargeStep s).setup = s.setup ∧
    (fullChargeStep s).store = s.store ∧ (fullChargeStep s).notices = s.notices ∧
    (fullChargeStep s).power = s.power ∧ (fullChargeStep s).tables = s.tables ∧ (fullChargeStep s).pending = s.pending := by
  unfold fullChargeStep; try dsimp only
  first | (simp [State.ite_frame]; done) | ((repeat' split) <;> simp [State.ite_frame])

@[simp] theorem manualLimitStep_frame (s : State) :
    (manualLimitStep s).phase = s.phase ∧ (manualLimitStep s).bus = s.bus ∧ (manualLimitStep s).signals = s.signals ∧
    (manualLimitStep s).egress = s.egress ∧ (manualLimitStep s).tx = s.tx ∧ (manualLimitStep s).rx = s.rx ∧
    (manualLimitStep s).nodes = s.nodes ∧ (manualLimitStep s).panel = s.panel ∧
    (manualLimitStep s).energy = s.energy ∧ (manualLimitStep s).lights = s.lights ∧
    (manualLimitStep s).rest = s.rest ∧ (manualLimitStep s).setup = s.setup ∧ (manualLimitStep s).store = s.store ∧
    (manualLimitStep s).notices = s.notices ∧
    (manualLimitStep s).power.state = s.power.state ∧ (manualLimitStep s).power.quietTimer = s.power.quietTimer ∧
    (manualLimitStep s).power.cause = s.power.cause ∧ (manualLimitStep s).ret = s.ret ∧
    (manualLimitStep s).tables = s.tables ∧ (manualLimitStep s).pending = s.pending := by
  unfold manualLimitStep; try dsimp only
  first | (simp [State.ite_frame]; done) | ((repeat' split) <;> simp [State.ite_frame])

@[simp] theorem preheatCloseStep_frame (s : State) :
    (preheatCloseStep s).phase = s.phase ∧ (preheatCloseStep s).bus = s.bus ∧
    (preheatCloseStep s).signals = s.signals ∧ (preheatCloseStep s).egress = s.egress ∧
    (preheatCloseStep s).tx = s.tx ∧ (preheatCloseStep s).rx = s.rx ∧ (preheatCloseStep s).nodes = s.nodes ∧
    (preheatCloseStep s).energy = s.energy ∧ (preheatCloseStep s).setup = s.setup ∧
    (preheatCloseStep s).store = s.store ∧ (preheatCloseStep s).notices = s.notices ∧

    (preheatCloseStep s).power.state = s.power.state ∧ (preheatCloseStep s).power.quietTimer = s.power.quietTimer ∧
    (preheatCloseStep s).power.cause = s.power.cause ∧ (preheatCloseStep s).tables = s.tables ∧
    (preheatCloseStep s).pending = s.pending := by
  unfold preheatCloseStep; try dsimp only
  first | (simp [State.ite_frame]; done) | ((repeat' split) <;> simp [State.ite_frame])

@[simp] theorem egressSettle_frame (n : Nat) (s : State) :
    (egressSettle n s).phase = s.phase ∧ (egressSettle n s).tx = s.tx ∧ (egressSettle n s).rx = s.rx ∧
    (egressSettle n s).nodes = s.nodes ∧ (egressSettle n s).panel = s.panel ∧ (egressSettle n s).roster = s.roster ∧
    (egressSettle n s).energy = s.energy ∧ (egressSettle n s).heater = s.heater ∧
    (egressSettle n s).fridge = s.fridge ∧ (egressSettle n s).lights = s.lights ∧ (egressSettle n s).rest = s.rest ∧
    (egressSettle n s).setup = s.setup ∧ (egressSettle n s).store = s.store ∧
    (egressSettle n s).notices = s.notices ∧ (egressSettle n s).power = s.power ∧ (egressSettle n s).ret = s.ret ∧
    (egressSettle n s).tables = s.tables ∧ (egressSettle n s).pending = s.pending := by
  induction n generalizing s with
  | zero => simp [egressSettle]
  | succ n ih => unfold egressSettle; split <;> simp [ih]

@[simp] theorem dueSteps_frame (s : State) :
    (dueSteps s).phase = s.phase ∧ (dueSteps s).egress = s.egress ∧ (dueSteps s).setup = s.setup ∧
    (dueSteps s).store = s.store ∧
    (dueSteps s).power.state = s.power.state ∧ (dueSteps s).power.quietTimer = s.power.quietTimer ∧
    (dueSteps s).power.cause = s.power.cause ∧ (dueSteps s).tables = s.tables ∧
    (dueSteps s).pending = s.pending := by
  unfold dueSteps; try dsimp only
  first | (simp [State.ite_frame]; done) | ((repeat' split) <;> simp [State.ite_frame])

@[simp] theorem whenRuns_phase (t : Option Nat) (f : State → State) (s : State)
    (h : ∀ u, (f u).phase = u.phase) : (whenRuns t f s).phase = s.phase := by
  unfold whenRuns
  split
  · exact h _
  · rfl

@[simp] theorem whenRuns_bus (t : Option Nat) (f : State → State) (s : State)
    (h : ∀ u, (f u).bus = u.bus) : (whenRuns t f s).bus = s.bus := by
  unfold whenRuns
  split
  · exact h _
  · rfl

@[simp] theorem whenRuns_signals (t : Option Nat) (f : State → State) (s : State)
    (h : ∀ u, (f u).signals = u.signals) : (whenRuns t f s).signals = s.signals := by
  unfold whenRuns
  split
  · exact h _
  · rfl

@[simp] theorem whenRuns_egress (t : Option Nat) (f : State → State) (s : State)
    (h : ∀ u, (f u).egress = u.egress) : (whenRuns t f s).egress = s.egress := by
  unfold whenRuns
  split
  · exact h _
  · rfl

@[simp] theorem whenRuns_tx (t : Option Nat) (f : State → State) (s : State)
    (h : ∀ u, (f u).tx = u.tx) : (whenRuns t f s).tx = s.tx := by
  unfold whenRuns
  split
  · exact h _
  · rfl

@[simp] theorem whenRuns_rx (t : Option Nat) (f : State → State) (s : State)
    (h : ∀ u, (f u).rx = u.rx) : (whenRuns t f s).rx = s.rx := by
  unfold whenRuns
  split
  · exact h _
  · rfl

@[simp] theorem whenRuns_nodes (t : Option Nat) (f : State → State) (s : State)
    (h : ∀ u, (f u).nodes = u.nodes) : (whenRuns t f s).nodes = s.nodes := by
  unfold whenRuns
  split
  · exact h _
  · rfl

@[simp] theorem whenRuns_panel (t : Option Nat) (f : State → State) (s : State)
    (h : ∀ u, (f u).panel = u.panel) : (whenRuns t f s).panel = s.panel := by
  unfold whenRuns
  split
  · exact h _
  · rfl

@[simp] theorem whenRuns_roster (t : Option Nat) (f : State → State) (s : State)
    (h : ∀ u, (f u).roster = u.roster) : (whenRuns t f s).roster = s.roster := by
  unfold whenRuns
  split
  · exact h _
  · rfl

@[simp] theorem whenRuns_energy (t : Option Nat) (f : State → State) (s : State)
    (h : ∀ u, (f u).energy = u.energy) : (whenRuns t f s).energy = s.energy := by
  unfold whenRuns
  split
  · exact h _
  · rfl

@[simp] theorem whenRuns_heater (t : Option Nat) (f : State → State) (s : State)
    (h : ∀ u, (f u).heater = u.heater) : (whenRuns t f s).heater = s.heater := by
  unfold whenRuns
  split
  · exact h _
  · rfl

@[simp] theorem whenRuns_fridge (t : Option Nat) (f : State → State) (s : State)
    (h : ∀ u, (f u).fridge = u.fridge) : (whenRuns t f s).fridge = s.fridge := by
  unfold whenRuns
  split
  · exact h _
  · rfl

@[simp] theorem whenRuns_lights (t : Option Nat) (f : State → State) (s : State)
    (h : ∀ u, (f u).lights = u.lights) : (whenRuns t f s).lights = s.lights := by
  unfold whenRuns
  split
  · exact h _
  · rfl

@[simp] theorem whenRuns_rest (t : Option Nat) (f : State → State) (s : State)
    (h : ∀ u, (f u).rest = u.rest) : (whenRuns t f s).rest = s.rest := by
  unfold whenRuns
  split
  · exact h _
  · rfl

@[simp] theorem whenRuns_setup (t : Option Nat) (f : State → State) (s : State)
    (h : ∀ u, (f u).setup = u.setup) : (whenRuns t f s).setup = s.setup := by
  unfold whenRuns
  split
  · exact h _
  · rfl

@[simp] theorem whenRuns_store (t : Option Nat) (f : State → State) (s : State)
    (h : ∀ u, (f u).store = u.store) : (whenRuns t f s).store = s.store := by
  unfold whenRuns
  split
  · exact h _
  · rfl

@[simp] theorem whenRuns_notices (t : Option Nat) (f : State → State) (s : State)
    (h : ∀ u, (f u).notices = u.notices) : (whenRuns t f s).notices = s.notices := by
  unfold whenRuns
  split
  · exact h _
  · rfl

@[simp] theorem whenRuns_power (t : Option Nat) (f : State → State) (s : State)
    (h : ∀ u, (f u).power = u.power) : (whenRuns t f s).power = s.power := by
  unfold whenRuns
  split
  · exact h _
  · rfl

@[simp] theorem whenRuns_ret (t : Option Nat) (f : State → State) (s : State)
    (h : ∀ u, (f u).ret = u.ret) : (whenRuns t f s).ret = s.ret := by
  unfold whenRuns
  split
  · exact h _
  · rfl

@[simp] theorem whenRuns_tables (t : Option Nat) (f : State → State) (s : State)
    (h : ∀ u, (f u).tables = u.tables) : (whenRuns t f s).tables = s.tables := by
  unfold whenRuns
  split
  · exact h _
  · rfl

@[simp] theorem whenRuns_pending (t : Option Nat) (f : State → State) (s : State)
    (h : ∀ u, (f u).pending = u.pending) : (whenRuns t f s).pending = s.pending := by
  unfold whenRuns
  split
  · exact h _
  · rfl


@[simp] theorem surgeLimitExpires_frame (s : State) :
    (surgeLimitExpires s).phase = s.phase ∧ (surgeLimitExpires s).bus = s.bus ∧
    (surgeLimitExpires s).signals = s.signals ∧ (surgeLimitExpires s).egress = s.egress ∧
    (surgeLimitExpires s).tx = s.tx ∧ (surgeLimitExpires s).rx = s.rx ∧ (surgeLimitExpires s).nodes = s.nodes ∧
    (surgeLimitExpires s).panel = s.panel ∧ (surgeLimitExpires s).energy = s.energy ∧
    (surgeLimitExpires s).lights = s.lights ∧ (surgeLimitExpires s).rest = s.rest ∧
    (surgeLimitExpires s).setup = s.setup ∧ (surgeLimitExpires s).store = s.store ∧
    (surgeLimitExpires s).notices = s.notices ∧ (surgeLimitExpires s).power = s.power ∧
    (surgeLimitExpires s).ret = s.ret ∧ (surgeLimitExpires s).tables = s.tables ∧
    (surgeLimitExpires s).pending = s.pending := by
  unfold surgeLimitExpires; try dsimp only
  first | (simp [State.ite_frame]; done) | ((repeat' split) <;> simp [State.ite_frame])

@[simp] theorem ignitionExpires_frame (s : State) :
    (ignitionExpires s).phase = s.phase ∧ (ignitionExpires s).signals = s.signals ∧
    (ignitionExpires s).egress = s.egress ∧ (ignitionExpires s).tx = s.tx ∧ (ignitionExpires s).rx = s.rx ∧
    (ignitionExpires s).nodes = s.nodes ∧ (ignitionExpires s).panel = s.panel ∧
    (ignitionExpires s).energy = s.energy ∧ (ignitionExpires s).lights = s.lights ∧
    (ignitionExpires s).rest = s.rest ∧ (ignitionExpires s).setup = s.setup ∧ (ignitionExpires s).store = s.store ∧
    (ignitionExpires s).power = s.power ∧ (ignitionExpires s).tables = s.tables ∧
    (ignitionExpires s).pending = s.pending := by
  unfold ignitionExpires; try dsimp only
  first | (simp [State.ite_frame]; done) | ((repeat' split) <;> simp [State.ite_frame])

@[simp] theorem noticeRepeatExpires_frame (s : State) :
    (noticeRepeatExpires s).phase = s.phase ∧ (noticeRepeatExpires s).signals = s.signals ∧
    (noticeRepeatExpires s).egress = s.egress ∧ (noticeRepeatExpires s).tx = s.tx ∧
    (noticeRepeatExpires s).rx = s.rx ∧ (noticeRepeatExpires s).nodes = s.nodes ∧
    (noticeRepeatExpires s).panel = s.panel ∧ (noticeRepeatExpires s).roster = s.roster ∧
    (noticeRepeatExpires s).energy = s.energy ∧ (noticeRepeatExpires s).heater = s.heater ∧
    (noticeRepeatExpires s).fridge = s.fridge ∧ (noticeRepeatExpires s).lights = s.lights ∧
    (noticeRepeatExpires s).rest = s.rest ∧ (noticeRepeatExpires s).setup = s.setup ∧
    (noticeRepeatExpires s).store = s.store ∧ (noticeRepeatExpires s).power = s.power ∧
    (noticeRepeatExpires s).ret = s.ret ∧ (noticeRepeatExpires s).tables = s.tables ∧
    (noticeRepeatExpires s).pending = s.pending := by
  unfold noticeRepeatExpires; try dsimp only
  first | (simp [State.ite_frame]; done) | ((repeat' split) <;> simp [State.ite_frame])

@[simp] theorem rejoinBus_frame (s : State) :
    (rejoinBus s).phase = s.phase ∧ (rejoinBus s).signals = s.signals ∧ (rejoinBus s).egress = s.egress ∧
    (rejoinBus s).tx = s.tx ∧ (rejoinBus s).rx = s.rx ∧ (rejoinBus s).nodes = s.nodes ∧
    (rejoinBus s).panel = s.panel ∧ (rejoinBus s).roster = s.roster ∧ (rejoinBus s).energy = s.energy ∧
    (rejoinBus s).heater = s.heater ∧ (rejoinBus s).fridge = s.fridge ∧ (rejoinBus s).lights = s.lights ∧
    (rejoinBus s).rest = s.rest ∧ (rejoinBus s).setup = s.setup ∧ (rejoinBus s).store = s.store ∧
    (rejoinBus s).notices = s.notices ∧ (rejoinBus s).power = s.power ∧ (rejoinBus s).ret = s.ret ∧
    (rejoinBus s).tables = s.tables ∧ (rejoinBus s).pending = s.pending := by
  unfold rejoinBus; try dsimp only
  first | (simp [State.ite_frame]; done) | ((repeat' split) <;> simp [State.ite_frame])

@[simp] theorem countSecond_frame (s : State) :
    (countSecond s).phase = s.phase ∧ (countSecond s).bus = s.bus ∧ (countSecond s).signals = s.signals ∧
    (countSecond s).egress = s.egress ∧ (countSecond s).tx = s.tx ∧ (countSecond s).rx = s.rx ∧
    (countSecond s).nodes = s.nodes ∧ (countSecond s).panel = s.panel ∧ (countSecond s).energy = s.energy ∧
    (countSecond s).lights = s.lights ∧ (countSecond s).setup = s.setup ∧ (countSecond s).store = s.store ∧
    (countSecond s).ret = s.ret ∧ (countSecond s).tables = s.tables ∧ (countSecond s).pending = s.pending := by
  unfold countSecond; try dsimp only
  first | (simp [State.ite_frame]; done) | ((repeat' split) <;> simp [State.ite_frame])

@[simp] theorem frameReceived_frame (f : CanFrame) (s : State) :
    (frameReceived f s).phase = s.phase ∧ (frameReceived f s).signals = s.signals ∧
    (frameReceived f s).egress = s.egress ∧ (frameReceived f s).tx = s.tx ∧ (frameReceived f s).rx = s.rx ∧
    (frameReceived f s).nodes = s.nodes ∧ (frameReceived f s).panel = s.panel ∧
    (frameReceived f s).roster = s.roster ∧ (frameReceived f s).energy = s.energy ∧
    (frameReceived f s).heater = s.heater ∧ (frameReceived f s).fridge = s.fridge ∧
    (frameReceived f s).lights = s.lights ∧ (frameReceived f s).rest = s.rest ∧ (frameReceived f s).setup = s.setup ∧
    (frameReceived f s).store = s.store ∧ (frameReceived f s).ret = s.ret ∧ (frameReceived f s).tables = s.tables ∧
    (frameReceived f s).pending = s.pending := by
  unfold frameReceived; try dsimp only
  first | (simp [State.ite_frame]; done) | ((repeat' split) <;> simp [State.ite_frame])

@[simp] theorem ingressTakes_frame (s : State) :
    (ingressTakes s).phase = s.phase ∧ (ingressTakes s).egress = s.egress ∧ (ingressTakes s).tx = s.tx ∧
    (ingressTakes s).rx = s.rx ∧ (ingressTakes s).nodes = s.nodes ∧ (ingressTakes s).energy = s.energy ∧
    (ingressTakes s).setup = s.setup ∧ (ingressTakes s).store = s.store ∧ (ingressTakes s).power = s.power ∧
    (ingressTakes s).tables = s.tables ∧ (ingressTakes s).pending = s.pending := by
  unfold ingressTakes; try dsimp only
  first | (simp [State.ite_frame]; done) | ((repeat' split) <;> simp [State.ite_frame])

@[simp] theorem transmitted_frame (s : State) :
    (transmitted s).phase = s.phase ∧ (transmitted s).signals = s.signals ∧ (transmitted s).egress = s.egress ∧
    (transmitted s).tx = s.tx ∧ (transmitted s).rx = s.rx ∧ (transmitted s).nodes = s.nodes ∧
    (transmitted s).panel = s.panel ∧ (transmitted s).roster = s.roster ∧ (transmitted s).energy = s.energy ∧
    (transmitted s).heater = s.heater ∧ (transmitted s).fridge = s.fridge ∧ (transmitted s).lights = s.lights ∧
    (transmitted s).rest = s.rest ∧ (transmitted s).store = s.store ∧ (transmitted s).notices = s.notices ∧
    (transmitted s).power = s.power ∧ (transmitted s).ret = s.ret ∧ (transmitted s).tables = s.tables ∧
    (transmitted s).pending = s.pending := by
  unfold transmitted; try dsimp only
  first | (simp [State.ite_frame]; done) | ((repeat' split) <;> simp [State.ite_frame])

@[simp] theorem ageTick_frame (s : State) :
    (ageTick s).phase = s.phase ∧ (ageTick s).bus = s.bus ∧ (ageTick s).egress = s.egress ∧ (ageTick s).tx = s.tx ∧
    (ageTick s).rx = s.rx ∧ (ageTick s).nodes = s.nodes ∧ (ageTick s).panel = s.panel ∧
    (ageTick s).roster = s.roster ∧ (ageTick s).energy = s.energy ∧ (ageTick s).heater = s.heater ∧
    (ageTick s).fridge = s.fridge ∧ (ageTick s).lights = s.lights ∧ (ageTick s).rest = s.rest ∧
    (ageTick s).setup = s.setup ∧ (ageTick s).store = s.store ∧ (ageTick s).notices = s.notices ∧
    (ageTick s).power = s.power ∧ (ageTick s).ret = s.ret ∧ (ageTick s).tables = s.tables ∧
    (ageTick s).pending = s.pending := by
  unfold ageTick; try dsimp only
  first | (simp [State.ite_frame]; done) | ((repeat' split) <;> simp [State.ite_frame])

@[simp] theorem goBusOff_frame (s : State) :
    (goBusOff s).phase = s.phase ∧ (goBusOff s).signals = s.signals ∧ (goBusOff s).egress = s.egress ∧
    (goBusOff s).tx = s.tx ∧ (goBusOff s).rx = s.rx ∧ (goBusOff s).nodes = s.nodes ∧ (goBusOff s).panel = s.panel ∧
    (goBusOff s).roster = s.roster ∧ (goBusOff s).energy = s.energy ∧ (goBusOff s).heater = s.heater ∧
    (goBusOff s).fridge = s.fridge ∧ (goBusOff s).lights = s.lights ∧ (goBusOff s).rest = s.rest ∧
    (goBusOff s).setup = s.setup ∧ (goBusOff s).store = s.store ∧ (goBusOff s).notices = s.notices ∧
    (goBusOff s).power = s.power ∧ (goBusOff s).ret = s.ret ∧ (goBusOff s).tables = s.tables ∧
    (goBusOff s).pending = s.pending := by
  unfold goBusOff; try dsimp only
  first | (simp [State.ite_frame]; done) | ((repeat' split) <;> simp [State.ite_frame])

@[simp] theorem discardNoTag_frame (s : State) :
    (discardNoTag s).phase = s.phase ∧ (discardNoTag s).signals = s.signals ∧ (discardNoTag s).egress = s.egress ∧
    (discardNoTag s).tx = s.tx ∧ (discardNoTag s).rx = s.rx ∧ (discardNoTag s).nodes = s.nodes ∧
    (discardNoTag s).panel = s.panel ∧ (discardNoTag s).roster = s.roster ∧ (discardNoTag s).energy = s.energy ∧
    (discardNoTag s).heater = s.heater ∧ (discardNoTag s).fridge = s.fridge ∧ (discardNoTag s).lights = s.lights ∧
    (discardNoTag s).rest = s.rest ∧ (discardNoTag s).setup = s.setup ∧ (discardNoTag s).store = s.store ∧
    (discardNoTag s).notices = s.notices ∧ (discardNoTag s).power = s.power ∧ (discardNoTag s).ret = s.ret ∧
    (discardNoTag s).tables = s.tables ∧ (discardNoTag s).pending = s.pending := by
  unfold discardNoTag; try dsimp only
  first | (simp [State.ite_frame]; done) | ((repeat' split) <;> simp [State.ite_frame])

@[simp] theorem answerUnknown_frame (s : State) :
    (answerUnknown s).phase = s.phase ∧ (answerUnknown s).signals = s.signals ∧ (answerUnknown s).egress = s.egress ∧
    (answerUnknown s).tx = s.tx ∧ (answerUnknown s).rx = s.rx ∧ (answerUnknown s).nodes = s.nodes ∧
    (answerUnknown s).panel = s.panel ∧ (answerUnknown s).roster = s.roster ∧ (answerUnknown s).energy = s.energy ∧
    (answerUnknown s).heater = s.heater ∧ (answerUnknown s).fridge = s.fridge ∧ (answerUnknown s).lights = s.lights ∧
    (answerUnknown s).rest = s.rest ∧ (answerUnknown s).store = s.store ∧ (answerUnknown s).notices = s.notices ∧
    (answerUnknown s).power = s.power ∧ (answerUnknown s).ret = s.ret ∧ (answerUnknown s).tables = s.tables ∧
    (answerUnknown s).pending = s.pending := by
  unfold answerUnknown answer; try dsimp only
  (repeat' split) <;> simp [State.ite_frame]

@[simp] theorem transmitCycle_frame (s : State) :
    (transmitCycle s).phase = s.phase ∧ (transmitCycle s).bus = s.bus ∧ (transmitCycle s).signals = s.signals ∧
    (transmitCycle s).egress = s.egress ∧ (transmitCycle s).rx = s.rx ∧ (transmitCycle s).nodes = s.nodes ∧
    (transmitCycle s).setup = s.setup ∧ (transmitCycle s).store = s.store ∧ (transmitCycle s).notices = s.notices ∧
    (transmitCycle s).power = s.power ∧ (transmitCycle s).tables = s.tables ∧ (transmitCycle s).pending = s.pending := by
  unfold transmitCycle; try dsimp only
  first | (simp [State.ite_frame]; done) | ((repeat' split) <;> simp [State.ite_frame])

@[simp] theorem receivedRound_frame (bits : BitVec 121) (s : State) :
    (receivedRound bits s).phase = s.phase ∧ (receivedRound bits s).signals = s.signals ∧
    (receivedRound bits s).egress = s.egress ∧ (receivedRound bits s).setup = s.setup ∧
    (receivedRound bits s).store = s.store ∧
    (receivedRound bits s).power.state = s.power.state ∧ (receivedRound bits s).power.quietTimer = s.power.quietTimer ∧
    (receivedRound bits s).power.cause = s.power.cause ∧
    (receivedRound bits s).tables = s.tables ∧ (receivedRound bits s).pending = s.pending := by
  unfold receivedRound; try dsimp only
  first | (simp [State.ite_frame]; done) | ((repeat' split) <;> simp [State.ite_frame])

@[simp] theorem budgetTick_frame (s : State) :
    (budgetTick s).phase = s.phase ∧ (budgetTick s).signals = s.signals ∧ (budgetTick s).egress = s.egress ∧
    (budgetTick s).tx = s.tx ∧ (budgetTick s).rx = s.rx ∧ (budgetTick s).nodes = s.nodes ∧
    (budgetTick s).panel = s.panel ∧ (budgetTick s).lights = s.lights ∧ (budgetTick s).rest = s.rest ∧
    (budgetTick s).setup = s.setup ∧ (budgetTick s).store = s.store ∧ (budgetTick s).power = s.power ∧
    (budgetTick s).tables = s.tables ∧ (budgetTick s).pending = s.pending := by
  unfold budgetTick; try dsimp only
  first | (simp [State.ite_frame]; done) | ((repeat' split) <;> simp [State.ite_frame])

@[simp] theorem standbyExpires_frame (s : State) :
    (standbyExpires s).phase = s.phase ∧ (standbyExpires s).signals = s.signals ∧
    (standbyExpires s).egress = s.egress ∧ (standbyExpires s).tx.pos = s.tx.pos ∧
    (standbyExpires s).tx.round = s.tx.round ∧ (standbyExpires s).rx = s.rx ∧
    (standbyExpires s).nodes = s.nodes ∧ (standbyExpires s).panel = s.panel ∧ (standbyExpires s).roster = s.roster ∧
    (standbyExpires s).heater = s.heater ∧ (standbyExpires s).fridge = s.fridge ∧ (standbyExpires s).rest = s.rest ∧
    (standbyExpires s).setup = s.setup ∧ (standbyExpires s).store = s.store ∧ (standbyExpires s).ret = s.ret ∧
    (standbyExpires s).tables = s.tables ∧ (standbyExpires s).pending = s.pending := by
  unfold standbyExpires; try dsimp only
  first | (simp [State.ite_frame]; done) | ((repeat' split) <;> simp [State.ite_frame])

@[simp] theorem canWakes_frame (s : State) :
    (canWakes s).phase = s.phase ∧ (canWakes s).egress = s.egress ∧ (canWakes s).energy = s.energy ∧
    (canWakes s).setup = s.setup ∧ (canWakes s).store = s.store ∧ (canWakes s).tables = s.tables ∧
    (canWakes s).pending = s.pending := by
  unfold canWakes; try dsimp only
  first | (simp [State.ite_frame]; done) | ((repeat' split) <;> simp [State.ite_frame])

@[simp] theorem wakeLine_frame (e : WakeEdge) (s : State) :
    (wakeLine e s).phase = s.phase ∧ (wakeLine e s).egress = s.egress ∧ (wakeLine e s).energy = s.energy ∧
    (wakeLine e s).setup = s.setup ∧ (wakeLine e s).store = s.store ∧ (wakeLine e s).tables = s.tables ∧
    (wakeLine e s).pending = s.pending := by
  unfold wakeLine; try dsimp only
  first | (simp [State.ite_frame]; done) | ((repeat' split) <;> simp [State.ite_frame])

end Sys2Proof.Machine
end

