-- ==== Sys2Proof/Laws/Settle.lean ====
section
/-! SUPPORT. Laws/Settle.lean: what `settle`, `external` and `internal` can do, and a change confined to some blocks. -/

namespace Sys2Proof.Machine

/-- A command from outside that meets a part with nothing due: its own effect, then the standby conditions. -/
theorem external_settled {s : State} (h : s.Settled) (f : State → State) : external f s = qualify (f s) := by
  simp [external, h.1, h.2]

/-- A step that follows, commanded while the part runs. -/
theorem internal_running {s : State} (h : s.phase = .running) (f : State → State) : internal f s = qualify (f s) := by
  simp [internal, h]

/-- While the part is held, a command from outside changes nothing. -/
theorem external_held {s : State} (h : s.phase = .held) (f : State → State) : external f s = s := by
  simp [external, settle, h]

/-- While the part is held, a step that follows changes nothing. -/
theorem internal_held {s : State} (h : s.phase = .held) (f : State → State) : internal f s = s := by
  simp [internal, h]

/-- A settled part that has anything to settle has it done already: the command acts on the settled state. -/
theorem external_eq (f : State → State) (s : State) :
    external f s = if (settle s).phase = .held then settle s else qualify (f (settle s)) := rfl

/-- `qualify` writes the standby timer and nothing else. -/
theorem qualify_power (s : State) : (qualify s).power = { s.power with
    standbyTimer := if s.phase = .running ∧ s.power.state = .quiet ∧ s.mayStandBy = true
      then some (s.power.standbyTimer.getD 0) else none } := by
  simp [qualify, and_assoc]

/-- What is confined to some blocks and then looked at by `qualify` is confined to them and the power states. -/
theorem State.OnlyIn.qualify {s t : State} {bs : List Block} (h : s.OnlyIn bs t) (hp : Block.power ∈ bs) :
    s.OnlyIn bs (qualify t) := by
  intro b hb
  have hq : b ≠ .power := fun e => hb (e ▸ hp)
  have := h b hb
  cases b <;> simp_all [Block.Same]

/-- A change confined to some blocks, then one confined to others, is confined to all of them. -/
theorem State.OnlyIn.trans {s t u : State} {bs cs : List Block} (h : s.OnlyIn bs t) (k : t.OnlyIn cs u) :
    s.OnlyIn (bs ++ cs) u := by
  intro b hb
  simp only [List.mem_append, not_or] at hb
  have h1 := h b hb.1
  have h2 := k b hb.2
  cases b <;> simp_all [Block.Same]

/-- A change confined to some blocks is confined to more. -/
theorem State.OnlyIn.mono {s t : State} {bs cs : List Block} (h : s.OnlyIn bs t) (hc : bs ⊆ cs) : s.OnlyIn cs t :=
  fun b hb => h b (fun m => hb (hc m))

end Sys2Proof.Machine
end

