-- ==== Sys2Proof/Tests/Slice0.lean ====
section
/-! SUPPORT. Tests/Slice0.lean: the smoke tests of WellFormed, one step of each command with figures worked out in the manual or by hand
from its rules, and for each statement with hypotheses a state and operands that meet them. -/

set_option Elab.async false -- one theorem after another: each would otherwise take a thread with its own large stack

namespace Sys2Proof.Machine.Tests

/-! ### Small states -/

/-- The part running on its default tables, in RUN, with nothing to do. -/
def base : State := { State.reset with phase := .running }

/-- Whether a command answers a next state with a property. -/
def after (c : Instr) (s : State) (p : State → Bool) : Bool :=
  match exec c s with
  | .next t => p t
  | _ => false

/-- One entry of one table put in place. -/
def withEntry (t i : Nat) (e : Entry) (s : State) : State := { s with tables := s.tables.setEntry t i e }

/-- Frames in the receive queue. -/
def received (fs : List RxFrame) (s : State) : State := { s with bus := { s.bus with rxQueue := fs } }

/-- Bytes. -/
def bytes (l : List Nat) : List Byte := l.map byte

/-- A setup request at the head of the receive queue. -/
def asked (d : List Nat) (s : State) : State := received [{ ident := 0x1C6A0100#29, data := bytes d }] s

/-- The data of the newest priority frame. -/
def reply (s : State) : List Nat := ((s.bus.prioQueue.getLast?.map (·.data)).getD []).map BitVec.toNat

/-- A signal FRESH at a value. -/
def fresh (n : Nat) (v : Int) (s : State) : State :=
  { s with signals := s.signals.set n { value := v, quality := .fresh, age := 0, changed := false } }

/-- A node record of a position. -/
def withNode (p : Nat) (r : NodeRec) (s : State) : State := { s with nodes := s.nodes.set p r }

/-- A PRESENT node that has been heard. -/
def nodeHeard (m : Measures) (a b : Option Nat) : NodeRec :=
  { NodeRec.never .present with stale := false, measures := m, heldA := a, heldB := b }

/-- The live part of a roster entry. -/
def withLive (i : Nat) (l : Live) (s : State) : State := { s with roster := { s.roster with live := s.roster.live.set i l } }

/-- The live part of an entry in a grant state, with the working copy of its table entry. -/
def liveAt (s : State) (i : Nat) (g : Grant) (duty : Nat) : Live :=
  { Live.init (s.cfg i).work with
    grant := g, want := g == .on || g == .waiting || g == .shed, duty := duty, reason := if g == .shed then .budget else .none }

/-- Entries put in a grant state with a duty estimate. -/
def roster (xs : List (Nat × Grant × Nat)) (s : State) : State :=
  xs.foldl (fun s x => withLive x.1 (liveAt s x.1 x.2.1 x.2.2) s) s

/-- A status message of a kind, its check byte made. -/
def statusBytes (k : NodeKind) (seq : Nat) (p : List Nat) : List Byte :=
  let b := (1 + 2 * k.code + 16 * seq) :: p
  bytes (b ++ [(256 - b.sum % 256) % 256])

/-- A complete message waiting for its tests. -/
def ready (p : Nat) (b : List Byte) (s : State) : State :=
  { s with rx := { s.rx with state := .inSync, ready := [{ position := p, bytes := b, bad := false, dropped := false }] } }

/-- The set flags of the notice unit. -/
def flag (n : Nat) (s : State) : Bool := s.notices.flags.getLsbD n

/-! ### WellFormed -/

/-- An extended data frame of 8 bytes is a frame. -/
theorem test_frame_accepted : Instr.wellFormed (.frameReceived ⟨true, false, 0x1C4D2040#29, bytes [0, 0, 0, 0, 0, 0, 0, 0]⟩) = true := by
  decide

/-- Nine data bytes are no frame. -/
theorem test_frame_nine_bytes : Instr.wellFormed (.frameReceived ⟨true, false, 0#29, bytes [0, 0, 0, 0, 0, 0, 0, 0, 0]⟩) = false := by decide

/-- A remote frame carries no data. -/
theorem test_frame_remote_with_data : Instr.wellFormed (.frameReceived ⟨true, true, 0#29, bytes [0]⟩) = false := by decide

/-- A standard identifier has 11 bits. -/
theorem test_frame_standard_ident : Instr.wellFormed (.frameReceived ⟨false, false, 2048#29, []⟩) = false := by decide

/-- A frame that is none is refused by name. -/
theorem test_frame_refused :
    exec (.frameReceived ⟨false, false, 2048#29, []⟩) base = .refused .illFormedFrame := rfl

/-! ### Cab bus frames and the signal store (section 1.7) -/

/-- Entry 6 of section 1.7, at index 0. -/
def tempEntry : Entry :=
  entryOf 25 [le 1 1, le 4 0x1C4D2050, le 4 0x1FFFFFF0, le 1 4, le 1 16, le 1 16, le 2 10, le 2 32, leS 4 (-2730)]

/-- Entry 4 of section 1.7, at index 1. -/
def activityEntry : Entry := entryOf 25 [le 1 1, le 4 0x1C4D2040, le 4 0x1FFFFFFF, le 1 0, le 1 0, le 1 3, le 2 1, le 2 1]

/-- The part with the two entries of section 1.7. -/
def mapped : State := withEntry 1 1 activityEntry (withEntry 1 0 tempEntry base)

/-- A frame of the receive queue. -/
def rx (i : Ident) (d : List Nat) : RxFrame := { ident := i, data := bytes d }

/-- Sixteen frames in the receive queue. -/
def fullQueue : State := received (List.replicate 16 (rx 0#29 [])) base

/-- R3: with all 16 places taken the new frame is discarded and the overrun count increments. -/
theorem test_frame_overrun :
    after (.frameReceived ⟨true, false, 5#29, []⟩) fullQueue
      (fun t => t.bus.counts.overrun == 1 && t.bus.rxQueue == List.replicate 16 (rx 0#29 [])) = true := by decide +kernel

/-- R1: a standard frame reports activity and is discarded. -/
theorem test_frame_standard :
    after (.frameReceived ⟨false, false, 5#29, []⟩) base
      (fun t => t.bus.rxQueue == [] && t.power.quietTimer == some 0) = true := by decide +kernel

/-- Section 1.7, frame 5: signal 4 becomes −152. -/
theorem test_match_scales :
    after .ingressMatch (received [rx 0x1C4D2055#29 [0, 0, 0x3A, 0x20]] mapped)
      (fun t => (t.signal 4).value == -152 && (t.signal 4).quality == .fresh && t.bus.counts.clamped == 0) = true := by
  decide +kernel

/-- Section 1.7, frame 3: signal 0 holds its value and the clamp count becomes 1. -/
theorem test_match_holds_activity :
    after .ingressMatch (received [rx 0x1C4D2040#29 [5, 0, 0, 0, 0, 0, 0, 0]] mapped)
      (fun t => (t.signal 0).quality == .none && t.bus.counts.clamped == 1) = true := by decide +kernel

/-- R184: a setup frame without a tag is discarded. -/
theorem test_no_tag : after .setupNoTag (asked [1] base) (fun t => t.bus.rxQueue == [] && t.bus.prioQueue == []) = true := by
  decide +kernel

/-- Section 13.1: an unknown code is answered with its code, its tag and UNKNOWN, 6. -/
theorem test_unknown_request :
    after .unknownRequest (asked [0x7F, 9] base) (fun t => reply t == [0x7F, 9, 6, 0, 0, 0, 0, 0]) = true := by decide +kernel

/-- R13: a FRESH record ages by 1 at a tick. -/
theorem test_age_tick : after .signalAgeTick (fresh 8 7 base) (fun t => (t.signal 8).age == 1 && (t.signal 9).age == 0) = true := by
  decide +kernel

/-- Section 1.7: DRIVER_ACTIVITY turns STALE at its limit of 50. -/
def atLimit : State :=
  { base with signals := base.signals.set 0 { value := 0, quality := .fresh, age := 50, changed := false } }

/-- R13: at the limit the record turns STALE with its value kept. -/
theorem test_signal_stale :
    after (.signalStale 0) atLimit (fun t => (t.signal 0).quality == .stale && (t.signal 0).age == 50) = true := by decide +kernel

/-- Egress entry 2 of section 1.7, with its three items. -/
def statusFrame : Entry :=
  entryOf 20 [le 1 1, le 4 0x1C4D2300, le 2 10, bytes [3, 0, 0 + 8 * 1], bytes [6, 0, 1 + 8 * 2], bytes [1, 4, 3 + 8 * 2 + 32]]

/-- Section 1.7's egress entry with its countdown at a value. -/
def sender (n : Nat) : State :=
  let s := withEntry 2 2 statusFrame base
  { s with egress := { s.egress with countdown := s.egress.countdown.set 2 n } }

/-- R15: a pass lowers the countdown by 1. -/
theorem test_egress_pass :
    after .egressPass (sender 10) (fun t => t.egress.countdown.getD 2 0 == 9 && t.egress.passAt == none) = true := by decide +kernel

/-- The pass stands at entry 2. -/
def standing (s : State) : State := { s with egress := { s.egress with passAt := some 2 } }

/-- Section 1.7: while signal 4 is −152, bytes 3 and 4 are 0x68 and 0xFF; the battery voltage is not known yet. -/
theorem test_egress_frame :
    after .egressCountdownExpiry (standing (fresh 4 (-152) (sender 0)))
      (fun t => (t.bus.egressQueue.map fun f => f.data.map BitVec.toNat) == [[50, 0xFF, 0xFF, 0x68, 0xFF]]
        && t.egress.countdown.getD 2 0 == 10) = true := by decide +kernel

/-- Section 1.7: with signal 4 STALE bytes 3 and 4 are 0xFF and 0xFF. -/
theorem test_egress_stale :
    after .egressCountdownExpiry (standing (sender 0))
      (fun t => (t.bus.egressQueue.map fun f => (f.data.drop 3).map BitVec.toNat) == [[0xFF, 0xFF]]) = true := by decide +kernel

/-- A frame for the cab bus. -/
def tx (i : Ident) : TxFrame := { ident := i, data := [], restart := false }

/-- Priority and egress frames in the transmit queue, one class being sent. -/
def sending (c : Option TxClass) (ps es : List TxFrame) (s : State) : State :=
  { s with bus := { s.bus with prioQueue := ps, egressQueue := es, sending := c } }

/-- R20: a priority frame that joined during an egress frame's transmission goes next. -/
theorem test_transmitted :
    after .frameTransmitted (sending (some .egress) [tx 9#29] [tx 1#29, tx 2#29] base)
      (fun t => t.bus.egressQueue == [tx 2#29] && t.bus.sending == some .priority) = true := by decide +kernel

/-- R20: a frame that meets a bus error stays at the head. -/
theorem test_transmit_error :
    after (.transmitError true) (sending (some .priority) [tx 9#29] [] base)
      (fun t => t.bus.prioQueue == [tx 9#29] && t.bus.sending == some .priority) = true := by decide +kernel

/-- R20: going bus-off abandons the egress frames, each counted, and keeps the priority frames. -/
theorem test_bus_off :
    after .busOff (sending (some .egress) [tx 9#29] [tx 1#29, tx 2#29] base)
      (fun t => t.bus.egressQueue == [] && t.bus.counts.dropped == 2 && t.bus.counts.busOff == 1
        && t.bus.prioQueue == [tx 9#29] && t.bus.busOff) = true := by decide +kernel

/-- An interface that is bus-off. -/
def offBus : State :=
  { base with bus := { base.bus with busOff := true, txErrors := 256, prioQueue := [tx 9#29] } }

/-- R20: the bus is rejoined with the error counts at 0 and sending resumes from the head. -/
theorem test_bus_recovery :
    after .busOffRecovery offBus
      (fun t => !t.bus.busOff && t.bus.txErrors == 0 && t.bus.sending == some .priority) = true := by decide +kernel

/-- R19: a waiting setup response joins when a place has freed. -/
theorem test_waiting_joins :
    after .priorityFrameAdmitted { base with setup := { base.setup with waiting := some (tx 9#29) } }
      (fun t => t.bus.prioQueue == [tx 9#29] && t.setup.waiting == none) = true := by decide +kernel

/-! ### The setup channel (section 10.8) -/

/-- A cursor with auto-advance. -/
def atCursor (t i : Nat) (s : State) : State :=
  { s with setup := { s.setup with cursor := some { table := t, index := i, auto := true } } }

/-- Parts staged for the entry under the cursor. -/
def staged (t i : Nat) (ps : List (List Byte)) (s : State) : State :=
  { atCursor t i s with setup := { (atCursor t i s).setup with staging := some { table := t, index := i, parts := ps } } }

/-- Section 13.1: the part code 0x5C26 in bytes 3 and 4. -/
theorem test_id : after .idReq (asked [1, 7] base) (fun t => (reply t).take 5 == [1, 7, 0, 0x26, 0x5C]) = true := by decide +kernel

/-- Section 10.8, tag 1. -/
theorem test_sel :
    after .selReq (asked [2, 1, 1, 4, 1] base)
      (fun t => t.setup.cursor == some { table := 1, index := 4, auto := true } && (reply t).take 3 == [2, 1, 0]) = true := by
  decide +kernel

/-- Section 10.8, tag 4: part 3 after parts 0 and 1 is ORDER, and the staging is empty. -/
theorem test_wrp_order :
    after .wrpReq (asked [3, 4, 3, 0, 0, 0, 0, 0] (staged 1 4 [bytes [0, 0, 0, 0, 0], bytes [0, 0, 0, 0, 0]] base))
      (fun t => (reply t).getD 2 9 == Result.order.code && t.setup.staging == none) = true := by decide +kernel

/-- Section 10.8, tag 9: the last part commits the entry and the cursor advances to 5. -/
theorem test_wrp_commits :
    after .wrpReq (asked [3, 9, 4, 0, 0, 0, 0, 0] (staged 1 4 (List.replicate 4 (bytes [0, 0, 0, 0, 0])) base))
      (fun t => reply t == [3, 9, 0, 1, 5, 0, 0, 0] && t.setup.unsaved.getD 1 false && t.setup.staging == none) = true := by
  decide +kernel

/-- Section 13.3: the first five bytes of the default settings entry 0. -/
theorem test_rdp :
    after .rdpReq (asked [4, 1, 0] (atCursor 0 0 base)) (fun t => reply t == [4, 1, 0, 0x00, 0x01, 0x6A, 0x1C, 0x00]) = true := by
  decide +kernel

/-- Section 10.8, tag 11: the store is SAVING after SAV. -/
theorem test_sav : after .savReq (asked [5, 11] base) (fun t => t.setup.store == .saving && (reply t).take 3 == [5, 11, 0]) = true := by
  decide +kernel

/-- A save in progress. -/
def saving : State :=
  { base with
    setup := { base.setup with store := .saving, unsaved := base.setup.unsaved.set 1 true }
    store := { base.store with writing := some { saveNumber := 1, tables := base.tables, crc := 0#32 } } }

/-- Section 10.8: the save ends with SAVE_DONE and no unsaved marks. -/
theorem test_save_complete :
    after (.saveComplete true) saving (fun t => flag 14 t && t.setup.unsaved == List.replicate 13 false && t.setup.store == .idle) = true := by
  decide +kernel

/-- Table 1 with an unsaved mark. -/
def unsavedIngress : State := { base with setup := { base.setup with unsaved := base.setup.unsaved.set 1 true } }

/-- Section 10.8, tag 18: LCK with an unsaved lock-covered table is ORDER. -/
theorem test_lck_order :
    after .lckReq (asked [7, 18] unsavedIngress) (fun t => (reply t).getD 2 9 == Result.order.code && t.setup.store == .idle) = true := by
  decide +kernel

/-- The lock mark being written. -/
def locking : State := { base with setup := { base.setup with store := .lockWriting } }

/-- Section 10.8: the mark written, the lock set. -/
theorem test_lock_write : after (.lockWriteComplete true) locking (fun t => t.setup.lock && t.store.mark == .valid) = true := by
  decide +kernel

/-- R193: DEF arranges a restart with cause DEFAULTS behind its answer. -/
theorem test_def :
    after .defReq (asked [6, 1] base)
      (fun t => t.setup.restart == some { cause := .defaults, answerLeft := false }
        && (t.bus.prioQueue.map (·.restart)) == [true]) = true := by decide +kernel

/-- R193: RST arranges a restart with cause RESTART. -/
theorem test_rst :
    after .rstReq (asked [0x0B, 1] base) (fun t => t.setup.restart == some { cause := .restart, answerLeft := false }) = true := by
  decide +kernel

/-- A restart that RST has arranged. -/
def restarting : State :=
  { base with setup := { base.setup with restart := some { cause := .restart, answerLeft := true } } }

/-- R202: the restart is a reset with its cause. -/
theorem test_restart : after .restartTrigger restarting (fun t => t.phase == .held && t.power.cause == .restart) = true := by
  decide +kernel

/-- Notices 9 and 15 latched. -/
def latched : State := { base with notices := { base.notices with flags := 0x8200#16 } }

/-- Section 11.6: CLR with classes 9 and 15 leaves none. -/
theorem test_clr : after .clrReq (asked [8, 1, 0x00, 0x82] latched) (fun t => t.notices.flags == 0#16) = true := by decide +kernel

/-- R53: a set point of 35.0 °C is clamped to 30.0 °C, and the answer carries 300. -/
theorem test_act_clamps :
    after .actReq (asked [9, 1, 2, 0x5E, 0x01, 0, 0] base)
      (fun t => t.heater.setPoint == 300 && reply t == [9, 1, 0, 0x2C, 0x01, 0, 0, 0]) = true := by decide +kernel

/-- Section 3.7: HEAT_MODE 7 is refused and counted. -/
theorem test_act_refuses :
    after .actReq (asked [9, 1, 1, 7, 0, 0, 0] base)
      (fun t => t.panel.refused == 1 && t.heater.mode == .off && (reply t).getD 2 9 == Result.range.code) = true := by decide +kernel

/-- A receive side in sync. -/
def inSync : State := { base with rx := { base.rx with state := .inSync, last := some { position := 14, phase := 0 } } }

/-- R28: REFRAME always ends in SEARCH; the last alignment is kept. -/
theorem test_rfr :
    after .rfrReq (asked [0x0A, 1] inSync)
      (fun t => t.rx.state == .search && t.rx.last == some { position := 14, phase := 0 }) = true := by decide +kernel

/-- Section 13.4: CHARGE_PERCENT of half the capacity is 50. -/
theorem test_sta : after .staReq (asked [0x0C, 1, 3, 0, 0] base) (fun t => reply t == [0x0C, 1, 0, 50, 0, 0, 0, 0]) = true := by
  decide +kernel

/-! ### The berth loop (section 2.7) -/

/-- Section 13.2: header, payload and check byte of an all-zero BATTERY command with sequence 0; 256 − 2 is 254. -/
theorem test_command_message : (commandMessage .battery 0 (padTo 6 [])).map BitVec.toNat = [2, 0, 0, 0, 0, 0, 0, 254] := by decide

/-- The part with its light channels at 140 fading to 0 over 12 cycles. -/
def fading : State :=
  { base with lights := { base.lights with
      channels := base.lights.channels.map fun c => { c with level := 140, fade := some { start := 140, target := 0, n := 12, k := 0 } } } }

/-- Section 8.10: the first step of LIGHTS_OFF from 140 is 129. -/
theorem test_cycle_fades :
    after .transmitCycle fading (fun t => (t.channel 0).level == 129 && t.tx.outOfSync == 1) = true := by decide +kernel

/-- A part that holds a battery current. -/
def holdingCurrent (i : Int) (r : Int) (n : Nat) : State :=
  { base with energy := { base.energy with held := some i, holdCount := n, history := [i] }, ret := { base.ret with residue := r } }

/-- Section 5.8, "Losing the sensor": the first cycle without a message integrates −95. -/
theorem test_cycle_substitutes :
    after .transmitCycle (holdingCurrent (-95) (-1200) 0) (fun t => t.ret.residue == -1295 && t.energy.holdCount == 1) = true := by
  decide +kernel

/-- A blind mark that is due. -/
def blindDue : State := { base with energy := { base.energy with blindDue := true } }

/-- R84: the mark is set. -/
theorem test_blind : after .batteryBlindSet blindDue (fun t => t.energy.blind && !t.energy.blindDue) = true := by decide +kernel

/-- Five transmit cycles out of sync with a PRESENT node. -/
def fiveOut : State :=
  withNode 0 (nodeHeard (.battery (-10) 1240 5) none none) { base with tx := { base.tx with outOfSync := 5 } }

/-- R31, R40: the PRESENT node becomes LOST and stale. -/
theorem test_loop_failed :
    after .loopFailedAssert fiveOut
      (fun t => t.tx.failed && (t.node 0).presence == .lost && (t.node 0).stale && flag 2 t) = true := by decide +kernel

/-- An error window that has run its 16 cycles with `n` errors. -/
def windowOf (n : Nat) : State := { base with tx := { base.tx with windowCycles := 16, windowErrors := n } }

/-- R32: more than 24 slot errors assert LOOP_DEGRADED. -/
theorem test_window_degraded :
    after .errorWindowEnd (windowOf 25) (fun t => t.tx.degraded && t.tx.lastWindow == 25 && flag 13 t) = true := by decide +kernel

/-- R32: 24 slot errors do not. -/
theorem test_window_quiet :
    after .errorWindowEnd (windowOf 24) (fun t => !t.tx.degraded && t.tx.lastWindow == 24 && !flag 13 t) = true := by decide +kernel

/-- A command of position 0 that has waited `n` cycles. -/
def unechoed (n : Nat) : State :=
  { base with tx := { base.tx with pos := base.tx.pos.modify 0 fun x => { x with unechoed := [{ seq := 1, cycles := n }] } } }

/-- R35: at 6 cycles COMMAND_STALL is set. -/
theorem test_stall : after (.commandStall 0) (unechoed 6) (fun t => (t.loopPos 0).stall) = true := by decide +kernel

/-- Section 2.7 before round 3 of cycle c: aligned at (14, 0), the newest comparisons agree ×3, error, error, agree. -/
def spliced : State :=
  { base with
    tx := { base.tx with round := 3 }
    rx := { base.rx with
      state := .inSync, last := some { position := 14, phase := 0 }, round := 2
      record := [false, false, false, true, true, false] } }

/-- Section 2.7: the third error in six loses sync, and SEARCH is entered. -/
theorem test_sync_lost :
    after (.receivedRound 0#121) spliced (fun t => t.rx.state == .search && t.tx.round == 4 && t.rx.candidate == none) = true := by
  decide +kernel

/-- A counted cycle that has ended with no message from a PRESENT node. -/
def cycleOver : State :=
  withNode 0 (nodeHeard .none none none) { base with rx := { base.rx with state := .inSync, endDue := true } }

/-- R38: a PRESENT position counts the cycle. -/
theorem test_cycle_end : after .receivedCycleEnd cycleOver (fun t => (t.node 0).count == 1 && !t.rx.endDue) = true := by
  decide +kernel

/-- Section 5.8, "A steady draw": message 41 takes the residue to −92 and Q down by 1. -/
theorem test_battery_message :
    after .statusMessage
      (ready 0 (statusBytes .battery 3 [0x90, 0xFF, 0xC2, 0x04, 0xF1, 0]) { base with ret := { base.ret with charge := 20000, residue := -4480, estimated := false } })
      (fun t => t.ret.charge == 19999 && t.ret.residue == -92 && t.energy.held == some (-112)
        && (t.node 0).measures == .battery (-112) 1218 (-15)) = true := by decide +kernel

/-- Section 3.7: panel 0 PRESENT with its baseline, the heater in AUTO at 18.0 °C, two bunk channels at level 96. -/
def fourPresses : State :=
  let s := withNode 7 (nodeHeard (.panel [3, 0, 15, 7, 0, 0, 2, 0] 140) none none) base
  { s with
    panel := { s.panel with baselines := [some [3, 0, 15, 7, 0, 0, 2, 0], none] }
    heater := { s.heater with mode := .auto }
    lights := { s.lights with channels := s.lights.channels.mapIdx fun i c => if i < 2 then { c with level := 96 } else c } }

/-- Section 3.7: one message, four presses. -/
theorem test_panel_message :
    after .statusMessage (ready 7 (statusBytes .panel 0 [0x04, 0x71, 0x00, 0x12, 0x8C, 0x00]) fourPresses)
      (fun t => t.heater.setPoint == 185 && (t.channel 0).target == 0
        && t.panel.record == some { code := 8, argument := none, source := .panelKey, taken := true }
        && t.panel.baselines == [some [4, 0, 1, 7, 0, 0, 2, 1], none]) = true := by decide +kernel

/-- Position 8 SEEKING with a count. -/
def seeking (n : Nat) : State := withNode 8 { NodeRec.never .seeking with count := n } base

/-- R38, R44: at 3 a SEEKING position becomes PRESENT, without a notice. -/
theorem test_present : after (.nodePresent 8) (seeking 3) (fun t => (t.node 8).presence == .present && !flag 12 t) = true := by
  decide +kernel

/-- Position 0 PRESENT with a count. -/
def silent (n : Nat) : State := withNode 0 { nodeHeard .none none none with count := n } base

/-- R38: at 6 a PRESENT position becomes LOST. -/
theorem test_lost : after (.nodeLost 0) (silent 6) (fun t => (t.node 0).presence == .lost && flag 12 t) = true := by decide +kernel

/-! ### Battery accounting and the night budget (section 5.8) -/

/-- The estimate window after its 3750 cycles. -/
def windowRun : State := { base with energy := { base.energy with window := some 3750 } }

/-- R103: the window closes. -/
theorem test_estimate_close : after .estimateWindowClose windowRun (fun t => t.energy.window == none && t.ret.estimated) = true := by
  decide +kernel

/-- A level with counts. -/
def lowAt (b : Bool) (a c : Nat) : State :=
  { base with energy := { base.energy with low := { asserted := b, assertCount := a, clearCount := c } } }

/-- R101: LOW asserts at 375 messages. -/
theorem test_level_assert : after (.levelAssert .low) (lowAt false 375 0) (fun t => t.energy.low.asserted && flag 3 t) = true := by
  decide +kernel

/-- R101: LOW clears at 375 messages. -/
theorem test_level_clear : after (.levelClear .low) (lowAt true 0 375) (fun t => !t.energy.low.asserted && flag 3 t) = true := by
  decide +kernel

/-- The full count at its end. -/
def full : State := { base with energy := { base.energy with fullCount := 7500 } }

/-- R105: Q is set to C with ESTIMATED clear. -/
theorem test_full : after .fullChargeEvent full (fun t => t.ret.charge == 45000 && !t.ret.estimated) = true := by decide +kernel

/-- Section 5.8, the first tick: the record at −15 °C, Q 20000, a rest open with required 660 and accumulated 240. -/
def nightTick : State :=
  let s := withNode 0 (nodeHeard (.battery (-112) 1218 (-15)) none none) base
  let s := roster [(0, .on, 128), (1, .on, 150), (2, .on, 200), (3, .on, 256)] s
  { s with
    heater := { s.heater with state := .running, mode := .manual 2, level := 2 }
    fridge := { s.fridge with state := .cooling, on := true }
    lights := { s.lights with channels := s.lights.channels.mapIdx fun i c => if i < 2 then { c with level := 200 } else c }
    roster := { s.roster with outlets := [true, false, false, false] }
    ret := { s.ret with
      charge := 20000, fridgeDuty := 135,
      rest := { s.ret.rest with state := .resting, accumulated := 240, required := 660 } } }

/-- Section 5.8: A 8000, horizon 450, P 106, and D 132 with the fridge's estimate at floor((7 × 135 + 256) / 8) = 150. -/
theorem test_tick_figures :
    after .budgetTick nightTick
      (fun t => t.energy.figures == some { cu := 33750, available := 8000, horizon := 450, allowance := 106, draw := 132 }
        && t.ret.fridgeDuty == 150) = true := by decide +kernel

/-- Section 5.8: the outlet is shed, with LOAD_SHED and detail 3. -/
theorem test_tick_sheds :
    after .budgetTick nightTick
      (fun t => (t.live 3).grant == .shed && (t.live 2).grant == .on && flag 7 t
        && ((t.notices.details.getD 7 []).head?) == some (byte 3)) = true := by decide +kernel

/-- Section 4.9: the heater holds the slot in STARTING and the fridge waits in HELD, ready. -/
def twoStarts : State :=
  let s := withNode 1 (nodeHeard (.heater 0 4) (some 2) (some 0)) (withNode 2 (nodeHeard (.fridge 56) (some 0) none) base)
  let s := roster [(0, .on, 128), (1, .on, 150)] s
  { s with
    heater := { s.heater with state := .starting, mode := .manual 2, level := 2, demand := true, ignition := some 70, startSeen := true }
    fridge := { s.fridge with state := .held, on := true }
    roster := { s.roster with
      holder := some { entry := 0, limit := 90, elapsed := 70 }, queue := [{ entry := 1, asked := 1 }], asks := 2 } }

/-- Section 4.9: the slot passes to the fridge with its own limit of 5 s, and the compressor is commanded on. -/
theorem test_surge_limit :
    after .surgeLimitExpiry twoStarts
      (fun t => t.roster.holder == some { entry := 1, limit := 5, elapsed := 0 } && t.roster.queue == []
        && t.fridge.state == .cooling && t.fridge.surgeHold == some 0 && t.fridge.minOn == some 0) = true := by decide +kernel

/-! ### The heater and the fridge (sections 6.8 and 7.7) -/

/-- R119: the ignition timer's expiry fails the start; the count is 1 and the slot goes to the fridge. -/
theorem test_ignition_timeout :
    after .ignitionTimeout twoStarts
      (fun t => t.heater.state == .retryWait && t.ret.failedStarts == 1 && t.heater.purge == some 0
        && (t.roster.holder.map (·.entry)) == some 1) = true := by decide +kernel

/-- A purge timer that runs, the node PRESENT. -/
def purging : State :=
  let s := withNode 1 (nodeHeard (.heater 0 0) (some 4) (some 0)) base
  { s with heater := { s.heater with state := .stopping, purge := some 240 } }

/-- R124: HEATER_FAULT is raised with the cause PURGE_LIMIT. -/
theorem test_purge_limit :
    after .purgeLimit purging (fun t => t.heater.purge == none && flag 4 t && ((t.notices.details.getD 4 []).head?) == some (byte 1)) = true := by
  decide +kernel

/-- Section 6.8: the cab at 16.1 °C, level 3 commanded, the hold running out. -/
def holding : State :=
  let s := withNode 7 (nodeHeard (.panel [0, 0, 0, 0, 0, 0, 0, 0] 161) none none) base
  let s := withNode 1 (nodeHeard (.heater 0 3) (some 3) (some 0)) s
  let s := roster [(0, .on, 192)] s
  { s with heater := { s.heater with state := .running, mode := .auto, thermo := true, demand := true, level := 3, levelHold := some 60 } }

/-- Section 6.8: level 2 is commanded, a new hold starts and the duty estimate is 128. -/
theorem test_level_hold :
    after .levelHoldExpiry holding (fun t => t.heater.level == 2 && t.heater.levelHold == some 0 && (t.live 0).duty == 128) = true := by
  decide +kernel

/-- A manual limit that a minute tick has reached. -/
def manualOver : State := { base with heater := { base.heater with mode := .manual 3, manualDue := true, manualCount := some 120 } }

/-- R110: the mode is OFF. -/
theorem test_manual_limit : after .manualLimitExpiry manualOver (fun t => t.heater.mode == .off && t.heater.manualCount == none) = true := by
  decide +kernel

/-- A preheat window whose end minute has come. -/
def windowOver : State :=
  { base with
    heater := { base.heater with mode := .auto, window := some 500, preheat := true, windowDue := true }
    ret := { base.ret with preheat := some { wake := 500, isOpen := true } } }

/-- R114, R176: the window closes and the record with it. -/
theorem test_preheat_close :
    after .preheatWindowClose windowOver (fun t => t.heater.window == none && t.ret.preheat == some { wake := 500, isOpen := false }) = true := by
  decide +kernel

/-- The fridge COOLING with the cabinet at a reading. -/
def cooling (c : Int) : State :=
  let s := withNode 2 (nodeHeard (.fridge c) (some 1) none) base
  let s := roster [(1, .on, 150)] s
  { s with fridge := { s.fridge with state := .cooling, on := true, minOn := some 60 } }

/-- Section 7.7: at 2.8 °C the expiry of the minimum-on timer ends in IDLE_COLD with the entry still ON. -/
theorem test_minimum_on :
    after .minimumOnExpiry (cooling 28)
      (fun t => t.fridge.state == .idleCold && t.fridge.minOff == some 0 && (t.live 1).grant == .on) = true := by decide +kernel

/-- Section 7.7 at 180 s: HELD at 5.6 °C, the heater holding the slot. -/
def waitingOff (h : Option Holder) : State :=
  let s := withNode 2 (nodeHeard (.fridge 56) (some 0) none) base
  let s := withNode 1 (nodeHeard (.heater 0 4) (some 2) (some 0)) s
  let s := roster [(0, .on, 128), (1, .on, 86)] s
  { s with
    fridge := { s.fridge with state := .held, on := true, minOff := some 180 }
    heater := { s.heater with state := .starting, mode := .manual 2, demand := true, ignition := some 30 }
    roster := { s.roster with holder := h, asks := 1 } }

/-- Section 7.7: the fridge joins the queue at place 1 and is HELD again. -/
theorem test_minimum_off :
    after .minimumOffExpiry (waitingOff (some { entry := 0, limit := 90, elapsed := 30 }))
      (fun t => t.fridge.state == .held && t.fridge.minOff == none && t.roster.queue.map (·.entry) == [1]) = true := by decide +kernel

/-- The fridge holding the slot. -/
def surging : State :=
  { cooling 56 with
    fridge := { (cooling 56).fridge with surgeHold := some 2 }
    roster := { (cooling 56).roster with holder := some { entry := 1, limit := 5, elapsed := 2 } } }

/-- Section 4.9: 2 s after the compressor start the slot becomes free. -/
theorem test_surge_hold : after .surgeHoldExpiry surging (fun t => t.roster.holder == none && t.fridge.surgeHold == none) = true := by
  decide +kernel

/-- The protect timer about to run out. -/
def protecting : State :=
  { base with fridge := { base.fridge with on := true, state := .held, protectTimer := some 599 } }

/-- R139: the protect request is made and FRIDGE_PROTECT raised. -/
theorem test_protect : after .protectTimerExpiry protecting (fun t => t.fridge.protectRequest && flag 5 t) = true := by decide +kernel

/-! ### The rest clock, notices and power states (sections 9.9 and 11.6) -/

/-- Section 9.9 at 08:19: the driver drives with 31 minutes left, BREAK_SOON 0 and 1 queued. -/
def driving : State :=
  let s := fresh 1 31 (fresh 0 3 base)
  { s with
    rest := { s.rest with driving := true, sweeping := true }
    ret := { s.ret with
      clock := 144499, profile := 2
      queue := [{ kind := .breakSoon, index := 0, due := 144500, figure := 30 }, { kind := .breakSoon, index := 1, due := 144515, figure := 15 }] } }

/-- Section 9.9: at 144500 BREAK_SOON 0 becomes active with figure 30 and chime code 4. -/
theorem test_minute_tick :
    after .minuteTick driving
      (fun t => t.ret.clock == 144500 && (t.ret.active.map fun a => (a.kind, a.index)) == some (.breakSoon, 0)
        && t.panel.pattern == 4 && t.panel.strike == 1 && t.ret.queue.map (·.index) == [1]) = true := by decide +kernel

/-- REST_LEAD 0 active with two repeats made. -/
def announced (n : Nat) : State :=
  { base with
    rest := { base.rest with repeatTimer := some 60, sweeping := true }
    panel := { base.panel with pattern := 3, strike := 2 }
    ret := { base.ret with active := some { kind := .restLead, index := 0, figure := 60, entryFigure := 60, repeats := n } } }

/-- R180: below the repeat count the strike rises. -/
theorem test_repeat : after .repeatTimerExpiry (announced 2) (fun t => t.panel.strike == 3 && (t.ret.active.map (·.repeats)) == some 3) = true := by
  decide +kernel

/-- R180: at the repeat count of 4 the warning ends unacknowledged. -/
theorem test_repeat_ends : after .repeatTimerExpiry (announced 4) (fun t => t.ret.active == none && t.panel.pattern == 0 && flag 10 t) = true := by
  decide +kernel

/-- A notice that is repeated each second. -/
def reporting (s : State) : State := { s with notices := { s.notices with flags := 0x0200#16, repeatTimer := some 1 } }

/-- Section 11.6: class 9 is sent in RUN. -/
theorem test_notice_repeat :
    after .noticeRepeat (reporting base) (fun t => reply t == [0x00, 0x02, 9, 0, 0, 0, 0, 0] && t.notices.repeatTimer == some 0) = true := by
  decide +kernel

/-- A power state. -/
def inPower (p : PowerState) (s : State) : State := { s with power := { s.power with state := p } }

/-- Section 11.6: class 9 is not in the wake mask, so nothing is sent in QUIET. -/
theorem test_notice_quiet :
    after .noticeRepeat (inPower .quiet (reporting base)) (fun t => t.bus.prioQueue == [] && t.notices.repeatTimer == none) = true := by
  decide +kernel

/-- RUN with its quiet timer at its end. -/
def quietDue : State := { base with power := { base.power with quietTimer := some 10 } }

/-- Section 11.6: 10 s after the last frame the part is in QUIET. -/
theorem test_quiet : after .quietTimerExpiry quietDue (fun t => t.power.state == .quiet && t.power.quietTimer == none) = true := by
  decide +kernel

/-- QUIET with the standby conditions holding. -/
def sleepy : State := { base with power := { base.power with state := .quiet, standbyTimer := some 60 } }

/-- R200: STANDBY is entered. -/
theorem test_standby : after .standbyEntry sleepy (fun t => t.power.state == .standby && t.power.standbyTimer == none) = true := by
  decide +kernel

/-- R201: CAN activity wakes STANDBY to RUN. -/
theorem test_can_wake :
    after .canWake (inPower .standby base) (fun t => t.power.state == .run && (t.node 0).presence == .seeking && (t.node 11).presence == .unconfigured) = true := by
  decide +kernel

/-- R201, R197: EITHER is the default edge, and the wake line wakes to QUIET. -/
theorem test_wake_line : after (.wakeLineEdge .falling) (inPower .standby base) (fun t => t.power.state == .quiet) = true := by
  decide +kernel

/-- R202: the retention area survives a supply dip, the notice flags do not. -/
theorem test_reset_dip :
    after (.reset .supplyDip) { latched with ret := { latched.ret with clock := 77 } }
      (fun t => t.phase == .held && t.ret.clock == 77 && t.notices.flags == 0#16) = true := by decide +kernel

/-- A store and a retention area without damage. -/
def noDamage : StoreDamage := { retention := false, copy0 := false, copy1 := false, mark := false }

/-- R203, section 5.8 "Power-on": from reset, defaults, Q 22500, class 15 latched and reception open in RUN. -/
theorem test_start_up :
    after (.startUp noDamage) State.reset
      (fun t => t.phase == .running && t.ret.charge == 22500 && t.ret.estimated && flag 15 t
        && t.energy.window == some 0 && t.setup.image == .defaults) = true := by decide +kernel

/-- R203: an empty queue in reset idles; the machine starts by START_UP. -/
theorem test_idle_held :
    (match step State.reset with | .next t => decide (t = State.reset) | _ => false) = true := by decide +kernel

/-! ### Witnesses: a state and operands that meet the hypotheses of each statement

A statement's name is in the name of its witness; clauses whose hypotheses differ have one each. -/

/-- `Settled` from the two facts it says. -/
theorem settled_of {s : State} (h : s.phase = .running ∧ settle s = s) : s.Settled := h

/-- `Ready` from the three facts it says. -/
theorem ready_of {s : State} (h : (s.phase = .running ∧ settle s = s) ∧ s.power.state ≠ .standby) : s.Ready := h

/-- `Asked` from what it says of the one frame at the head. -/
theorem asked_of {d : List Nat} {s : State} (h : s.bus.rxQueue = [{ ident := 0x1C6A0100#29, data := bytes d }] ∧
    s.requestIdent = 0x1C6A0100 ∧ ((s.phase = .running ∧ settle s = s) ∧ s.power.state ≠ .standby) ∧ 2 ≤ d.length ∧
    s.setup.waiting = none ∧ s.bus.queued < 8) : s.Asked (bytes d) := by
  obtain ⟨h1, h2, h3, h4, h5, h6⟩ := h
  refine ⟨h3, ⟨0x1C6A0100#29, by rw [h1]; rfl, by rw [h2]; rfl⟩, ?_, h5, h6⟩
  simpa [bytes] using h4

/-- The base state is ready. -/
theorem base_ready : base.Ready := ready_of (by decide +kernel)

/-- The hypothesis of `StepTakesTheFront`. -/
theorem witness_StepTakesTheFront : ({ base with pending := [.idReq] } : State).pending = .idReq :: [] := rfl

/-- The hypothesis of `CommandsLeaveTheQueue`. -/
theorem witness_CommandsLeaveTheQueue : exec .idReq State.reset = .next State.reset := rfl

/-- The hypotheses of `RefusalsAndIdling`, clause by clause. -/
theorem witness_RefusalsAndIdling :
    (⟨false, false, 2048#29, []⟩ : CanFrame).wellFormed = false ∧
    (Instr.wellFormed .idReq = true ∧ State.reset.phase = .held ∧ (∀ k, Instr.idReq ≠ .reset k) ∧ ∀ d, Instr.idReq ≠ .startUp d) ∧
    (State.reset.pending = [] ∧ State.reset.phase = .held) ∧ base.pending = [] ∧ base.Settled :=
  ⟨by decide, ⟨rfl, rfl, fun _ => by simp, fun _ => by simp⟩, ⟨rfl, rfl⟩, rfl, base_ready.1⟩

/-- The hypothesis of `ResetHolds`. -/
theorem witness_ResetHolds : base.phase = .running := rfl

/-- A copy just made checks. -/
theorem makeCopy_checks (n : Nat) (t : Tables) : (makeCopy n t).checks = true := by
  unfold ImageCopy.checks makeCopy
  exact beq_self_eq_true _

/-- A store with one copy. -/
def oneCopy (c : ImageCopy) (m : LockMark) : Store := { copies := [some c, none], current := some 0, mark := m, writing := none }

/-- A store's one copy, where it checks, is its best. -/
theorem oneCopy_best (c : ImageCopy) (h : c.checks = true) :
    ((oneCopy c .valid).damaged noDamage).best = some 0 ∧ ((oneCopy c .valid).damaged noDamage).good 0 = some c ∧
      ((oneCopy c .valid).damaged noDamage).mark ≠ .invalid := by
  simp [Store.damaged, Store.best, Store.good, oneCopy, noDamage, h]

/-- The inner hypotheses of `StartUpOpens`: a copy that is good, a store with none, and a damaged mark. -/
theorem witness_StartUpOpens :
    (let x := (oneCopy (makeCopy 1 defaultTables) .valid).damaged noDamage
     x.best = some 0 ∧ x.good 0 = some (makeCopy 1 defaultTables) ∧ x.mark ≠ .invalid) ∧
    (Store.init.damaged noDamage).best = none ∧ ((oneCopy (makeCopy 1 defaultTables) .invalid).damaged noDamage).mark = .invalid :=
  ⟨oneCopy_best _ (makeCopy_checks 1 defaultTables), by decide, rfl⟩

/-- The hypotheses of `HeldStateIsReset`: a step out of the running state into the held one, and the held state itself. -/
theorem witness_HeldStateIsReset : State.reset.HeldOk ∧ step State.reset = .next State.reset := ⟨fun _ => rfl, rfl⟩

/-- Whether a step answers a next state. -/
def steps (s : State) : Bool :=
  match step s with
  | .next _ => true
  | _ => false

/-- Both queues at their limits: 16 frames received and 8 to be sent, with another frame coming. -/
def crowded : State :=
  { sending (some .priority) (List.replicate 8 (tx 9#29)) [] fullQueue with pending := [.frameReceived ⟨true, false, 5#29, []⟩] }

/-- The hypotheses of `BusQueuesStayBounded`. -/
theorem witness_BusQueuesStayBounded : crowded.bus.Bounded ∧ steps crowded = true := by
  unfold Bus.Bounded
  decide +kernel

/-- The hypotheses of `WarningQueueStaysOrdered`: two queued warnings in order, and the minute at which the first falls due. -/
theorem witness_WarningQueueStaysOrdered :
    WarningsOk driving.ret.queue ∧ steps { driving with pending := [.minuteTick] } = true := by
  unfold WarningsOk
  decide +kernel

/-- The hypotheses of `ChargeCountStaysInRange`: the residue at both its limits at a transmit cycle that integrates, and a full count. -/
theorem witness_ChargeCountStaysInRange :
    (let s := { holdingCurrent 100 4499 0 with pending := [.transmitCycle] }
     s.ret.ResidueOk ∧ steps s = true) ∧
    (let s := { holdingCurrent (-100) (-4499) 0 with pending := [.transmitCycle] }
     s.ret.ResidueOk ∧ steps s = true) ∧
    (let s := { full with ret := { full.ret with charge := 45000 }, pending := [.fullChargeEvent] }
     (∀ i < 8, (s.restPoint i).2 ≤ 100) ∧ s.ChargeOk ∧ steps s = true) := by
  unfold Retention.ResidueOk State.ChargeOk
  decide +kernel

/-- The hypotheses of `SurgePlacesStayOn`: the heater holding and the fridge queued. -/
theorem witness_SurgePlacesStayOn :
    (twoStarts.HeldOk ∧ twoStarts.SlotOk) ∧ steps { twoStarts with pending := [.surgeLimitExpiry] } = true := by
  refine ⟨?_, by decide +kernel⟩
  have h1 : twoStarts.roster.holder = some { entry := 0, limit := 90, elapsed := 70 } := by rfl
  have h2 : twoStarts.roster.queue = [{ entry := 1, asked := 1 }] := by rfl
  have h3 : (twoStarts.cfg 0).valid = true ∧ (twoStarts.live 0).grant = .on ∧ (twoStarts.cfg 1).valid = true ∧
      (twoStarts.live 1).grant = .on := by decide +kernel
  refine ⟨fun h => absurd h (by decide), ?_, ?_, ?_, ?_⟩
  · intro h e
    rw [h1] at e
    obtain rfl := Option.some.inj e
    exact ⟨h3.1, h3.2.1⟩
  · rw [h2]
    simpa using ⟨h3.2.2.1, h3.2.2.2⟩
  · rw [h1, h2]
    decide
  · rw [h1]
    simp

/-- A level of CUTOFF with counts. -/
def cutoffAt (b : Bool) (a c : Nat) : State :=
  { base with energy := { base.energy with cutoff := { asserted := b, assertCount := a, clearCount := c } } }

/-- `HeldOk` says nothing of a part that runs. -/
theorem heldOk_of_running {s : State} (h : s.phase = .running) : s.HeldOk := fun k => absurd (h.symm.trans k) (by decide)

/-- A fresh slot is free and has no queue. -/
theorem slotOk_of_free {s : State} (h : s.roster.holder = none) (q : s.roster.queue = []) : s.SlotOk := by
  refine ⟨?_, ?_, ?_, fun _ => q⟩
  · intro x e
    rw [h] at e
    cases e
  · rw [q]
    intro p m
    cases m
  · rw [h, q]
    decide

/-- The default roster has one HEATER and one FRIDGE entry. -/
theorem oneEach_defaults : defaultTables.OneEach := by
  unfold Tables.OneEach
  decide +kernel

theorem oneEach_of_defaults {s : State} (h : s.tables = defaultTables) : s.OneEach := by
  unfold State.OneEach
  rw [h]
  exact oneEach_defaults

/-- The hypotheses of `HeaterRunsOnlyWhileOn`: the night of section 5.8, its heater running. -/
theorem witness_HeaterRunsOnlyWhileOn :
    nightTick.HeldOk ∧ nightTick.SlotOk ∧ nightTick.OneEach ∧ nightTick.HeaterLaw ∧ nightTick.heaterRun = true ∧
    steps { nightTick with pending := [.budgetTick] } = true := by
  refine ⟨heldOk_of_running rfl, slotOk_of_free rfl rfl, oneEach_of_defaults rfl, ?_, by decide, by decide +kernel⟩
  · intro _
    exact ⟨0, by decide +kernel⟩

/-- The fridge's entry SHED and protected while CUTOFF stands, at the message that lets it clear. -/
def protectedShed : State :=
  let s := cutoffAt true 0 375
  withLive 1 { liveAt s 1 .shed 150 with protect := true, reason := .emergency } s

/-- The hypotheses of `ProtectedLoadsStayUnlessCutoff`. -/
theorem witness_ProtectedLoadsStayUnlessCutoff :
    protectedShed.HeldOk ∧ protectedShed.SlotOk ∧ protectedShed.OneEach ∧ protectedShed.ProtectLaw ∧
    (protectedShed.live 1).protect = true ∧ steps { protectedShed with pending := [.levelClear .cutoff] } = true := by
  refine ⟨heldOk_of_running rfl, slotOk_of_free rfl rfl, oneEach_of_defaults rfl, ?_, by decide, by decide +kernel⟩
  · unfold State.ProtectLaw
    decide +kernel

/-- The hypotheses of `CompressorKeepsItsRest`: the compressor on, and a cut-out at the end of its minimum-on time. -/
theorem witness_CompressorKeepsItsRest :
    (cooling 28).HeldOk ∧ (cooling 28).SlotOk ∧ (cooling 28).OneEach ∧ (cooling 28).FridgeLaw ∧ (cooling 28).fridge.state = .cooling ∧
    after .minimumOnExpiry (cooling 28) (fun t => t.phase == .running && t.fridge.state != .cooling) = true ∧
    steps { cooling 28 with pending := [.minimumOnExpiry] } = true := by
  refine ⟨heldOk_of_running rfl, slotOk_of_free rfl rfl, oneEach_of_defaults rfl, ⟨fun _ => rfl, ?_⟩, rfl, by decide +kernel, by decide +kernel⟩
  intro p m
  cases m

/-- The hypotheses of `WarningKindsKeepTheirSeason`: BREAK_SOON entries queued while the driver drives and no rest is open. -/
theorem witness_WarningKindsKeepTheirSeason :
    driving.HeldOk ∧ driving.KindsInSeason ∧ driving.ret.queue ≠ [] ∧ steps { driving with pending := [.minuteTick] } = true := by
  refine ⟨heldOk_of_running rfl, ⟨fun _ => ⟨by decide, ?_⟩, fun _ => ⟨fun _ => rfl, fun h => absurd h (by decide)⟩⟩, by decide,
    by decide +kernel⟩
  intro a e
  cases e

/-- The hypothesis of `RosterEntriesStayConsistent`: entries ON and IDLE. -/
theorem witness_RosterEntriesStayConsistent :
    (∀ l ∈ nightTick.roster.live, l.Ok) ∧ steps { nightTick with pending := [.budgetTick] } = true := by
  unfold Live.Ok
  decide +kernel

/-- The hypotheses of `RosterEntriesStayConsistent` of the roster tables, a save being written. -/
theorem witness_RosterEntriesStayConsistent_tables :
    saving.OneEach ∧ saving.ImagesOneEach ∧ steps { saving with pending := [.saveComplete true] } = true := by
  refine ⟨oneEach_of_defaults rfl, ?_, by decide +kernel⟩
  rintro c (h | h)
  · have e : saving.store.copies = [none, none] := rfl
    simp [e] at h
  · cases h
    exact oneEach_defaults

/-- Overlay record 0 in use over channels 0 and 1. -/
def flashing : Lights :=
  { base.lights with
    overlays := [{ Overlay.init with inUse := true, mask := 3 }, Overlay.init]
    channels := base.lights.channels.mapIdx fun i c => if i < 2 then { c with link := some 0 } else c }

/-- The hypothesis of `OverlayLinksStayRight`. -/
theorem witness_OverlayLinksStayRight : flashing.LinksOk ∧ steps { base with lights := flashing, pending := [.transmitCycle] } = true := by
  refine ⟨?_, by decide +kernel⟩
  refine ⟨by decide, by decide, ?_⟩
  have h : ∀ c < 8, (flashing.channels.getD c Channel.init).link = if c < 2 then some 0 else none := by decide
  intro c hc
  rw [h c hc]
  have k : ∀ c < 8, c < 2 → bitAt (flashing.overlays.getD 0 Overlay.init).mask c = true := by decide
  have n : ∀ c < 8, ¬ c < 2 → ∀ r < 2, ¬ ((flashing.overlays.getD r Overlay.init).inUse = true ∧
      bitAt (flashing.overlays.getD r Overlay.init).mask c = true) := by decide
  by_cases h2 : c < 2
  · simp only [h2, if_true]
    exact ⟨by decide, by decide, k c hc h2⟩
  · simp only [h2, if_false]
    exact n c hc h2

/-- The part with its lock set. -/
def lockedPart : State := { base with setup := { base.setup with lock := true } }

/-- The hypotheses of `LockedTablesStay`. -/
theorem witness_LockedTablesStay :
    lockedPart.phase = .running ∧ lockedPart.setup.lock = true ∧
    after .quietTimerExpiry { lockedPart with power := quietDue.power } (fun t => t.phase == .running) = true := by decide +kernel

/-- The hypotheses of `FramesAreReceived`: in RUN with the queue full at 16 and with a place free, in QUIET, in STANDBY and in bus-off. -/
theorem witness_FramesAreReceived :
    (⟨true, false, 5#29, []⟩ : CanFrame).wellFormed = true ∧
    (fullQueue.Settled ∧ fullQueue.power.state = .run ∧ fullQueue.bus.busOff = false) ∧
    base.Settled ∧ ((inPower .quiet base).Settled ∧ (inPower .quiet base).power.state = .quiet) ∧
    ((inPower .standby base).Settled ∧ (inPower .standby base).power.state = .standby) ∧
    ({ base with bus := { base.bus with busOff := true, txErrors := 256 } } : State).Settled :=
  ⟨by decide, ⟨settled_of (by decide +kernel), rfl, rfl⟩, base_ready.1, ⟨settled_of (by decide +kernel), rfl⟩,
    ⟨settled_of (by decide +kernel), rfl⟩, settled_of (by decide +kernel)⟩

/-- The part of section 1.7 with one frame in the queue. -/
def oneFrame (i : Ident) (d : List Nat) : State := received [rx i d] mapped

/-- The hypotheses of `IngressTakesTheHead`: no entry claims the frame; the field runs past the data; the field is not available; the
value is stored in signal 8, the lowest that has no consumer. -/
theorem witness_IngressTakesTheHead :
    ((oneFrame 0x1C4D2099#29 []).Ready ∧ (oneFrame 0x1C4D2099#29 []).isSetupFrame (rx 0x1C4D2099#29 []) = false ∧
      (oneFrame 0x1C4D2099#29 []).claimant (rx 0x1C4D2099#29 []) = none) ∧
    ((oneFrame 0x1C4D2055#29 [0, 0]).Ready ∧
      (oneFrame 0x1C4D2055#29 [0, 0]).claimant (rx 0x1C4D2055#29 [0, 0]) = some (ingressOf tempEntry) ∧
      (ingressOf tempEntry).reads = true ∧ (ingressOf tempEntry).raw (bytes [0, 0]) = none) ∧
    ((ingressOf tempEntry).raw (bytes [0, 0, 0xFF, 0xFF]) = some 65535 ∧ (ingressOf tempEntry).available 65535 = false) ∧
    (let e := tempEntry.set 9 (byte 8)
     let s := received [rx 0x1C4D2055#29 [0, 0, 0x3A, 0x20]] (withEntry 1 0 e base)
     s.Ready ∧ s.claimant (rx 0x1C4D2055#29 [0, 0, 0x3A, 0x20]) = some (ingressOf e) ∧ (ingressOf e).kind = 0 ∧
      8 ≤ (ingressOf e).target ∧ (ingressOf e).raw (bytes [0, 0, 0x3A, 0x20]) = some 8250 ∧ (ingressOf e).available 8250 = true) :=
  ⟨⟨ready_of (by decide +kernel), by decide +kernel⟩, ⟨ready_of (by decide +kernel), by decide +kernel⟩, by decide +kernel,
    ready_of (by decide +kernel), by decide +kernel⟩

/-- The hypotheses of `DriverActivityIsHeld`, at 3, inside the range, and at 4, outside it. -/
theorem witness_DriverActivityIsHeld :
    (oneFrame 0x1C4D2040#29 [3]).Ready ∧ (oneFrame 0x1C4D2040#29 [4]).Ready ∧
    (oneFrame 0x1C4D2040#29 [3]).isSetupFrame (rx 0x1C4D2040#29 [3]) = false ∧
    (oneFrame 0x1C4D2040#29 [3]).claimant (rx 0x1C4D2040#29 [3]) = some (ingressOf activityEntry) ∧
    (oneFrame 0x1C4D2040#29 [4]).claimant (rx 0x1C4D2040#29 [4]) = some (ingressOf activityEntry) ∧
    (ingressOf activityEntry).kind = 0 ∧ (ingressOf activityEntry).target = 0 ∧
    (ingressOf activityEntry).raw (bytes [3]) = some 3 ∧ (ingressOf activityEntry).raw (bytes [4]) = some 4 ∧
    (ingressOf activityEntry).available 3 = true ∧ (ingressOf activityEntry).available 4 = true ∧
    (ingressOf activityEntry).scale 3 ≤ (mapped.signalDef 0).hi ∧ (mapped.signalDef 0).hi < (ingressOf activityEntry).scale 4 :=
  ⟨ready_of (by decide +kernel), ready_of (by decide +kernel), by decide +kernel⟩

/-- The hypotheses of the second clause of `ScalingTruncates`; those of the third are met by `tempEntry`'s fields. -/
theorem witness_ScalingTruncates :
    (let e := ingressOf (entryOf 25 [le 1 9, le 4 0, le 4 0, le 1 8, le 1 0, le 1 8, le 2 1, le 2 2])
     e.signedField = true ∧ e.width = 8 ∧ e.multiplier = 1 ∧ e.divisor = 2 ∧ e.offset = 0) ∧
    (ingressOf tempEntry).signedField = false ∧ (ingressOf tempEntry).multiplier = 10 ∧
    (ingressOf tempEntry).divisor = 32 ∧ (ingressOf tempEntry).offset = -2730 := by decide +kernel

/-- The hypotheses of `SignalsAge`: a FRESH signal below its limit, and one at it. -/
theorem witness_SignalsAge :
    (fresh 0 0 base).Ready ∧ atLimit.phase = .running ∧ (atLimit.signal 0).quality = .fresh ∧ 1 ≤ (atLimit.signalDef 0).limit ∧
    (atLimit.signalDef 0).limit ≤ (atLimit.signal 0).age := ⟨ready_of (by decide +kernel), by decide +kernel⟩

/-- The hypotheses of `EgressPassesAndSends`, with a countdown at 1. -/
theorem witness_EgressPassesAndSends_pass : (sender 1).Ready ∧ (sender 1).egress.countdown.length = 16 :=
  ⟨ready_of (by decide +kernel), by decide +kernel⟩

/-- The hypotheses of `EgressPassesAndSends`. -/
theorem witness_EgressPassesAndSends_countdown :
    (standing (sender 0)).phase = .running ∧ (standing (sender 0)).egress.passAt = some 2 ∧
    ∀ j, 2 < j → j < 16 → ((standing (sender 0)).egressEntry j).valid = false := by
  refine ⟨rfl, rfl, ?_⟩
  have h : ∀ j < 16, 2 < j → ((standing (sender 0)).egressEntry j).valid = false := by decide +kernel
  exact fun j a b => h j b a

/-- The hypotheses of `TransmissionsEnd`: each class being sent. -/
theorem witness_TransmissionsEnd_sent :
    (sending (some .priority) [tx 9#29] [tx 1#29] base).Ready ∧ (sending (some .egress) [tx 9#29] [tx 1#29] base).Ready :=
  ⟨ready_of (by decide +kernel), ready_of (by decide +kernel)⟩

/-- The hypotheses of `TransmissionsEnd`: a frame being sent with the transmit error count at 255; an interface off the bus. -/
theorem witness_TransmissionsEnd_errors :
    (let s := sending (some .priority) [tx 9#29] [] base
     ({ s with bus := { s.bus with txErrors := 255 } } : State).Settled) ∧
    (base.phase = .running ∧ base.power.state ≠ .standby ∧ base.bus.busOff = false) ∧
    offBus.Settled ∧ offBus.bus.busOff = true ∧ offBus.bus.sending = none :=
  ⟨settled_of (by decide +kernel), ⟨rfl, by decide, rfl⟩, settled_of (by decide +kernel), rfl, rfl⟩

/-- The hypotheses of `WaitingFramesJoin`: a setup response or a notice frame waiting, with seven places taken and with all eight. -/
theorem witness_WaitingFramesJoin :
    (let s := sending (some .priority) (List.replicate 7 (tx 9#29)) [] { base with setup := { base.setup with waiting := some (tx 1#29) } }
     s.phase = .running ∧ s.power.state ≠ .standby ∧ s.setup.waiting = some (tx 1#29) ∧ s.bus.queued < 8) ∧
    (let s := { base with notices := { base.notices with waiting := some (tx 1#29) } }
     s.setup.waiting = none ∧ s.notices.waiting = some (tx 1#29) ∧ s.bus.queued < 8) ∧
    8 ≤ (sending (some .priority) (List.replicate 8 (tx 9#29)) [] base).bus.prioQueue.length := by decide +kernel

/-- The hypotheses of `BadRequests`: no tag; an unknown code; SEL one byte short. -/
theorem witness_BadRequests :
    ((asked [1] base).Ready ∧ (asked [1] base).setup.waiting = none ∧ (0x1C6A0100#29).toNat = (asked [1] base).requestIdent) ∧
    ((asked [0x7F, 9] base).Asked (bytes [0x7F, 9]) ∧ shortestLength (byteAt (bytes [0x7F, 9]) 0) = none) ∧
    (asked [2, 1, 1, 4] base).Asked (bytes [2, 1, 1, 4]) ∧ shortestLength (byteAt (bytes [2, 1, 1, 4]) 0) = some 5 ∧
    (bytes [2, 1, 1, 4]).length < 5 :=
  ⟨⟨ready_of (by decide +kernel), by decide +kernel⟩, ⟨asked_of (by decide +kernel), by decide⟩, asked_of (by decide +kernel),
    by decide⟩

/-- The hypotheses of `IdAndSelAnswer`: ID; SEL of the last entry of table 1 and of the one past it. -/
theorem witness_IdAndSelAnswer :
    (asked [1, 7] base).Asked (bytes [1, 7]) ∧
    ((asked [2, 1, 1, 47, 1] base).Asked (bytes [2, 1, 1, 47, 1]) ∧
      byteAt (bytes [2, 1, 1, 47, 1]) 3 < tableEntries (byteAt (bytes [2, 1, 1, 47, 1]) 2)) ∧
    (asked [2, 1, 1, 48, 1] base).Asked (bytes [2, 1, 1, 48, 1]) ∧
      tableEntries (byteAt (bytes [2, 1, 1, 48, 1]) 2) ≤ byteAt (bytes [2, 1, 1, 48, 1]) 3 :=
  ⟨asked_of (by decide +kernel), ⟨asked_of (by decide +kernel), by decide⟩, asked_of (by decide +kernel), by decide⟩

/-- The last part of ingress entry 4, of which parts 0 to 3 stand staged: five bytes of 0, or a multiplier that fails the check. -/
def lastPart (valid : Bool) (s : State) : State :=
  staged 1 4 (bytes [bit valid, 0, 0, 0, 0] :: List.replicate 3 (bytes [0, 0, 0, 0, 0])) s

/-- The hypotheses of `WrpStagesAndCommits`: part 0 staged; a last part that is committed, one whose entry fails its check, and one that
the lock covers. -/
theorem witness_WrpStagesAndCommits :
    (let s := asked [3, 2, 0, 1, 2, 3, 4, 5] (atCursor 1 4 base)
     s.Asked (bytes [3, 2, 0, 1, 2, 3, 4, 5]) ∧ s.setup.cursor = some { table := 1, index := 4, auto := true } ∧
      s.storeBusy = false ∧ 0 + 1 < tableParts 1 ∧ (s.setup.lock && lockCovers 1 4) = false) ∧
    (∀ v, let s := asked [3, 9, 4, 0, 0, 0, 0, 0] (lastPart v base)
     s.Asked (bytes [3, 9, 4, 0, 0, 0, 0, 0]) ∧ s.setup.cursor = some { table := 1, index := 4, auto := true } ∧
      s.storeBusy = false ∧ 4 + 1 = tableParts 1 ∧
      s.setup.staging =
        some { table := 1, index := 4, parts := bytes [bit v, 0, 0, 0, 0] :: List.replicate 3 (bytes [0, 0, 0, 0, 0]) } ∧
      s.checkEntry 1 4 (normalEntry 1 4
        ((bytes [bit v, 0, 0, 0, 0] :: List.replicate 3 (bytes [0, 0, 0, 0, 0])) ++ [((bytes [3, 9, 4, 0, 0, 0, 0, 0]).drop 3).take 5]).flatten) = !v) ∧
    (let s := asked [3, 9, 4, 0, 0, 0, 0, 0] (lastPart false lockedPart)
     s.Asked (bytes [3, 9, 4, 0, 0, 0, 0, 0]) ∧ (s.setup.lock && lockCovers 1 4) = true) := by
  refine ⟨⟨asked_of (by decide +kernel), by decide +kernel⟩, ?_, asked_of (by decide +kernel), by decide +kernel⟩
  intro v
  cases v
  · exact ⟨asked_of (by decide +kernel), by decide +kernel⟩
  · exact ⟨asked_of (by decide +kernel), by decide +kernel⟩

/-- A read snapshot of ingress entry 4. -/
def snapped (s : State) : State :=
  { s with setup := { s.setup with readSnap := some { table := 1, index := 4, bytes := padTo 25 [] } } }

/-- The hypotheses of `RdpReadsAnEntry`: no cursor; part 0; the last part with and without a snapshot of the entry; a part past it. -/
theorem witness_RdpReadsAnEntry :
    ((asked [4, 1, 0] base).Asked (bytes [4, 1, 0]) ∧ (asked [4, 1, 0] base).setup.cursor = none) ∧
    ((asked [4, 1, 0] (atCursor 1 4 base)).Asked (bytes [4, 1, 0]) ∧ 0 < tableParts 1) ∧
    ((asked [4, 1, 4] (snapped (atCursor 1 4 base))).Asked (bytes [4, 1, 4]) ∧ 4 < tableParts 1) ∧
    (asked [4, 1, 4] (atCursor 1 4 base)).Asked (bytes [4, 1, 4]) ∧
    ((asked [4, 1, 5] (atCursor 1 4 base)).Asked (bytes [4, 1, 5]) ∧ tableParts 1 ≤ 5) :=
  ⟨⟨asked_of (by decide +kernel), rfl⟩, ⟨asked_of (by decide +kernel), by decide⟩, ⟨asked_of (by decide +kernel), by decide⟩,
    asked_of (by decide +kernel), asked_of (by decide +kernel), by decide⟩

/-- The hypotheses of `StoreRequests`: SAV while the store writes and while it is idle; LCK with the lock set, with unsaved edits, and
free; DEF and RST. -/
theorem witness_StoreRequests :
    ((asked [5, 1] locking).Asked (bytes [5, 1]) ∧ (asked [5, 1] locking).storeBusy = true) ∧
    ((asked [5, 1] base).Asked (bytes [5, 1]) ∧ (asked [5, 1] base).storeBusy = false) ∧
    ((asked [7, 1] lockedPart).Asked (bytes [7, 1]) ∧ (asked [7, 1] lockedPart).setup.lock = true) ∧
    ((asked [7, 1] unsavedIngress).Asked (bytes [7, 1]) ∧ (asked [7, 1] unsavedIngress).unsavedLocked = true) ∧
    ((asked [7, 1] base).Asked (bytes [7, 1]) ∧ (asked [7, 1] base).unsavedLocked = false) ∧
    ((asked [6, 1] base).Asked (bytes [6, 1]) ∧ (asked [6, 1] base).setup.restart = none) ∧
    (asked [0x0B, 1] base).Asked (bytes [0x0B, 1]) ∧ byteAt (bytes [0x0B, 1]) 0 = 0x0B :=
  ⟨⟨asked_of (by decide +kernel), by decide⟩, ⟨asked_of (by decide +kernel), by decide⟩, ⟨asked_of (by decide +kernel), rfl⟩,
    ⟨asked_of (by decide +kernel), by decide +kernel⟩, ⟨asked_of (by decide +kernel), by decide +kernel⟩,
    ⟨asked_of (by decide +kernel), rfl⟩, asked_of (by decide +kernel), by decide⟩

/-- The hypotheses of `StoreWritesComplete`: a save and a lock write in progress. -/
theorem witness_StoreWritesComplete :
    (saving.Settled ∧ saving.setup.store = .saving ∧ saving.store.copies.length = 2 ∧ saving.notices.details.length = 16) ∧
    locking.Settled ∧ locking.setup.store = .lockWriting ∧ locking.notices.details.length = 16 :=
  ⟨⟨settled_of (by decide +kernel), by decide⟩, settled_of (by decide +kernel), by decide⟩

/-- The hypotheses of `RestartTriggers`. -/
theorem witness_RestartTriggers :
    restarting.phase = .running ∧ restarting.setup.restart = some { cause := .restart, answerLeft := true } ∧
    ResetCause.restart ≠ .powerOn := by decide

/-- The hypotheses of `ClrAndRfrAct`. -/
theorem witness_ClrAndRfrAct_clr : (asked [8, 1, 0, 0x82] latched).Asked (bytes [8, 1, 0, 0x82]) ∧ 4 ≤ (bytes [8, 1, 0, 0x82]).length :=
  ⟨asked_of (by decide +kernel), by decide⟩

/-- The hypotheses of `ActDispatches`: code 14, the first past the vocabulary; HEAT_MODE 6, the first past its list; REST_PROFILE under
the lock; HEAT_SET. -/
theorem witness_ActDispatches :
    (asked [9, 1, 14, 0, 0, 0, 0] base).Asked (bytes [9, 1, 14, 0, 0, 0, 0]) ∧
    ((asked [9, 1, 1, 6, 0, 0, 0] base).Asked (bytes [9, 1, 1, 6, 0, 0, 0]) ∧
      (asked [9, 1, 1, 6, 0, 0, 0] base).checkAction 1 6 = .refuse) ∧
    ((asked [9, 1, 12, 1, 0, 0, 0] lockedPart).Asked (bytes [9, 1, 12, 1, 0, 0, 0]) ∧
      (asked [9, 1, 12, 1, 0, 0, 0] lockedPart).checkAction 12 1 = .locked) ∧
    (asked [9, 1, 2, 0x5E, 1, 0, 0] base).Asked (bytes [9, 1, 2, 0x5E, 1, 0, 0]) ∧
      (asked [9, 1, 2, 0x5E, 1, 0, 0] base).checkAction 2 350 = .take (some 300) :=
  ⟨asked_of (by decide +kernel), ⟨asked_of (by decide +kernel), by decide +kernel⟩, ⟨asked_of (by decide +kernel), by decide +kernel⟩,
    asked_of (by decide +kernel), by decide +kernel⟩

/-- The hypotheses of `ClrAndRfrAct`: from IN_SYNC and from SEARCH. -/
theorem witness_ClrAndRfrAct_rfr :
    ((asked [0x0A, 1] inSync).Asked (bytes [0x0A, 1]) ∧ (asked [0x0A, 1] inSync).rx.state = .inSync) ∧
    (asked [0x0A, 1] base).Asked (bytes [0x0A, 1]) ∧ (asked [0x0A, 1] base).rx.state ≠ .inSync :=
  ⟨⟨asked_of (by decide +kernel), rfl⟩, asked_of (by decide +kernel), by decide⟩

/-- A status snapshot of load 0. -/
def pages (s : State) : State :=
  { s with setup := { s.setup with statusSnap := some { item := 0x22, selector := 0, bytes := padTo 14 [] } } }

/-- The hypotheses of `StaReadsAnItem`: an unknown item; a selector past the last; page 0; a later page with and without its snapshot; a
page past the last. -/
theorem witness_StaReadsAnItem :
    ((asked [0x0C, 1, 0, 0, 0] base).Asked (bytes [0x0C, 1, 0, 0, 0]) ∧ selectors 0 = none) ∧
    ((asked [0x0C, 1, 0x22, 16, 0] base).Asked (bytes [0x0C, 1, 0x22, 16, 0]) ∧ selectors 0x22 = some 16) ∧
    (asked [0x0C, 1, 0x22, 15, 0] base).Asked (bytes [0x0C, 1, 0x22, 15, 0]) ∧
    (asked [0x0C, 1, 0x22, 0, 2] (pages base)).Asked (bytes [0x0C, 1, 0x22, 0, 2]) ∧
    (asked [0x0C, 1, 0x22, 0, 2] base).Asked (bytes [0x0C, 1, 0x22, 0, 2]) ∧
    ((asked [0x0C, 1, 0x22, 0, 3] base).Asked (bytes [0x0C, 1, 0x22, 0, 3]) ∧ (base.itemBytes 0x22 0).length ≤ 5 * 3) ∧
    5 * 2 < (base.itemBytes 0x22 0).length :=
  ⟨⟨asked_of (by decide +kernel), rfl⟩, ⟨asked_of (by decide +kernel), rfl⟩, asked_of (by decide +kernel),
    asked_of (by decide +kernel), asked_of (by decide +kernel), ⟨asked_of (by decide +kernel), by decide +kernel⟩, by decide +kernel⟩

/-- The hypotheses of `CyclesCarryCheckedCommands` at the top of the sequence. -/
theorem witness_CyclesCarryCheckedCommands_bytes : 15 < 16 ∧ (padTo 6 []).length = 6 := by decide

/-- The hypotheses of `CyclesCarryCheckedCommands`: positions mapped and position 11 mapped NONE. -/
theorem witness_CyclesCarryCheckedCommands_cycle : base.Ready ∧ base.kindAt 11 = .none ∧ base.kindAt 0 ≠ .none := ⟨base_ready, by decide +kernel⟩

/-- Section 8.10: the lights SHED at level 140. -/
def shedLights : State :=
  let s := roster [(2, .shed, 140)] base
  { s with lights := { s.lights with channels := s.lights.channels.map fun c => { c with level := 140, tint := 1 } } }

/-- The hypotheses of `CappedLightsStayBelowTheShedCap`. -/
theorem witness_CappedLightsStayBelowTheShedCap :
    shedLights.lights.channels.length = 8 ∧ (shedLights.channel 4).link = none ∧ shedLights.lightEntryOf 4 = some 2 ∧
    (shedLights.live 2).grant = .shed := by decide +kernel

/-- The hypotheses of `FadesReachTheirTarget` at the first and the last of its steps. -/
theorem witness_FadesReachTheirTarget :
    ({ Channel.init with level := 255 } : Channel).level ≤ 255 ∧ 0 ≠ ({ Channel.init with level := 255 } : Channel).level ∧
    1 ≤ 12 ∧ 12 ≤ 12 := by decide

/-- A receive side at rest in HOLD. -/
def inHold : State := { base with rx := { base.rx with state := .hold } }

/-- Histories of six bits, the most that a full match is still two rounds away from. -/
def sixBits : State := { base with rx := { base.rx with hist := List.replicate 121 { count := 6, bits := 0 } } }

/-- The hypotheses of `ReceivedBitsAreSifted`. -/
theorem witness_ReceivedBitsAreSifted_round :
    (inHold.Ready ∧ inHold.rx.state = .hold) ∧
    sixBits.Ready ∧ sixBits.rx.state = .search ∧ sixBits.rx.candidate = none ∧ sixBits.rx.hist.length = 121 ∧
    ∀ h ∈ sixBits.rx.hist, h.count < 7 :=
  ⟨⟨ready_of (by decide +kernel), rfl⟩, ready_of (by decide +kernel), by decide +kernel⟩

/-- The idle command come back from position 11. -/
def idleBack : State := ready 11 (padTo 8 []) base

/-- The hypotheses of `ReceivedBitsAreSifted`: the direction of a command. -/
theorem witness_ReceivedBitsAreSifted_message :
    idleBack.phase = .running ∧ idleBack.rx.ready = [{ position := 11, bytes := padTo 8 [], bad := false, dropped := false }] ∧
    bitAt (byteAt (padTo 8 []) 0) 0 = false := by decide +kernel

/-- The message of `BatteryMessageAccepted`. -/
def batteryBytes : List Byte := statusBytes .battery 15 [0x90, 0xFF, 0xC2, 0x04, 0xF1, 0]

/-- The hypotheses of `BatteryMessageAccepted`, at the last sequence. -/
theorem witness_BatteryMessageAccepted :
    (ready 0 batteryBytes base).phase = .running ∧ (ready 0 batteryBytes base).nodes.length = 12 ∧
    (ready 0 batteryBytes base).tx.pos.length = 12 ∧ (batteryBytes.map BitVec.toNat).sum % 256 = 0 ∧
    bitAt (byteAt batteryBytes 0) 0 = true ∧ field (byteAt batteryBytes 0) 1 3 = 1 ∧ base.kindAt 0 = .battery := by decide +kernel

/-- The hypotheses of `CountedCycleEnds`, with a PRESENT and a SEEKING position. -/
theorem witness_CountedCycleEnds :
    cycleOver.phase = .running ∧ cycleOver.rx.endDue = true ∧ cycleOver.rx.ready = [] ∧ (cycleOver.node 0).presence = .present := by
  decide +kernel

/-- The hypotheses of `PresenceChanges`, at both counts. -/
theorem witness_PresenceChanges :
    (seeking 3).phase = .running ∧ ((seeking 3).node 8).presence = .seeking ∧ 3 ≤ ((seeking 3).node 8).count ∧
    (silent 6).phase = .running ∧ ((silent 6).node 0).presence = .present ∧ 6 ≤ ((silent 6).node 0).count := by decide +kernel

/-- The heater in a state, its node six cycles without a message and its entry in a grant state. -/
def heaterSilent (st : HeaterState) (g : Grant) : State :=
  let s := withNode 1 { nodeHeard (.heater 0 4) (some 3) (some 0) with count := 6 } (roster [(0, g, 128)] base)
  { s with heater := { s.heater with state := st, mode := .manual 2, demand := true, purge := some 30 } }

/-- The fridge in a state, its node six cycles without a message and its entry ON. -/
def fridgeSilent (st : FridgeState) : State :=
  let s := withNode 2 { nodeHeard (.fridge 56) (some 1) none with count := 6 } (roster [(1, .on, 150)] base)
  { s with fridge := { s.fridge with state := st, on := true, protectTimer := some 5, protectRequest := true } }

/-- R125, R138: a running heater is stopped with its purge to come, a cooling fridge is faulted and keeps its rest. -/
theorem test_owners_lost :
    after (.nodeLost 1) (heaterSilent .running .on) (fun t =>
      t.heater.state == .stopping && t.heater.purge == some 0 && (t.live 0).grant == .stopping) = true ∧
    after (.nodeLost 2) (fridgeSilent .cooling) (fun t =>
      t.fridge.cause == some .nodeLost && t.fridge.minOff == some 0 && (t.live 1).grant == .idle) = true := by decide +kernel

/-- The hypotheses of `PresenceChanges` of the heater's and the fridge's owner, state by state. -/
theorem witness_PresenceChanges_owners :
    (∀ st ∈ [HeaterState.starting, .running, .retryWait, .stopping, .requesting, .off, .lockout],
      let s := heaterSilent st .on
      s.phase = .running ∧ (s.node 1).presence = .present ∧ 6 ≤ (s.node 1).count ∧ (s.positionsOf .heater)[0]? = some 1 ∧
      s.heater.state = st ∧ s.entryOfKind .heater = some 0 ∧ (s.live 0).grant = .on) ∧
    after (.nodeLost 1) (heaterSilent .stopping .shedding) (fun t => t.heater.demand) = true ∧
    (∀ st ∈ [FridgeState.idleCold, .want, .held, .cooling, .off, .fault],
      let s := fridgeSilent st
      s.phase = .running ∧ (s.node 2).presence = .present ∧ 6 ≤ (s.node 2).count ∧ (s.positionsOf .fridge)[0]? = some 2 ∧
      s.fridgeNodeFault = false ∧ s.fridge.state = st ∧ s.entryOfKind .fridge = some 1 ∧ s.holds 1 = false ∧ (s.live 1).want = true) := by
  decide +kernel

/-- The hypotheses of `LoopWatchesReport`: five cycles out of sync; a window of 16 cycles at 24 and at 25 errors. -/
theorem witness_LoopWatchesReport :
    (fiveOut.phase = .running ∧ fiveOut.tx.failed = false ∧ 5 ≤ fiveOut.tx.outOfSync) ∧
    ((windowOf 24).phase = .running ∧ 16 ≤ (windowOf 24).tx.windowCycles ∧ (windowOf 24).tx.degraded = decide (24 < 24)) ∧
    (windowOf 25).tx.degraded ≠ decide (24 < (windowOf 25).tx.windowErrors) := by decide +kernel

/-- The hypotheses of `CountedStepsHappen`, each at its count. -/
theorem witness_CountedStepsHappen :
    ((unechoed 6).phase = .running ∧ ((unechoed 6).loopPos 0).unechoed = [{ seq := 1, cycles := 6 }] ∧
      ((unechoed 6).loopPos 0).stall = false) ∧
    blindDue.energy.blindDue = true ∧ windowRun.energy.window = some 3750 ∧ 7500 ≤ full.energy.fullCount := by decide +kernel

/-- The hypotheses of `AvailableAndAllowance`: a charge at the reserve, and a full battery of 60000 at a horizon of 30. -/
theorem witness_AvailableAndAllowance :
    (let s := { base with ret := { base.ret with charge := 12000 } }
     min s.ret.charge s.usable ≤ s.energySettings.reserve) ∧
    (let s := withEntry 0 1 (entryOf 25 [le 2 60000, le 2 12000, le 1 8, le 1 3, le 2 30]) { base with ret := { base.ret with charge := 60000 } }
     s.energySettings.capacity ≤ 60000 ∧ 30 ≤ s.energySettings.horizon ∧ s.ret.charge ≤ s.energySettings.capacity ∧
      s.energySettings.reserve = 12000) := by decide +kernel

/-- The hypothesis of `BudgetTickFigures`. -/
theorem witness_BudgetTickFigures : nightTick.Ready := ready_of (by decide +kernel)

/-- The hypotheses of `RanksGrantsAndSheds`: the lowest and the highest of three entries. -/
theorem witness_RanksGrantsAndSheds_ranks :
    [0, 1, 3].Nodup ∧ nightTick.lowest [0, 1, 3] = some 3 ∧ nightTick.highest [0, 1, 3] = some 0 := by decide +kernel

/-- The hypotheses of `RanksGrantsAndSheds`: an outlet WAITING, ON, and IDLE. -/
theorem witness_RanksGrantsAndSheds_entries :
    (nightTick.cfg 3).kind = .outlet ∧ (nightTick.live 3).grant = .on ∧ (nightTick.live 3).want = true ∧
    nightTick.holds 3 = false ∧ nightTick.queued 3 = false ∧ ((roster [(3, .waiting, 256)] base).live 3).grant = .waiting ∧
    (base.live 3).grant ≠ .waiting := by decide +kernel

/-- The hypotheses of `ChargeIsCounted`: an ordinary current, one past C and one below 0. -/
theorem witness_ChargeIsCounted :
    (let s := holdingCurrent 0 (-4480) 0
     0 ≤ (s.ret.charge : Int) + Int.tdiv (s.ret.residue + -112) 4500 ∧
      (s.ret.charge : Int) + Int.tdiv (s.ret.residue + -112) 4500 ≤ s.energySettings.capacity) ∧
    (let s := { base with ret := { base.ret with charge := 45000, residue := 4499 } }
     (s.energySettings.capacity : Int) < s.ret.charge + Int.tdiv (s.ret.residue + 1) 4500) ∧
    (let s := { base with ret := { base.ret with charge := 0, residue := -4499 } }
     (s.ret.charge : Int) + Int.tdiv (s.ret.residue + -1) 4500 < 0) := by decide +kernel

/-- The hypotheses of `VoltageLevelsTurn`, for both levels and both edges. -/
theorem witness_VoltageLevelsTurn :
    ((lowAt false 375 0).phase = .running ∧ ((lowAt false 375 0).energy.level .low).asserted = false ∧
      375 ≤ ((lowAt false 375 0).energy.level .low).assertCount ∧ (lowAt false 375 0).notices.details.length = 16) ∧
    (((lowAt true 0 375).energy.level .low).asserted = true ∧ 375 ≤ ((lowAt true 0 375).energy.level .low).clearCount) ∧
    (375 ≤ ((cutoffAt false 375 0).energy.level .cutoff).assertCount ∧ ((cutoffAt false 375 0).energy.level .cutoff).asserted = false) ∧
    ((cutoffAt true 0 375).energy.level .cutoff).asserted = true ∧ 375 ≤ ((cutoffAt true 0 375).energy.level .cutoff).clearCount := by
  decide +kernel

/-- The heater waiting for the slot that the fridge holds. -/
def heaterQueued : State :=
  let s := roster [(0, .on, 128), (1, .on, 150)] base
  { s with
    heater := { s.heater with state := .requesting, mode := .manual 2, demand := true }
    roster := { s.roster with holder := some { entry := 1, limit := 5, elapsed := 5 }, queue := [{ entry := 0, asked := 1 }], asks := 2 } }

/-- The hypotheses of `SurgeLimitFreesTheSlot`: an empty queue, and the heater at the head of it. -/
theorem witness_SurgeLimitFreesTheSlot :
    (surging.Settled ∧ surging.roster.holder = some { entry := 1, limit := 5, elapsed := 2 } ∧ surging.roster.queue = []) ∧
    heaterQueued.Settled ∧ heaterQueued.roster.holder = some { entry := 1, limit := 5, elapsed := 5 } ∧
    heaterQueued.roster.queue = [{ entry := 0, asked := 1 }] ∧ (heaterQueued.cfg 0).kind = .heater ∧
    heaterQueued.heater.state = .requesting :=
  ⟨⟨settled_of (by decide +kernel), by decide +kernel⟩, settled_of (by decide +kernel), by decide +kernel⟩

/-- A start in progress after `n` failed ones. -/
def starting (n : Nat) : State := { twoStarts with ret := { twoStarts.ret with failedStarts := n } }

/-- The hypotheses of `IgnitionTimeoutFailsTheStart`, before the third failure and at it. -/
theorem witness_IgnitionTimeoutFailsTheStart :
    ((starting 1).Settled ∧ (starting 1).heater.state = .starting ∧ (starting 1).heater.ignition = some 70 ∧
      (starting 1).ret.failedStarts < 2 ∧ (starting 1).heaterIdle = false) ∧
    (starting 2).Settled ∧ 2 ≤ (starting 2).ret.failedStarts :=
  ⟨⟨settled_of (by decide +kernel), by decide +kernel⟩, settled_of (by decide +kernel), by decide +kernel⟩

/-- The hypotheses of `HeaterTimersAndLimits`, clause by clause. -/
theorem witness_HeaterTimersAndLimits :
    (purging.Settled ∧ purging.heater.purge = some 240 ∧ purging.heaterRun = false ∧ purging.notices.details.length = 16 ∧
      purging.heaterPresent = true) ∧
    (holding.Settled ∧ holding.heater.levelHold = some 60 ∧ holding.heaterRun = true ∧ holding.chosenLevel = some 2 ∧
      2 ≠ holding.heater.level) ∧
    (manualOver.phase = .running ∧ manualOver.heater.manualDue = true) ∧
    windowOver.phase = .running ∧ windowOver.heater.windowDue = true ∧ ∀ w ∈ windowOver.ret.queue, windowOver.ret.clock < w.due :=
  ⟨⟨settled_of (by decide +kernel), by decide +kernel⟩, ⟨settled_of (by decide +kernel), by decide +kernel⟩, by decide +kernel,
    by decide +kernel⟩

/-- The hypotheses of `FridgeTimersExpire`, clause by clause. -/
theorem witness_FridgeTimersExpire :
    ((cooling 30).Settled ∧ (cooling 30).fridge.minOn = some 60 ∧ (cooling 30).fridge.state = .cooling ∧
      (cooling 30).cabinet.any (fun r => decide (r ≤ (cooling 30).fridgeEffective)) = true) ∧
    ((cooling 31).Settled ∧ (cooling 31).cabinet.any (fun r => decide (r ≤ (cooling 31).fridgeEffective)) = false) ∧
    ((waitingOff none).Settled ∧ (waitingOff none).fridge.minOff = some 180 ∧ (waitingOff none).fridge.state = .held ∧
      (waitingOff none).entryOfKind .fridge = some 1 ∧ ((waitingOff none).live 1).grant = .on ∧ (waitingOff none).fridgeReady = true ∧
      (waitingOff none).cabinet.any (fun r => decide (r ≤ (waitingOff none).fridgeEffective)) = false ∧
      (waitingOff none).roster.holder = none ∧ (waitingOff none).roster.queue = []) ∧
    (surging.Settled ∧ surging.fridge.surgeHold = some 2 ∧ surging.entryOfKind .fridge = some 1 ∧ surging.roster.queue = []) ∧
    protecting.Settled ∧ protecting.fridge.protectTimer = some 599 ∧ 599 < 600 ∧ protecting.fridge.protectRequest = false ∧
    protecting.notices.details.length = 16 :=
  ⟨⟨settled_of (by decide +kernel), by decide +kernel⟩, ⟨settled_of (by decide +kernel), by decide +kernel⟩,
    ⟨settled_of (by decide +kernel), by decide +kernel⟩, ⟨settled_of (by decide +kernel), by decide +kernel⟩,
    settled_of (by decide +kernel), by decide +kernel⟩

/-- A rest open with DRIVER_ACTIVITY at a quality. -/
def resting (q : Quality) : State :=
  { base with
    signals := base.signals.set 0 { value := 0, quality := q, age := 0, changed := false }
    ret := { base.ret with rest := { base.ret.rest with state := .resting, accumulated := 78 } } }

/-- The hypotheses of `RestMinutesNeverFall`, at a minute tick of an open rest. -/
theorem witness_RestMinutesNeverFall :
    (resting .fresh).restOpen = true ∧ (resting .fresh).restRec.accumulated ≤ 65535 ∧
    after .minuteTick (resting .fresh) (fun t => t.restOpen) = true := by decide +kernel

/-- The hypotheses of `MinuteTickCounts`: a rest open and FRESH, open and STALE, and none. -/
theorem witness_MinuteTickCounts :
    ((resting .fresh).Settled ∧ (resting .fresh).restOpen = true) ∧ ((resting .stale).Settled ∧ ((resting .stale).signal 0).quality ≠ .fresh) ∧
    base.Settled ∧ base.restOpen = false :=
  ⟨⟨settled_of (by decide +kernel), by decide⟩, ⟨settled_of (by decide +kernel), by decide +kernel⟩, base_ready.1, by decide⟩

/-- The hypotheses of `WarningsAndNoticesRepeat`: below the repeat count and at it; nothing sendable and a class sendable. -/
theorem witness_WarningsAndNoticesRepeat :
    ((announced 3).Settled ∧ (announced 3).rest.repeatTimer = some 60 ∧ 3 < (announced 3).lightSettings.repeatCount) ∧
    ((announced 4).Settled ∧ (announced 4).lightSettings.repeatCount ≤ 4 ∧ ∀ w ∈ (announced 4).ret.queue, (announced 4).ret.clock < w.due) ∧
    ((inPower .quiet (reporting base)).Settled ∧ (inPower .quiet (reporting base)).sendable = 0) ∧
    (reporting base).Settled ∧ (reporting base).notices.repeatTimer = some 1 ∧ (reporting base).sendable ≠ 0 ∧
    (reporting base).notices.waiting = none ∧ (reporting base).bus.queued < 8 :=
  ⟨⟨settled_of (by decide +kernel), by decide +kernel⟩, ⟨settled_of (by decide +kernel), by decide +kernel⟩,
    ⟨settled_of (by decide +kernel), by decide +kernel⟩, settled_of (by decide +kernel), by decide +kernel⟩

/-- The hypotheses of `ThePartFallsAsleep`: the quiet timer in RUN; the standby conditions holding and, with the heater on, not. -/
theorem witness_ThePartFallsAsleep :
    (quietDue.Settled ∧ quietDue.power.quietTimer = some 10) ∧ (sleepy.Settled ∧ sleepy.mayStandBy = true) ∧
    (inPower .quiet holding).Settled ∧ (inPower .quiet holding).mayStandBy = false :=
  ⟨⟨settled_of (by decide +kernel), rfl⟩, ⟨settled_of (by decide +kernel), by decide +kernel⟩, settled_of (by decide +kernel),
    by decide +kernel⟩

/-- The hypotheses of `ThePartWakes`: STANDBY with an edge that matches, and the part awake. -/
theorem witness_ThePartWakes :
    (inPower .standby base).Settled ∧ (inPower .standby base).edgeMatches .rising = true ∧
    (inPower .standby base).power.state = .standby ∧ base.power.state ≠ .standby :=
  ⟨settled_of (by decide +kernel), by decide +kernel⟩

/-! ### Witnesses of the clauses of many cases -/

/-- A bound that a timer's present count keeps. -/
theorem below {k limit : Nat} (h : k + 1 < limit) : ∀ n, some k = some n → n + 1 < limit := fun _ e => Option.some.inj e ▸ h

/-- A timer that is stopped keeps every bound. -/
theorem below_none {p : Nat → Prop} : ∀ n, (none : Option Nat) = some n → p n := fun _ e => by cases e

/-- Every second timer but the notices' two counts short of its limit. -/
def ticking : State :=
  { base with
    roster := { base.roster with holder := some { entry := 0, limit := 90, elapsed := 88 } }
    heater := { base.heater with ignition := some 148, purge := some 238, levelHold := some 58 }
    fridge := { base.fridge with surgeHold := some 0, minOn := some 58, minOff := some 178, protectTimer := some 598 }
    rest := { base.rest with repeatTimer := some 58, repeatLimit := 60 }
    power := { base.power with quietTimer := some 8 } }

/-- The hypotheses of `RefusalsAndIdling` on a second in which nothing expires. -/
theorem witness_RefusalsAndIdling_second :
    ticking.pending = [] ∧ ticking.Settled ∧ ticking.SecondsLeft ∧ ticking.bus.busOff = false ∧ ticking.setup.restart = none ∧
    (∀ n, ticking.power.quietTimer = some n → n + 1 < 10) ∧ ∀ n, ticking.power.standbyTimer = some n → n + 1 < 60 := by
  refine ⟨rfl, settled_of (by decide +kernel), ⟨?_, below (by decide), below (by decide), below (by decide), below (by decide),
    below (by decide), below (by decide), ?_, below (by decide), rfl⟩, rfl, rfl, below (by decide), below_none⟩
  · rintro _ ⟨⟩
    decide
  · rintro _ ⟨⟩
    decide

/-- A running part whose quiet timer, or standby timer, has one second left. -/
def oneSecond (p : PowerState) : State :=
  { base with power := { base.power with
      state := p, quietTimer := if p = .run then some 9 else none, standbyTimer := if p = .quiet then some 59 else none } }

/-- Timers that do not run are not one second from their limits. -/
theorem secondsLeft_of_stopped {s : State} (h : s.roster = Roster.init ∧ s.heater = Heater.init ∧ s.fridge = Fridge.init ∧
    s.rest = Rest.init ∧ s.notices = Notices.init) : s.SecondsLeft := by
  obtain ⟨h1, h2, h3, h4, h5⟩ := h
  constructor <;> simp [h1, h2, h3, h4, h5, Roster.init, Heater.init, Fridge.init, Rest.init, Notices.init]

/-- The hypotheses of `RefusalsAndIdling` on the last second of RUN and of QUIET, in bus-off, and with a restart arranged. -/
theorem witness_RefusalsAndIdling_turns :
    ((oneSecond .run).Settled ∧ (oneSecond .run).SecondsLeft ∧ (oneSecond .run).power.state = .run ∧
      (oneSecond .run).power.quietTimer = some 9) ∧
    ((oneSecond .quiet).Settled ∧ (oneSecond .quiet).SecondsLeft ∧ (oneSecond .quiet).mayStandBy = true ∧
      (oneSecond .quiet).power.standbyTimer = some 59) ∧
    (offBus.Settled ∧ offBus.bus.busOff = true ∧ offBus.setup.restart = none) ∧
    (let s := { base with setup := { base.setup with restart := some { cause := .restart, answerLeft := false } } }
     s.Settled ∧ s.setup.restart = some { cause := .restart, answerLeft := false }) :=
  ⟨⟨settled_of (by decide +kernel), secondsLeft_of_stopped (by decide +kernel), rfl, rfl⟩,
    ⟨settled_of (by decide +kernel), secondsLeft_of_stopped (by decide +kernel), by decide +kernel, rfl⟩,
    ⟨settled_of (by decide +kernel), rfl, rfl⟩, settled_of (by decide +kernel), rfl⟩

/-- An ingress entry for one frame: flags (valid, kind, signed, FIELD), target, width, action and constant. -/
def actEntry (flags target width action : Nat) (constant : Int) : Entry :=
  entryOf 25 [le 1 flags, le 4 0x1C4D2060, le 4 0x1FFFFFFF, le 1 target, le 1 0, le 1 width, le 2 1, le 2 1, leS 4 0, le 1 action,
    leS 4 constant]

/-- The part with such an entry and its frame. -/
def acting (flags target width action : Nat) (constant : Int) (d : List Nat) : State :=
  received [rx 0x1C4D2060#29 d] (withEntry 1 0 (actEntry flags target width action constant) base)

/-- The hypotheses of `IngressTakesTheHead` of the entries that start actions: STORE_ACTION into signal 8, ACTION with its constant and
with its field, and STORE_ACTION into a held signal 0. -/
theorem witness_IngressTakesTheHead_actions :
    (let s := acting 0x15 8 8 2 0 [200]
     s.Ready ∧ s.claimant (rx 0x1C4D2060#29 [200]) = some (ingressOf (actEntry 0x15 8 8 2 0)) ∧
      (ingressOf (actEntry 0x15 8 8 2 0)).kind = 2 ∧ 8 ≤ (ingressOf (actEntry 0x15 8 8 2 0)).target ∧
      (ingressOf (actEntry 0x15 8 8 2 0)).raw (bytes [200]) = some 200 ∧ (ingressOf (actEntry 0x15 8 8 2 0)).available 200 = true) ∧
    (let s := acting 3 0 8 11 0 []
     s.Ready ∧ s.claimant (rx 0x1C4D2060#29 []) = some (ingressOf (actEntry 3 0 8 11 0)) ∧
      (ingressOf (actEntry 3 0 8 11 0)).kind = 1 ∧ (ingressOf (actEntry 3 0 8 11 0)).fromField = false) ∧
    (let s := acting 0x13 0 8 2 0 [200]
     s.Ready ∧ s.claimant (rx 0x1C4D2060#29 [200]) = some (ingressOf (actEntry 0x13 0 8 2 0)) ∧
      (ingressOf (actEntry 0x13 0 8 2 0)).kind = 1 ∧ (ingressOf (actEntry 0x13 0 8 2 0)).fromField = true ∧
      (ingressOf (actEntry 0x13 0 8 2 0)).raw (bytes [200]) = some 200 ∧ (ingressOf (actEntry 0x13 0 8 2 0)).available 200 = true) ∧
    (let s := acting 5 0 8 11 0 [4]
     s.Ready ∧ s.claimant (rx 0x1C4D2060#29 [4]) = some (ingressOf (actEntry 5 0 8 11 0)) ∧
      (ingressOf (actEntry 5 0 8 11 0)).kind = 2 ∧ (s.signalDef 0).hi < (ingressOf (actEntry 5 0 8 11 0)).scale 4) :=
  ⟨⟨ready_of (by decide +kernel), by decide +kernel⟩, ⟨ready_of (by decide +kernel), by decide +kernel⟩,
    ⟨ready_of (by decide +kernel), by decide +kernel⟩, ready_of (by decide +kernel), by decide +kernel⟩

/-- A rest open with provisional minutes. -/
def openRest (provisional : Nat) (s : State) : State :=
  { s with ret := { s.ret with rest := { s.ret.rest with state := .resting, accumulated := 78, provisional := provisional } } }

/-- The hypotheses of `DriverActivityIsHeld`: REST with no rest open, REST into an open one, DRIVE into an open one. -/
theorem witness_DriverActivityIsHeld_rest :
    ((oneFrame 0x1C4D2040#29 [0]).Ready ∧ (oneFrame 0x1C4D2040#29 [0]).restOpen = false ∧
      (ingressOf activityEntry).scale 0 = 0 ∧ (oneFrame 0x1C4D2040#29 [0]).signals ≠ []) ∧
    ((openRest 3 (oneFrame 0x1C4D2040#29 [0])).Ready ∧ (openRest 3 (oneFrame 0x1C4D2040#29 [0])).restOpen = true ∧
      0 < (openRest 3 (oneFrame 0x1C4D2040#29 [0])).restRec.provisional) ∧
    (openRest 0 (oneFrame 0x1C4D2040#29 [3])).Ready ∧ (openRest 0 (oneFrame 0x1C4D2040#29 [3])).restOpen = true ∧
    (ingressOf activityEntry).scale 3 ≠ 0 :=
  ⟨⟨ready_of (by decide +kernel), by decide +kernel⟩, ⟨ready_of (by decide +kernel), by decide +kernel⟩, ready_of (by decide +kernel),
    by decide +kernel⟩

/-- The hypotheses of `DriverActivityIsHeld` of signals 1 to 7: the lowest and the highest of them, TIME_OF_DAY beside a FRESH DATE_DAY,
and IGNITION at 1 with WAKE active. -/
theorem witness_DriverActivityIsHeld_signals :
    (∀ n ∈ [1, 2, 3, 4, 5, 6, 7], let s := fresh 3 1 (acting 1 n 8 0 0 [1])
      (s.bus.rxQueue = [rx 0x1C4D2060#29 [1]] ∧ s.isSetupFrame (rx 0x1C4D2060#29 [1]) = false ∧
        s.claimant (rx 0x1C4D2060#29 [1]) = some (ingressOf (actEntry 1 n 8 0 0)) ∧
        (ingressOf (actEntry 1 n 8 0 0)).kind = 0 ∧ (ingressOf (actEntry 1 n 8 0 0)).target = n ∧ s.signals.length = 32 ∧
        (ingressOf (actEntry 1 n 8 0 0)).raw (bytes [1]) = some 1 ∧ (ingressOf (actEntry 1 n 8 0 0)).available 1 = true) ∧
      s.Ready) ∧
    (let s := { acting 1 5 8 0 0 [1] with
      ret := { base.ret with active := some { kind := .wake, index := 0, figure := 0, entryFigure := 0, repeats := 0 } } }
     s.Ready ∧ (∀ x ∈ s.ret.queue, s.ret.clock < x.due) ∧ (s.ret.active.map (·.kind)) = some .wake) := by
  have h : ∀ n ∈ [1, 2, 3, 4, 5, 6, 7], let s := fresh 3 1 (acting 1 n 8 0 0 [1])
      (s.bus.rxQueue = [rx 0x1C4D2060#29 [1]] ∧ s.isSetupFrame (rx 0x1C4D2060#29 [1]) = false ∧
        s.claimant (rx 0x1C4D2060#29 [1]) = some (ingressOf (actEntry 1 n 8 0 0)) ∧
        (ingressOf (actEntry 1 n 8 0 0)).kind = 0 ∧ (ingressOf (actEntry 1 n 8 0 0)).target = n ∧ s.signals.length = 32 ∧
        (ingressOf (actEntry 1 n 8 0 0)).raw (bytes [1]) = some 1 ∧ (ingressOf (actEntry 1 n 8 0 0)).available 1 = true) ∧
      (s.phase = .running ∧ settle s = s) ∧ s.power.state ≠ .standby := by decide +kernel
  exact ⟨fun n m => ⟨(h n m).1, ready_of (h n m).2⟩, ready_of (by decide +kernel), by decide +kernel⟩

/-- The hypotheses of `DriverActivityIsHeld` of the leads: one set and not served, and one served. -/
theorem witness_DriverActivityIsHeld_leads :
    (driving.freshSignal 1 = some 31 ∧ driving.drive = true ∧ driving.ret.queue.length ≤ 6 ∧ driving.profile.breaks.getD 1 0 ≠ 0 ∧
      driving.rest.breakServed.getD 1 false = false) ∧
    (let s := { driving with rest := { driving.rest with breakServed := [true, false] } }
     s.freshSignal 1 = some 31 ∧ s.drive = true ∧ s.ret.queue.length ≤ 6 ∧ s.rest.breakServed.getD 0 false = true) := by
  decide +kernel

/-- An on-change egress entry alone in the table, its last payload given. -/
def onChange (d : Option (List Byte)) : State :=
  let s := withEntry 2 15 (entryOf 20 [le 1 1, le 4 0x1C4D2300, le 2 0, bytes [3, 0, 0 + 8 * 1]]) base
  { s with egress := { s.egress with lastQueued := s.egress.lastQueued.set 15 d } }

/-- The hypotheses of `EgressPassesAndSends` of the last entry on change, its payload equal to the one last queued, another, and another
at a full queue; and of a composed frame of three items. -/
theorem witness_EgressPassesAndSends_change :
    (∀ d ∈ [some (bytes [50]), none], ((onChange d).egressEntry 15).valid = true ∧ ((onChange d).egressEntry 15).period = 0 ∧
      (∀ j < 16, j ≠ 15 → ((onChange d).egressEntry j).valid = false) ∧
      ((onChange d).egress.lastQueued.getD 15 none = some ((onChange d).egressFrame ((onChange d).egressEntry 15)).data ↔
        d = some (bytes [50]))) ∧
    ((onChange none).Ready ∧ (onChange none).power.state = .run ∧ (onChange none).bus.queued < 8) ∧
    ((onChange (some (bytes [50]))).Ready) ∧
    (let s := sending (some .priority) (List.replicate 8 (tx 9#29)) [] (onChange none)
     s.Ready ∧ 8 ≤ s.bus.queued) ∧
    disjointItems ((sender 0).egressEntry 2).items = true ∧ ((sender 0).egressEntry 2).items.length = 3 :=
  ⟨by decide +kernel, ⟨ready_of (by decide +kernel), by decide +kernel⟩, ready_of (by decide +kernel),
    ⟨ready_of (by decide +kernel), by decide +kernel⟩, by decide +kernel⟩

/-- The last entry that stands: the pass ends at its expiry. -/
theorem witness_EgressPassesAndSends_ends :
    base.egress.passAt = none ∧ base.egress.countdown.length = 16 ∧
    (let s := { sender 0 with egress := { (sender 0).egress with passAt := some 15 } }
     s.phase = .running ∧ s.egress.passAt = some 15 ∧ 15 < 16 ∧ s.egress.countdown.length = 16) := by decide +kernel

/-- ID asked of a part whose transmit queue is full. -/
def crowdedId (c : Option TxClass) (ps es : List TxFrame) : State := sending c ps es (asked [1, 7] base)

/-- The hypotheses of `WaitingFramesJoin` of a full queue: no egress frame; one egress frame, being sent; one waiting behind the priority
frame that is being sent; two, the older being sent; and bus-off. -/
theorem witness_WaitingFramesJoin_full :
    ((crowdedId (some .priority) (List.replicate 8 (tx 9#29)) []).Ready ∧
      8 ≤ (crowdedId (some .priority) (List.replicate 8 (tx 9#29)) []).bus.queued) ∧
    ((crowdedId (some .egress) (List.replicate 7 (tx 9#29)) [tx 1#29]).Ready ∧
      (crowdedId (some .egress) (List.replicate 7 (tx 9#29)) [tx 1#29]).bus.egressQueue.length = 1) ∧
    (let s := crowdedId (some .priority) (List.replicate 7 (tx 9#29)) [tx 1#29]
     s.Ready ∧ s.setup.waiting = none ∧ 8 ≤ s.bus.queued ∧ s.bus.sending ≠ some .egress ∧ s.bus.egressQueue = tx 1#29 :: [] ∧
      s.bus.rxQueue = [{ ident := 0x1C6A0100#29, data := bytes [1, 7] }] ∧ (0x1C6A0100#29).toNat = s.requestIdent) ∧
    (let b := (sending (some .egress) (List.replicate 6 (tx 9#29)) [tx 1#29, tx 2#29] base).bus
     8 ≤ b.queued ∧ b.sending = some .egress ∧ b.egressQueue = tx 1#29 :: tx 2#29 :: []) ∧ offBus.bus.busOff = true :=
  ⟨⟨ready_of (by decide +kernel), by decide +kernel⟩, ⟨ready_of (by decide +kernel), by decide +kernel⟩,
    ⟨ready_of (by decide +kernel), by decide +kernel⟩, by decide +kernel⟩
/-- The parts of an entry of a table. -/
def partsOf (t : Nat) (e : Entry) : List (List Byte) := (List.range (tableParts t)).map fun k => padTo 5 ((e.drop (5 * k)).take 5)

/-- The request that brings the last part of an entry. -/
def lastRequest (t : Nat) (e : Entry) : List Nat := [3, 9, tableParts t - 1] ++ ((partsOf t e).getD (tableParts t - 1) []).map BitVec.toNat

/-- The last part of an entry asked for, the earlier ones staged. -/
def committing (t i : Nat) (e : Entry) (s : State) : State := asked (lastRequest t e) (staged t i (partsOf t e).dropLast s)

/-- Entries that may be committed: each table, at the first or the last of its entries, and the four settings; the roster's fridge entry with
another priority, and its last entry made a valid OUTLET entry in place of entry 6. -/
def commitCases : List (Nat × Nat × Entry × State) :=
  [(0, 0, entryOf 25 [le 4 0x1C6A0300, le 4 0x1C6A0400, le 1 1, le 1 3, le 2 0xFFFF, le 2 3, le 1 3], base),
   (0, 1, entryOf 25 [le 2 20000, le 2 12000, le 1 8, le 1 3, le 2 600, le 1 10, le 1 5, le 1 2, le 2 1380, le 1 30], base),
   (0, 2, entryOf 25 [le 1 5, le 2 50, le 2 200, le 1 120, le 1 0, leS 2 100, le 1 20, le 1 20, le 1 80], base),
   (0, 3, defaultLightsEntry, base), (1, 47, tempEntry, base), (2, 15, statusFrame, base), (3, 31, signalDefEntry 0 1 600, base),
   (4, 11, nodeEntry 1 0, withEntry 4 0 (nodeEntry 0 0) base), (4, 1, nodeEntry 0 0, base),
   (5, 1, rosterEntry 1 0 9 45 120 5, base), (5, 15, rosterEntry 3 3 3 60 0 1, withEntry 5 6 emptyRosterEntry base),
   (6, 15, tintEntry 0 0 63, base), (7, 63, base.tables.entry 7 63, base), (8, 15, keyEntry 11 0, base),
   (9, 0, profileEntry 540 false, openRest 0 base), (9, 3, profileEntry 660 true, base), (10, 7, [byte 100], base),
   (11, 7, restVoltageEntry 1280 100, base), (12, 3, [byte 60, byte 0], base)]

/-- The hypotheses of `WrpStagesAndCommits` of a commit, in every table. -/
theorem witness_WrpStagesAndCommits_tables : ∀ x ∈ commitCases,
    let s := committing x.1 x.2.1 x.2.2.1 x.2.2.2
    let d := bytes (lastRequest x.1 x.2.2.1)
    s.Asked d ∧ byteAt d 0 = 0x03 ∧ d.length = 8 ∧ s.setup.cursor = some { table := x.1, index := x.2.1, auto := true } ∧
      s.storeBusy = false ∧ byteAt d 2 + 1 = tableParts x.1 ∧ (partsOf x.1 x.2.2.1).dropLast.length = byteAt d 2 ∧
      s.setup.staging = some { table := x.1, index := x.2.1, parts := (partsOf x.1 x.2.2.1).dropLast } ∧ s.setup.lock = false ∧
      x.2.1 < (s.tables.get x.1).length ∧
      s.checkEntry x.1 x.2.1 (normalEntry x.1 x.2.1 ((partsOf x.1 x.2.2.1).dropLast ++ [(d.drop 3).take 5]).flatten) = true := by
  have h : ∀ x ∈ commitCases,
      let s := committing x.1 x.2.1 x.2.2.1 x.2.2.2
      let d := bytes (lastRequest x.1 x.2.2.1)
      (s.bus.rxQueue = [{ ident := 0x1C6A0100#29, data := bytes (lastRequest x.1 x.2.2.1) }] ∧
        s.requestIdent = 0x1C6A0100 ∧ ((s.phase = .running ∧ settle s = s) ∧ s.power.state ≠ .standby) ∧
        2 ≤ (lastRequest x.1 x.2.2.1).length ∧ s.setup.waiting = none ∧ s.bus.queued < 8) ∧
      byteAt d 0 = 0x03 ∧ d.length = 8 ∧ s.setup.cursor = some { table := x.1, index := x.2.1, auto := true } ∧
        s.storeBusy = false ∧ byteAt d 2 + 1 = tableParts x.1 ∧ (partsOf x.1 x.2.2.1).dropLast.length = byteAt d 2 ∧
        s.setup.staging = some { table := x.1, index := x.2.1, parts := (partsOf x.1 x.2.2.1).dropLast } ∧ s.setup.lock = false ∧
        x.2.1 < (s.tables.get x.1).length ∧
        s.checkEntry x.1 x.2.1 (normalEntry x.1 x.2.1 ((partsOf x.1 x.2.2.1).dropLast ++ [(d.drop 3).take 5]).flatten) = true := by
    decide +kernel
  exact fun x m => ⟨asked_of (h x m).1, (h x m).2⟩

/-- The inner hypotheses of `WrpStagesAndCommits`: an entry that keeps its kind and binding, one made valid, and no warning due. -/
theorem witness_WrpStagesAndCommits_roster :
    rebinds (base.cfg 1) (rosterCfgOf (rosterEntry 1 0 9 45 120 5)) = false ∧
    rebinds (base.cfg 15) (rosterCfgOf (rosterEntry 3 3 3 60 0 1)) = true ∧ 15 < base.roster.live.length ∧
    (openRest 0 base).restOpen = true ∧ (openRest 0 base).ret.profile = 0 ∧
    ∀ w ∈ (formPreheat base).ret.queue, base.ret.clock < w.due := by decide +kernel

/-- The hypotheses of `WrpStagesAndCommits` of refused parts: no cursor, the store busy, a part past the last, part 0 of what the lock
covers, part 2 with one part staged, and part 3 after parts 0 to 2. -/
theorem witness_WrpStagesAndCommits_parts :
    ((asked [3, 2, 0, 0, 0, 0, 0, 0] base).Asked (bytes [3, 2, 0, 0, 0, 0, 0, 0]) ∧
      (asked [3, 2, 0, 0, 0, 0, 0, 0] base).setup.cursor = none) ∧
    ((asked [3, 2, 0, 0, 0, 0, 0, 0] (atCursor 1 4 locking)).Asked (bytes [3, 2, 0, 0, 0, 0, 0, 0]) ∧
      (asked [3, 2, 0, 0, 0, 0, 0, 0] (atCursor 1 4 locking)).storeBusy = true) ∧
    ((asked [3, 2, 5, 0, 0, 0, 0, 0] (atCursor 1 4 base)).Asked (bytes [3, 2, 5, 0, 0, 0, 0, 0]) ∧ tableParts 1 ≤ 5) ∧
    ((asked [3, 2, 0, 0, 0, 0, 0, 0] (atCursor 1 4 lockedPart)).Asked (bytes [3, 2, 0, 0, 0, 0, 0, 0]) ∧ lockCovers 1 4 = true) ∧
    (asked [3, 2, 2, 0, 0, 0, 0, 0] (staged 1 4 [bytes [0, 0, 0, 0, 0]] base)).Asked (bytes [3, 2, 2, 0, 0, 0, 0, 0]) ∧
    ((asked [3, 2, 3, 0, 0, 0, 0, 0] (staged 1 4 (List.replicate 3 (bytes [0, 0, 0, 0, 0])) base)).Asked
      (bytes [3, 2, 3, 0, 0, 0, 0, 0]) ∧ 3 + 1 < tableParts 1) :=
  ⟨⟨asked_of (by decide +kernel), rfl⟩, ⟨asked_of (by decide +kernel), by decide +kernel⟩, ⟨asked_of (by decide +kernel), by decide⟩,
    ⟨asked_of (by decide +kernel), by decide⟩, asked_of (by decide +kernel), asked_of (by decide +kernel), by decide⟩

/-- An action asked for: its code and the four bytes of its argument. -/
def actData (x : Nat × Int) : List Nat := [9, 1, x.1] ++ (leS 4 x.2).map BitVec.toNat

/-- An argument of each action that is taken, with what the check makes of it. -/
def takenCases : List (Nat × Int × Option Int) :=
  [(1, 0, some 0), (1, 5, some 5), (2, 350, some 300), (3, -260, some (-250)), (4, 0, none), (5, 1, some 1), (6, -51, some (-50)),
   (7, 7, some 7), (8, 0, none), (9, -256, some (-255)), (10, 31, some 31), (11, 0, none), (12, 3, some 3), (13, 0, some 0),
   (13, 1441, some 1440)]

/-- The hypotheses of `ActDispatches` of an action that is taken, for each of the thirteen codes. -/
theorem witness_ActDispatches_taken : ∀ x ∈ takenCases,
    let s := asked (actData (x.1, x.2.1)) base
    let d := bytes (actData (x.1, x.2.1))
    s.Asked d ∧ byteAt d 0 = 0x09 ∧ 7 ≤ d.length ∧ byteAt d 2 = x.1 ∧ leSAt d 3 4 = x.2.1 ∧ 1 ≤ x.1 ∧ x.1 ≤ 13 ∧
      s.checkAction x.1 x.2.1 = .take x.2.2 := by
  have h : ∀ x ∈ takenCases,
      let s := asked (actData (x.1, x.2.1)) base
      let d := bytes (actData (x.1, x.2.1))
      (s.bus.rxQueue = [{ ident := 0x1C6A0100#29, data := bytes (actData (x.1, x.2.1)) }] ∧
        s.requestIdent = 0x1C6A0100 ∧ ((s.phase = .running ∧ settle s = s) ∧ s.power.state ≠ .standby) ∧
        2 ≤ (actData (x.1, x.2.1)).length ∧ s.setup.waiting = none ∧ s.bus.queued < 8) ∧
      byteAt d 0 = 0x09 ∧ 7 ≤ d.length ∧ byteAt d 2 = x.1 ∧ leSAt d 3 4 = x.2.1 ∧ 1 ≤ x.1 ∧ x.1 ≤ 13 ∧
        s.checkAction x.1 x.2.1 = .take x.2.2 := by decide +kernel
  exact fun x m => ⟨asked_of (h x m).1, (h x m).2⟩

/-- The part in LOCKOUT. -/
def lockedOut : State :=
  { base with heater := { base.heater with state := .lockout }, ret := { base.ret with failedStarts := 3, lockout := true } }

/-- The inner hypotheses of `ActDispatches`: LOCKOUT and not; eight channels; an outlet with a valid entry; nothing queued that is due;
a rest open. -/
theorem witness_ActDispatches_owners :
    ((asked [9, 1, 4, 0, 0, 0, 0] lockedOut).Asked (bytes [9, 1, 4, 0, 0, 0, 0]) ∧
      (asked [9, 1, 4, 0, 0, 0, 0] lockedOut).heater.state = .lockout) ∧
    base.heater.state ≠ .lockout ∧ base.lights.channels.length = 8 ∧
    (base.outletEntry 3 = some 6 ∧ 6 < base.roster.live.length ∧ 3 < base.roster.outlets.length) ∧
    (∀ w ∈ base.ret.queue, base.ret.clock < w.due) ∧
    ((asked [9, 1, 12, 3, 0, 0, 0] (openRest 0 base)).Asked (bytes [9, 1, 12, 3, 0, 0, 0]) ∧
      (asked [9, 1, 12, 3, 0, 0, 0] (openRest 0 base)).restOpen = true) :=
  ⟨⟨asked_of (by decide +kernel), rfl⟩, by decide, rfl, by decide +kernel, by decide +kernel, asked_of (by decide +kernel), rfl⟩

/-- The hypotheses of `ActDispatches` of a panel: a key with an action and one with NONE; a module not PRESENT; a first message, one
without a press, and one with presses of one key, at the wrap of its counter. -/
theorem witness_ActDispatches_panel :
    (base.keyAction 0 = (3, 5) ∧ ∃ i < 16, (base.keyAction i).1 = 0 ∨ i = 15) ∧
    (base.node 7).presence ≠ .present ∧
    (let s := withNode 7 (nodeHeard (.panel [3, 0, 15, 7, 0, 0, 2, 0] 140) none none) base
     (s.node 7).presence = .present ∧ (s.node 7).counters = some [3, 0, 15, 7, 0, 0, 2, 0] ∧ s.panelNumber 7 = 0 ∧ s.baseline 0 = none) ∧
    (fourPresses.baseline 0 = some [3, 0, 15, 7, 0, 0, 2, 0] ∧
      ∀ k < 8, presses [3, 0, 15, 7, 0, 0, 2, 0] [3, 0, 15, 7, 0, 0, 2, 0] k = 0) ∧
    (presses [3, 0, 15, 7, 0, 0, 2, 0] [3, 0, 1, 7, 0, 0, 2, 0] 2 = 2 ∧
      ∀ j < 8, j ≠ 2 → presses [3, 0, 15, 7, 0, 0, 2, 0] [3, 0, 1, 7, 0, 0, 2, 0] j = 0) := by decide +kernel

/-- A history of the first seven marker bits. -/
def sevenMarkers : Hist := (List.range 7).foldl (fun h k => h.push (marker k)) Hist.init

/-- A receive side in a state with a candidate, position `i` one bit short of a match. -/
def sifting (st : RxState) (c : Option Candidate) (i n : Nat) : State :=
  { base with rx := { base.rx with state := st, candidate := c, confirmed := n, hist := base.rx.hist.set i sevenMarkers } }

/-- The part with MIMIC_STRICT. -/
def strictly (s : State) : State :=
  withEntry 0 0 (entryOf 25 [le 4 0x1C6A0100, le 4 0x1C6A0200, le 1 1, le 1 3, le 2 0xFFFF, le 2 3, le 1 3]) s

/-- A candidate at position 14. -/
def at14 : Candidate := { position := 14, round := 7, phase := 7 }

/-- The histories of a state after a bit at a position. -/
def heard (s : State) (i : Nat) (b : Bool) : LoopRx := { s.rx with hist := s.rx.hist.modify i (Hist.push b) }

/-- The hypotheses of `ReceivedBitsAreSifted` in SEARCH and CONFIRM: a match at 119 and at the last bit, with and without a candidate, no
match; a mimic in CONFIRM, a wrong bit, the first right one and the eighth; and MIMIC_STRICT. -/
theorem witness_ReceivedBitsAreSifted_bits :
    ((heard (sifting .search none 119 0) 119 false).matchAt 119 = some 7 ∧ (heard (sifting .search (some at14) 119 0) 119 false).matchAt 119 = some 7 ∧
      (heard base 119 false).matchAt 119 = none) ∧
    ((heard (sifting .search none 120 0) 120 false).matchAt 120 = some 7 ∧ (sifting .search none 120 0).strict = false ∧
      (strictly base).strict = true) ∧
    ((sifting .confirm (some at14) 20 0).rx.state = .confirm ∧ (sifting .confirm (some at14) 20 0).rx.candidate = some at14 ∧ 20 ≠ at14.position ∧
      (heard (sifting .confirm (some at14) 20 0) 20 false).matchAt 20 = some 7) ∧
    (false ≠ marker (at14.round + 1 + 0) ∧ true = marker (at14.round + 1 + 0) ∧ 0 + 1 < 8) ∧
    (let s := sifting .confirm (some at14) 20 7
     false = marker (at14.round + 1 + s.rx.confirmed) ∧ s.rx.confirmed + 1 = 8 ∧ s.rx.last = none ∧ s.tx.failed = false) ∧
    ({ position := 3, phase := 0 } : Machine.Alignment) ≠ { position := at14.position, phase := at14.phase } := by decide +kernel

/-- A receive side in sync at position 14, in a slot with bits of it received. -/
def inSlot (slot round : Nat) (bits : List Bool) (record : List Bool) : State :=
  { inSync with rx := { inSync.rx with slot := slot, round := round, slotBits := bits, record := record, assembling := true } }

/-- The hypotheses of `ReceivedBitsAreSifted` in IN_SYNC: a marker bit that is right and the third error of six; a bit past the last slot,
a slot's second bit, its tenth, and the tenth of the last slot of round 7. -/
theorem witness_ReceivedBitsAreSifted_sync :
    (inSync.rx.state = .inSync ∧ inSync.rx.last = some { position := 14, phase := 0 } ∧ inSync.lossRule = (3, 6)) ∧
    ((([] ++ [marker 1 != marker ((inSync.rx.round + 1) % 8)] : List Bool).filter id).length < inSync.lossRule.1) ∧
    (let r := (inSlot 12 2 [] [false, false, false, true, true, false]).rx.record
     let record := (r ++ [true != marker 2]).drop (r.length + 1 - 8)
     inSync.lossRule.1 ≤ ((record.drop (record.length - inSync.lossRule.2)).filter id).length) ∧
    12 ≤ (inSlot 12 0 [] []).rx.slot ∧ ((inSlot 0 0 [true] []).rx.slot < 12 ∧ (inSlot 0 0 [true] []).rx.slotBits.length ≠ 9) ∧
    (inSlot 10 7 (List.replicate 9 false) []).rx.slotBits.length = 9 ∧
    ((inSlot 11 7 (List.replicate 9 false) []).rx.slot = 11 ∧ (inSlot 11 7 (List.replicate 9 false) []).rx.round = 7 ∧
      (inSlot 11 7 (List.replicate 9 false) []).rx.assembling = true) := by decide +kernel
/-- A heater that STARTS in mode 2, its node about to be heard twice with a code. -/
def startHeard (code : Nat) : State :=
  ready 1 (statusBytes .heater 5 [code, 0, 0, 0, 2, 0])
    (withNode 1 { nodeHeard (.heater 0 2) (some 2) (some 0) with candA := some code, candB := some 0 } twoStarts)

/-- What every message of the second clause of `BatteryMessageAccepted` has: a place, good framing, check and direction. -/
def wellFramed (p : Nat) (b : List Byte) (s : State) : Bool :=
  s.phase == .running && s.rx.ready == [{ position := p, bytes := b, bad := false, dropped := false }] && s.nodes.length == 12
    && s.tx.pos.length == 12 && (b.map BitVec.toNat).sum % 256 == 0 && bitAt (byteAt b 0) 0

/-- The hypotheses of `BatteryMessageAccepted` of the heater: the start that FLAME, PURGE and FAULT end, and a code past the list. -/
theorem witness_BatteryMessageAccepted_heater :
    (∀ x ∈ [3, 4, 5], let s := startHeard x
      wellFramed 1 (statusBytes .heater 5 [x, 0, 0, 0, 2, 0]) s = true ∧ s.kindAt 1 = .heater ∧ s.positionsOf .heater = [1] ∧
      field (byteAt (statusBytes .heater 5 [x, 0, 0, 0, 2, 0]) 0) 1 3 = NodeKind.heater.code ∧
      (decodeStatus .heater (statusBytes .heater 5 [x, 0, 0, 0, 2, 0])).isSome = true ∧ s.heater.mode = .manual 2 ∧
      s.heater.state = .starting ∧ after .statusMessage s (fun t => (t.node 1).heldA == some x && (s.node 1).heldA != (t.node 1).heldA) = true) ∧
    decodeStatus .heater (statusBytes .heater 5 [6, 0, 0, 0, 2, 0]) = none := by decide +kernel

/-- The hypotheses of `BatteryMessageAccepted` of messages of another kind: a PRESENT position and one in MISMATCH. -/
theorem witness_BatteryMessageAccepted_foreign :
    (let s := ready 1 batteryBytes base
     wellFramed 1 batteryBytes s = true ∧ field (byteAt batteryBytes 0) 1 3 ≠ (s.kindAt 1).code ∧ (s.node 1).presence ≠ .mismatch) ∧
    (let s := ready 1 batteryBytes (withNode 1 (NodeRec.never .mismatch) base)
     wellFramed 1 batteryBytes s = true ∧ (s.node 1).presence = .mismatch) := by decide +kernel

/-- The hypotheses of `BatteryMessageAccepted` of the other owners: the fridge at its set point and at the protect level, both outputs of a
light module, a panel PRESENT and SEEKING, and an outlet whose first output reports its fault for the second time. -/
theorem witness_BatteryMessageAccepted_owners :
    (∀ c ∈ [30, 80], let s := ready 2 (statusBytes .fridge 5 [0, c, 0, 0, 0, 0]) { twoStarts with fridge := { twoStarts.fridge with setPoint := 30 } }
      wellFramed 2 (statusBytes .fridge 5 [0, c, 0, 0, 0, 0]) s = true ∧ s.kindAt 2 = .fridge ∧ s.positionsOf .fridge = [2] ∧
      s.fridge.state.cycling = true ∧ (decodeStatus .fridge (statusBytes .fridge 5 [0, c, 0, 0, 0, 0])).map (·.measures) = some (.fridge c) ∧
      after .statusMessage s (fun t => (t.node 2).heldA != some 2) = true) ∧
    (let s := ready 6 (statusBytes .light 5 [1, 2, 0, 0, 0, 0]) (withNode 6 { nodeHeard .light (some 0) (some 0) with candA := some 1, candB := some 2 } base)
     wellFramed 6 (statusBytes .light 5 [1, 2, 0, 0, 0, 0]) s = true ∧ s.kindAt 6 = .light ∧ s.firstChannelAt 6 + 1 = 7 ∧ 7 < s.lights.channels.length ∧
      after .statusMessage s (fun t => (t.node 6).heldA == some 1 && (t.node 6).heldB == some 2) = true) ∧
    (let s := ready 8 (statusBytes .panel 0 [4, 0x71, 0, 0x12, 0x8C, 0]) base
     wellFramed 8 (statusBytes .panel 0 [4, 0x71, 0, 0x12, 0x8C, 0]) s = true ∧ s.kindAt 8 = .panel ∧ s.panelNumber 8 = 1 ∧
      1 < s.panel.baselines.length ∧ (s.node 8).presence ≠ .present ∧ (fourPresses.node 7).presence = .present) ∧
    (let s := ready 9 (statusBytes .outlet 5 [1, 0, 0, 0, 0, 0]) (withNode 9 { nodeHeard .outlet (some 0) (some 0) with candA := some 1, candB := some 0 } base)
     wellFramed 9 (statusBytes .outlet 5 [1, 0, 0, 0, 0, 0]) s = true ∧ s.kindAt 9 = .outlet ∧
      after .statusMessage s (fun t => newFault (s.node 9).heldA (t.node 9).heldA && !newFault (s.node 9).heldB (t.node 9).heldB) = true) := by
  decide +kernel

/-- The hypotheses of `BatteryMessageAccepted` of an echo: of the second of three items, and of none. -/
theorem witness_BatteryMessageAccepted_echo :
    ([{ seq := 14, cycles := 2 }, { seq := 15, cycles := 1 }, { seq := 0, cycles := 0 }] : List Unechoed) =
      [{ seq := 14, cycles := 2 }] ++ { seq := 15, cycles := 1 } :: [{ seq := 0, cycles := 0 }] ∧
    (∀ v ∈ ([{ seq := 14, cycles := 2 }] : List Unechoed), v.seq ≠ 15) ∧ ∀ v ∈ ((unechoed 6).loopPos 0).unechoed, v.seq ≠ 2 := by
  decide +kernel

/-- The hypotheses of `CountedCycleEnds` in MISMATCH: a position mapped NONE with and without a message of another kind, and a mapped one;
and an UNCONFIGURED one. -/
theorem witness_CountedCycleEnds_mismatch :
    (let s := withNode 11 (NodeRec.never .mismatch) cycleOver
     s.kindAt 11 = .none ∧ (s.node 11).presence = .mismatch ∧ (s.node 11).result ≠ .foreign ∧ s.rx.endDue = true ∧ s.rx.ready = []) ∧
    (let s := withNode 11 { NodeRec.never .mismatch with result := .foreign } cycleOver
     (s.node 11).presence = .mismatch ∧ (s.node 11).result = .foreign) ∧
    (let s := withNode 10 (NodeRec.never .mismatch) cycleOver
     (s.node 10).presence = .mismatch ∧ s.kindAt 10 ≠ .none) ∧
    (cycleOver.node 11).presence = .unconfigured := by decide +kernel

/-- A charging history of twelve means, one of them given. -/
def charging (x : Int) : State := { base with energy := { base.energy with history := x :: List.replicate 11 20 } }

/-- The hypotheses of `BudgetTickFigures` of the mode: each level asserted, the history's sum at 240 and at 239, ENGINE_RUNNING. -/
theorem witness_BudgetTickFigures_mode :
    (cutoffAt true 0 0).energy.cutoff.asserted = true ∧
    ((lowAt true 0 0).energy.cutoff.asserted = false ∧ (lowAt true 0 0).energy.low.asserted = true) ∧
    ((charging 20).energy.history.length = 12 ∧ 240 ≤ (charging 20).energy.history.sum ∧ (charging 20).energy.low.asserted = false) ∧
    ((charging 19).energy.history.sum < 240 ∧ (charging 19).freshSignal 6 ≠ some 1) ∧ (fresh 6 1 base).freshSignal 6 = some 1 := by
  decide +kernel

/-- The hypotheses of `BudgetTickFigures` of the derate, at both ends of its first and its last stretch; of a battery heard and one never
heard; and of the horizon. -/
theorem witness_BudgetTickFigures_horizon :
    ((-40 : Int) ≤ -40 ∧ (30 : Int) ≤ 30 ∧ (-40 + 10 * ((0 : Nat) : Int) ≤ -40 ∧ (-31 : Int) < -30 + 10 * ((0 : Nat) : Int)) ∧
      (-40 + 10 * ((6 : Nat) : Int) ≤ 20 ∧ (29 : Int) < -30 + 10 * ((6 : Nat) : Int))) ∧
    ((nightTick.nodeOf .battery).map (·.measures)) = some (.battery (-112) 1218 (-15)) ∧
    ((base.nodeOf .battery).map (·.measures)) = some .none ∧ nightTick.restOpen = true ∧ base.restOpen = false ∧
    0 ∈ nightTick.validEntries := by decide +kernel

/-- A waiting fridge, protected or not, with the outlet of entry 3 in a grant state. -/
def deciding (protect : Bool) (g : Grant) : State :=
  let s := roster [(1, .waiting, 150), (3, g, 256)] base
  withLive 1 { s.live 1 with protect := protect } s

/-- The hypotheses of `RanksGrantsAndSheds` of the decisions in NORMAL and LOW: a shed step with and without an eligible entry, a grant at
the bound and one that fails it, a restore that is outranked and one without a WAITING entry. -/
theorem witness_RanksGrantsAndSheds_decisions :
    (nightTick.lowest nightTick.eligible = some 3 ∧ 106 < 132) ∧ (deciding true .idle).eligible = [] ∧
    ((deciding true .idle).highest (((deciding true .idle).inGrant .waiting).filter fun i => ((deciding true .idle).live i).protect) = some 1 ∧
      (((deciding false .idle).inGrant .waiting).filter fun i => ((deciding false .idle).live i).protect) = []) ∧
    ((deciding false .shed).highest ((deciding false .shed).inGrant .waiting) = some 1 ∧
      (deciding false .shed).testDraw 1 ≤ (deciding false .shed).testDraw 1 ∧
      (deciding false .shed).highest ((deciding false .shed).inGrant .shed) = some 3 ∧
      (deciding false .shed).outranks 3 1 = false ∧ 0 < (deciding false .shed).testDraw 1) ∧
    (let s := roster [(3, .shed, 256)] base
     s.highest (s.inGrant .waiting) = none ∧ s.highest (s.inGrant .shed) = some 3 ∧ (∀ i ∈ s.inGrant .waiting, s.outranks 3 i = true) ∧
      s.testDraw 3 + s.energySettings.margin ≤ 500 ∧ 5 < s.testDraw 3 + s.energySettings.margin) := by decide +kernel

/-- Lights and outlets in every grant state. -/
def mixed : State := roster [(2, .on, 200), (3, .waiting, 256), (4, .shed, 256), (5, .shed, 256)] base

/-- The hypotheses of `RanksGrantsAndSheds` in SURPLUS and CUTOFF: entries WAITING, SHED, ON and IDLE, and a running heater. -/
theorem witness_RanksGrantsAndSheds_modes :
    mixed.OneEach ∧
    (3 ∈ mixed.inGrant .waiting ∧ (mixed.cfg 3).kind = .outlet ∧ mixed.highest (mixed.inGrant .shed) = some 4 ∧ 5 ∈ mixed.inGrant .shed) ∧
    ((mixed.live 2).grant = .on ∧ (mixed.live 2).want = true ∧ (mixed.cfg 2).kind ≠ .heater ∧ (mixed.live 6).grant = .idle) ∧
    (let s := { nightTick with heater := { nightTick.heater with demand := true } }
     (s.live 0).grant = .on ∧ (s.cfg 0).kind = .heater ∧ s.heaterRun = true ∧ s.heater.demand = true ∧ s.demandNow = true ∧
      (heaterMarks s).heater = s.heater ∧ s.heaterIdle = false) :=
  ⟨oneEach_of_defaults rfl, by decide +kernel⟩

/-- The heater in a state with its entry in a grant state, its node heard in a phase, stale or not, and demand by its mode. -/
def heaterAt (st : HeaterState) (g : Grant) (phase : Nat) (stale on : Bool) (h : Option Holder) : State :=
  let s := withNode 1 { nodeHeard (.heater 0 4) (some phase) (some 0) with stale := stale } (roster [(0, g, 128)] base)
  { s with
    heater := { s.heater with state := st, mode := if on then .manual 2 else .off, demand := on, purge := some 30 }
    roster := { s.roster with holder := h } }

/-- The fridge in a state with its entry in a grant state, its node ready, and a holder of the slot. -/
def fridgeAt (st : FridgeState) (g : Grant) (h : Option Holder) : State :=
  let s := withNode 2 (nodeHeard (.fridge 56) (some 0) none) (roster [(1, g, 150)] base)
  { s with fridge := { s.fridge with state := st, on := true }, roster := { s.roster with holder := h } }

/-- The hypotheses of `RanksGrantsAndSheds` of a grant to the heater and to the fridge: a node that is not ready, a slot that is held and one
that is free, no demand, and a fridge that is not HELD. -/
theorem witness_RanksGrantsAndSheds_grants :
    (∀ b h, (heaterAt .requesting .waiting 0 b true h).DemandIs true) ∧ (heaterAt .requesting .waiting 0 false false none).DemandIs false ∧
    (∀ h ∈ [none, some { entry := 1, limit := 5, elapsed := 0 }],
      (∀ stale ∈ [true, false],
        let s := heaterAt .requesting .waiting 0 stale true h
        s.entryOfKind .heater = some 0 ∧ (s.live 0).grant = .waiting ∧ s.holds 0 = false ∧ s.queued 0 = false ∧
        s.heaterReady = !stale ∧ s.roster.holder = h ∧ s.roster.queue = []) ∧
      (∀ st ∈ [FridgeState.held, .idleCold],
        let s := fridgeAt st .waiting (h.map fun x => { x with entry := 0 })
        s.entryOfKind .fridge = some 1 ∧ (s.live 1).grant = .waiting ∧ s.holds 1 = false ∧ s.queued 1 = false ∧
        s.fridgeNodeFault = false ∧ s.fridge.state = st ∧ s.fridge.minOff = none ∧ s.fridgeReady = true ∧ s.roster.queue = [])) :=
  ⟨fun _ _ => ⟨rfl, rfl, rfl⟩, ⟨rfl, rfl, rfl⟩, by decide +kernel⟩

/-- The hypotheses of `RanksGrantsAndSheds` of a budget shed of the heater, in each state, its node at IDLE and not, and of the fridge; and of
SURPLUS with a WAITING heater and fridge. -/
theorem witness_RanksGrantsAndSheds_sheds :
    (∀ st phase, (heaterAt st .on phase false true none).DemandIs true) ∧
    (∀ st ∈ [HeaterState.starting, .running, .retryWait, .requesting], ∀ phase ∈ [0, 4],
      let s := heaterAt st .on phase false true none
      s.entryOfKind .heater = some 0 ∧ (s.live 0).grant = .on ∧ (s.live 0).want = true ∧ s.heater.state = st ∧
      s.heaterIdle = (phase == 0) ∧ s.holds 0 = false) ∧
    (∀ st ∈ [FridgeState.cooling, .held, .idleCold],
      let s := fridgeAt st .on none
      s.entryOfKind .fridge = some 1 ∧ (s.live 1).grant = .on ∧ (s.live 1).want = true ∧ s.fridge.state = st ∧ s.holds 1 = false) ∧
    (let s := withLive 1 (liveAt base 1 .waiting 150) (heaterAt .requesting .waiting 0 false true none)
     s.OneEach ∧ s.DemandIs true ∧ s.fridgeNodeFault = false ∧ s.inGrant .waiting = [0, 1] ∧ (s.cfg 0).kind = .heater ∧
      (s.cfg 1).kind = .fridge) :=
  ⟨fun _ _ => ⟨rfl, rfl, rfl⟩, by decide +kernel, by decide +kernel,
    oneEach_of_defaults rfl, ⟨rfl, rfl, rfl⟩, by decide +kernel⟩

/-- The hypotheses of `ChargeIsCounted` at a transmit cycle: a message heard, the last cycle of the hold and the first past it, and no
current held; before the first tick and after it. -/
theorem witness_ChargeIsCounted_cycle :
    ((holdingCurrent (-95) 0 24).Ready ∧ (holdingCurrent (-95) 0 24).energy.heard = false ∧
      (holdingCurrent (-95) 0 24).energy.held = some (-95) ∧ (holdingCurrent (-95) 0 24).energy.holdCount < 25) ∧
    ((holdingCurrent (-95) 0 25).Ready ∧ 25 ≤ (holdingCurrent (-95) 0 25).energy.holdCount) ∧
    (base.Ready ∧ base.energy.held = none ∧ base.energy.ticked = false) ∧
    (let s := { base with energy := { base.energy with heard := true } }
     s.Ready ∧ s.energy.heard = true) ∧
    (let s := { base with energy := { base.energy with ticked := true, figures := some { cu := 33750, available := 8000, horizon := 450, allowance := 106, draw := 132 } } }
     s.energy.ticked = true ∧ (s.energy.figures.map (·.draw)) = some 132) :=
  ⟨⟨ready_of (by decide +kernel), by decide +kernel⟩, ⟨ready_of (by decide +kernel), by decide +kernel⟩, ⟨base_ready, rfl, rfl⟩,
    ⟨ready_of (by decide +kernel), rfl⟩, by decide⟩

/-- One REST_SHORT queued for a minute, no rest open, the sweeps begun. -/
def oneWarning (due : Nat) : State :=
  { base with
    rest := { base.rest with sweeping := true }
    ret := { base.ret with clock := 100, queue := [{ kind := .restShort, index := 0, due := due, figure := 30 }] } }

/-- The hypotheses of `MinuteTickCounts` of warnings: one due at the new minute, one a minute later, and the two sides of five minutes in
STANDBY. -/
theorem witness_MinuteTickCounts_due :
    ((oneWarning 101).Settled ∧ (oneWarning 101).restOpen = false ∧ (oneWarning 101).rest.wake = none ∧ (oneWarning 101).ret.active = none ∧
      (oneWarning 101).rest.sweeping = true) ∧
    (oneWarning 102).Settled ∧
    ((inPower .standby (oneWarning 106)).Settled ∧ (inPower .standby (oneWarning 106)).power.state = .standby) ∧
    (inPower .standby (oneWarning 107)).Settled ∧ ((inPower .standby base).Settled ∧ (inPower .standby base).ret.queue = []) :=
  ⟨⟨settled_of (by decide +kernel), by decide +kernel⟩, settled_of (by decide +kernel), ⟨settled_of (by decide +kernel), rfl⟩,
    settled_of (by decide +kernel), settled_of (by decide +kernel), rfl⟩

/-- A RESTING rest one minute short of what is required, and of one more. -/
def nearEnd (left : Nat) : State :=
  { base with
    signals := base.signals.set 0 { value := 0, quality := .fresh, age := 0, changed := false }
    ret := { base.ret with rest := { base.ret.rest with state := .resting, accumulated := 660 - left, required := 660 } } }

/-- The hypotheses of `MinuteTickCounts` of a rest at its end and one minute before it, and of a run limit at its minute. -/
theorem witness_MinuteTickCounts_ends :
    ((nearEnd 1).Settled ∧ (nearEnd 1).restRec.state = .resting ∧ after .minuteTick (nearEnd 1) (fun t => t.restRec.accumulated == 660) = true) ∧
    ((nearEnd 2).Settled ∧ after .minuteTick (nearEnd 2) (fun t => t.restRec.accumulated == 659) = true) ∧
    (let s := { base with heater := { base.heater with mode := .manual 3, manualCount := some 119 } }
     s.Settled ∧ s.climate.runLimit = 120) :=
  ⟨⟨settled_of (by decide +kernel), rfl, by decide +kernel⟩, ⟨settled_of (by decide +kernel), by decide +kernel⟩,
    settled_of (by decide +kernel), by decide +kernel⟩

/-- The hypotheses of `MinuteTickCounts` of the wake minute: an alarm that moves it, the last wake served, a rest's end, and none. -/
theorem witness_MinuteTickCounts_wake :
    (let s := { base with ret := { base.ret with alarm := some 500 } }
     s.wakeNow = some 500 ∧ s.wakeNow ≠ s.rest.wake ∧ s.ret.lastWake ≠ some 500 ∧ s.ret.queue.length ≤ 5) ∧
    (let s := { base with ret := { base.ret with alarm := some 500, lastWake := some 500 } }
     s.wakeNow = s.ret.lastWake ∧ s.wakeNow ≠ s.rest.wake) ∧
    ((nearEnd 1).ret.alarm = none ∧ (nearEnd 1).profile.wakeAtComplete = true) ∧
    (base.ret.alarm = none ∧ base.restRec.state ≠ .resting ∧ base.wakeNow = base.rest.wake) := by decide +kernel

/-- The hypotheses of `ThePartWakes` of a flag that is sendable after the wake, and of a FRESH signal. -/
theorem witness_ThePartWakes_notice :
    (inPower .standby (fresh 8 7 { base with notices := { base.notices with flags := 1#16 } })).Settled ∧
    after (.wakeLineEdge .rising) (inPower .standby (fresh 8 7 { base with notices := { base.notices with flags := 1#16 } }))
      (fun t => t.sendable != 0 && (t.signal 8).quality == .stale) = true :=
  ⟨settled_of (by decide +kernel), by decide +kernel⟩

/-- A retention area with a lockout and a REST_LEAD active. -/
def kept : Retention :=
  { Retention.init 45000 with
    clock := 700, lockout := true, failedStarts := 3
    active := some { kind := .restLead, index := 0, figure := 60, entryFigure := 60, repeats := 2 } }

/-- The inner hypotheses of `StartUpOpens`: a retention area lost and kept, a cause that keeps it, and its active warning. -/
theorem witness_StartUpOpens_retention :
    (ResetCause.supplyDip ≠ .powerOn ∧ ({ noDamage with retention := true } : StoreDamage).retention = true) ∧
    noDamage.retention = false ∧ kept.lockout = true ∧ (Retention.init 45000).lockout = false ∧
    (kept.active.map (·.kind)) = some .restLead ∧ kept.queue.length ≤ 4 := by decide

/-! ### Witnesses of the clauses on the timer, the line, the leads and the heater's endings -/

/-- The hypotheses of `RefusalsAndIdling` on the last second of RUN and those of `QualifyOnlyTimes`: the standby timer as `qualify` leaves it,
stopped in RUN and running in QUIET. -/
theorem witness_QualifyOnlyTimes :
    ((oneSecond .run).power.standbyTimer ≠ none → (oneSecond .run).power.state = .quiet) ∧
    ∀ p ∈ [PowerState.run, .quiet], qualify (oneSecond p) = oneSecond p ∧ steps (oneSecond p) = true := by decide +kernel

/-- STANDBY with the round in progress still being sent, and after it. -/
def asleep (finishing : Bool) : State :=
  let s := inPower .standby base
  { s with tx := { s.tx with finishing := finishing } }

/-- The hypotheses of `CyclesCarryCheckedCommands` of the line and of the unechoed list: both halves of STANDBY, the part held, and a full
list whose sequence is to be raised beside an empty one. -/
theorem witness_CyclesCarryCheckedCommands_line :
    ((asleep true).Settled ∧ (asleep false).Settled ∧ (asleep true).power.state = .standby ∧ (asleep true).tx.finishing = true ∧
      (asleep false).tx.finishing = false ∧ State.reset.phase = .held) ∧
    (let s := { base with tx := { base.tx with pos := base.tx.pos.modify 0 fun x =>
        { x with raise := true, unechoed := List.replicate 8 { seq := 1, cycles := 4 } } } }
     s.Ready ∧ s.kindAt 0 ≠ .none ∧ (s.loopPos 0).unechoed.length = 8 ∧ (s.loopPos 0).raise = true ∧
      (s.loopPos 1).unechoed = []) :=
  ⟨⟨settled_of (by decide +kernel), settled_of (by decide +kernel), by decide +kernel⟩, ready_of (by decide +kernel), by decide +kernel⟩

/-- The hypotheses of `ReceivedBitsAreSifted` of a whole round: SEARCH, CONFIRM and IN_SYNC. -/
theorem witness_ReceivedBitsAreSifted_fold :
    (sixBits.Ready ∧ sixBits.rx.state ≠ .hold) ∧ ((sifting .confirm (some at14) 14 7).Ready ∧
      (sifting .confirm (some at14) 14 7).rx.state ≠ .hold) ∧ inSync.Ready ∧ inSync.rx.state ≠ .hold :=
  ⟨⟨ready_of (by decide +kernel), by decide +kernel⟩, ⟨ready_of (by decide +kernel), by decide +kernel⟩, ready_of (by decide +kernel),
    by decide +kernel⟩

/-- A part in DRIVE, DRIVE_REMAINING last stored as `was`, about to be told `now`; its leads are 30 and 15. -/
def nearing (was now : Nat) (served : List Bool) : State :=
  let s := fresh 1 was (fresh 0 3 (acting 1 1 8 0 0 [now]))
  { s with
    rest := { s.rest with driving := true, sweeping := true, breakServed := served }
    ret := { s.ret with queue := [{ kind := .wake, index := 0, due := 500, figure := 0 }] } }

/-- What the clauses of `DriverActivityIsHeld` of a store into DRIVE_REMAINING have in common, but for the part being ready. -/
def tellsRemaining (now : Nat) (s : State) : Bool :=
  s.bus.rxQueue == [rx 0x1C4D2060#29 [now]] && !s.isSetupFrame (rx 0x1C4D2060#29 [now])
    && s.claimant (rx 0x1C4D2060#29 [now]) == some (ingressOf (actEntry 1 1 8 0 0)) && s.signals.length == 32
    && (ingressOf (actEntry 1 1 8 0 0)).raw (bytes [now]) == some now && (ingressOf (actEntry 1 1 8 0 0)).available now
    && s.drive && s.ret.queue.all (fun x => decide (s.ret.clock < x.due)) && decide (s.ret.queue.length ≤ 6)

/-- The hypotheses of `DriverActivityIsHeld` of a store into DRIVE_REMAINING: 31 minutes, both leads ahead; 30 minutes, the first lead
reached and the second served; 31 minutes again. -/
theorem witness_DriverActivityIsHeld_remaining :
    (∀ x ∈ [(90, 31, [false, false]), (90, 30, [false, true]), (31, 31, [false, false])],
      let s := nearing x.1 x.2.1 x.2.2
      (s.phase = .running ∧ settle s = s) ∧ s.power.state ≠ .standby ∧ tellsRemaining x.2.1 s = true) ∧
    ((∀ i < 2, ((base.profile.breaks.getD i 0 : Nat) : Int) < 31) ∧ base.profile.breaks.getD 0 0 = 30) ∧
    (nearing 90 30 [false, true]).ret.active = none := by decide +kernel

/-- The hypotheses of `EgressPassesAndSends` of an item: an unsigned and a signed source with a value, sources without one, a set, and a byte
that no item covers. -/
theorem witness_EgressPassesAndSends_items :
    (base.source 3 0).isSome = true ∧ (∃ v, base.source 3 0 = some (.number false 1 (some v))) ∧
    (∃ v, (fresh 4 (-152) base).source 1 4 = some (.number true 4 (some v))) ∧
    (∃ z, base.source 6 0 = some (.number false z none)) ∧ (base.signal 4).quality ≠ .fresh ∧ (∃ b, base.source 0x11 0 = some (.bytes b)) ∧
    (let e := egressOf (entryOf 20 [le 1 1, le 4 0x1C4D2300, le 2 10, bytes [3, 0, 1 + 8 * 1]])
     disjointItems e.items = true ∧ 0 < e.length ∧ ∀ x ∈ e.items, 0 < x.position) :=
  ⟨by decide +kernel, ⟨_, rfl⟩, ⟨_, rfl⟩, ⟨_, rfl⟩, by decide +kernel, ⟨_, rfl⟩, by decide +kernel⟩

/-- A heater in a state whose node, at a held phase, is about to be heard twice with another. -/
def phaseHeard (st : HeaterState) (seen : Bool) (old new : Nat) : State :=
  let s := ready 1 (statusBytes .heater 5 [new, 0, 0, 0, 2, 0])
    (withNode 1 { nodeHeard (.heater 0 2) (some old) (some 0) with candA := some new, candB := some 0 } twoStarts)
  { s with heater := { s.heater with state := st, startSeen := seen, purgeOutstanding := st == .lockout } }

/-- The hypotheses of `BatteryMessageAccepted` of the heater's edges: GLOW, IGNITE and IDLE in STARTING, before and after the start is seen;
IDLE, FAULT and FLAME in RUNNING; IDLE in RETRY_WAIT and in LOCKOUT. -/
theorem witness_BatteryMessageAccepted_edges :
    ∀ x ∈ [(HeaterState.starting, false, 0, 1), (.starting, false, 1, 2), (.starting, false, 4, 0), (.starting, true, 1, 0),
        (.running, true, 3, 0), (.running, true, 3, 5), (.running, true, 4, 3), (.retryWait, true, 4, 0), (.lockout, true, 4, 0)],
      let s := phaseHeard x.1 x.2.1 x.2.2.1 x.2.2.2
      let b := statusBytes .heater 5 [x.2.2.2, 0, 0, 0, 2, 0]
      wellFramed 1 b s = true ∧ s.kindAt 1 = .heater ∧ s.positionsOf .heater = [1] ∧ field (byteAt b 0) 1 3 = NodeKind.heater.code ∧
        (decodeStatus .heater b).isSome = true ∧ s.heater.mode.isManual = true ∧ (s.node 1).presence = .present ∧
        after .statusMessage s (fun t => (t.node 1).heldA == some x.2.2.2 && (s.node 1).heldA != (t.node 1).heldA) = true := by
  decide +kernel

/-- The other way in which demand stands: AUTO below the set point, no wake minute, and no warning due. -/
theorem witness_BatteryMessageAccepted_auto :
    let s := ready 1 (statusBytes .heater 5 [5, 0, 0, 0, 2, 0])
      (withNode 1 { nodeHeard (.heater 0 3) (some 3) (some 0) with candA := some 5, candB := some 0 } holding)
    s.rest.wake = none ∧ s.ret.queue = [] ∧ after .statusMessage s (fun t => t.heater.demand && flag 4 t) = true := by decide +kernel

/-- A stop that waits for a node, its entry in a grant state and wanted or not, with demand or without. -/
def stopping (st : HeaterState) (g : Grant) (want demand : Bool) (at4 : Presence) : State :=
  let s := withNode 1 { nodeHeard (.heater 0 0) (some 4) (some 0) with presence := at4 } base
  let s := withLive 0 { liveAt s 0 g 0 with want := want, reason := if g = .shedding then .budget else .none } s
  { s with heater := { s.heater with
      state := st, purge := some 240, demand := demand, mode := if demand then .manual 2 else .off, purgeOutstanding := st == .lockout } }

/-- The hypotheses of `HeaterTimersAndLimits` of the ends of a stop at the purge limit, row by row. -/
theorem witness_HeaterTimersAndLimits_endings :
    ∀ x ∈ [(HeaterState.stopping, Grant.stopping, false, true, Presence.present), (.stopping, .stopping, false, false, .present),
        (.stopping, .shedding, true, false, .present), (.stopping, .shedding, false, true, .present),
        (.stopping, .shedding, false, false, .present), (.stopping, .stopping, false, true, .lost), (.retryWait, .on, true, true, .present),
        (.lockout, .stopping, false, true, .present), (.lockout, .stopping, false, false, .lost)],
      let s := stopping x.1 x.2.1 x.2.2.1 x.2.2.2.1 x.2.2.2.2
      (s.phase = .running ∧ settle s = s) ∧ s.heater.purge = some 240 ∧ s.heaterRun = false ∧ s.notices.details.length = 16 ∧
        (heaterMarks s).demandNow = s.heater.demand ∧ s.heaterIdle = false ∧ s.entryOfKind .heater = some 0 ∧ (s.live 0).grant = x.2.1 ∧
        s.heaterPresent = (x.2.2.2.2 == .present) := by decide +kernel

/-- A fridge in HELD, its entry ON, whose node at a held state is about to report `new` for the second time, with a reading. -/
def winding (h : Option Holder) (off : Option Nat) (old new c : Nat) : State :=
  let s := ready 2 (statusBytes .fridge 5 [new, c, 0, 0, 0, 0])
    (withNode 2 { nodeHeard (.fridge 56) (some old) none with candA := some new } (waitingOff h))
  { s with fridge := { s.fridge with minOff := off, setPoint := 30 } }

/-- The hypotheses of `BatteryMessageAccepted` of the fridge in HELD: a held change to STOPPED with the slot free, no held change, the slot
held by the heater, all at the effective set point of 3.0 °C; and above it with the minimum-off timer running. -/
theorem witness_BatteryMessageAccepted_held :
    (∀ x ∈ [((none : Option Holder), (none : Option Nat), 1, 0, 30), (none, none, 0, 0, 30),
        (some { entry := 0, limit := 90, elapsed := 30 }, none, 1, 0, 30), (none, some 7, 1, 0, 31)],
      let s := winding x.1 x.2.1 x.2.2.1 x.2.2.2.1 x.2.2.2.2
      let b := statusBytes .fridge 5 [x.2.2.2.1, x.2.2.2.2, 0, 0, 0, 0]
      wellFramed 2 b s = true ∧ s.kindAt 2 = .fridge ∧ s.positionsOf .fridge = [2] ∧ s.fridge.state = .held ∧ s.fridge.minOff = x.2.1 ∧
        s.fridgeEffective = 30 ∧ (decodeStatus .fridge b).map (·.measures) = some (.fridge x.2.2.2.2) ∧ (s.node 2).presence = .present ∧
        s.entryOfKind .fridge = some 1 ∧ (s.live 1).grant = .on ∧ s.roster.holder = x.1 ∧ s.roster.queue = [] ∧
        after .statusMessage s (fun t => (t.node 2).heldA == some 0) = true) := by decide +kernel

/-- A rest about to open with the sunrise mark set, in a profile without a sunrise. -/
def afterSunrise : State :=
  let s := oneFrame 0x1C4D2040#29 [0]
  let s := withEntry 9 0 ((s.tables.entry 9 0).set 12 (byte 128)) s
  { s with lights := { s.lights with sunrise := true } }

/-- The hypotheses of `DriverActivityIsHeld` of a rest that opens in night mode. -/
theorem witness_DriverActivityIsHeld_night :
    afterSunrise.Ready ∧ afterSunrise.restOpen = false ∧ afterSunrise.profile.sunriseLead = 0 ∧ afterSunrise.ret.queue = [] ∧
    afterSunrise.lights.sunrise = true ∧ afterSunrise.claimant (rx 0x1C4D2040#29 [0]) = some (ingressOf activityEntry) :=
  ⟨ready_of (by decide +kernel), by decide +kernel⟩

/-! ### Tests of what a single step leaves, rule by rule -/

/-- R134, R42: told of STOPPED before the acceptance, the fridge at its set point asks and starts; the reading alone ends HELD. -/
theorem test_held_stopped :
    (after .statusMessage (winding none none 1 0 30) (fun t => t.fridge.state == .cooling) &&
      after .statusMessage (winding none none 0 0 30) (fun t => t.fridge.state == .idleCold)) = true := by decide +kernel

/-- R153, R165: a rest opens in night mode although a sunrise came before it. -/
theorem test_rest_opens_night : after .ingressMatch afterSunrise (fun t => t.night && !t.lights.sunrise) = true := by decide +kernel

/-- R21: at STANDBY entry the round in progress is finished; the line then stays at 1. -/
theorem test_round_finished :
    after .standbyEntry sleepy (fun t => t.lineBits == sleepy.tx.roundBits && sleepy.tx.roundBits != List.replicate 121 true
      && after (.receivedRound 0) t (fun u => u.lineBits == List.replicate 121 true)) = true := by decide +kernel

/-- R21: byte 0x0B, least significant bit first, even parity, stop bit 1. -/
theorem test_slot_bits : slotBits (byte 0x0B) = [true, true, false, true, false, false, false, false, true, true] := by decide

/-- R150: a step that leaves the target where it was starts no fade. -/
theorem test_light_step_at_limit :
    (let c := { Channel.init with level := 200, fade := some { start := 200, target := 255, n := 12, k := 3 } }
     c.stepTarget 32 == c) = true := by decide

/-- R67: the entries in ON are shed before those in WAITING, so the latched detail is that of the waiting one. -/
theorem test_emergency_order :
    (let t := emergencyShed (roster [(3, .waiting, 256), (4, .on, 256)] base)
     ((t.notices.details.getD 7 []).head?) == some (byte 3) && (t.live 4).grant == .shed && (t.live 4).reason == .emergency) = true := by
  decide +kernel

/-- R164: a repeat interval committed while the timer runs holds from its next start. -/
theorem test_repeat_interval_latched :
    after .repeatTimerExpiry { announced 2 with rest := { (announced 2).rest with repeatLimit := 300 } }
      (fun t => t.rest.repeatLimit == 60 && t.rest.repeatTimer == some 0) = true := by decide +kernel

/-- R205: the bits of a HEATER entry's binding are not defined and read 0. -/
theorem test_binding_undefined : normalEntry 5 0 (rosterEntry 0 0xFF 12 28 85 90) = rosterEntry 0 0 12 28 85 90 := by decide

end Sys2Proof.Machine.Tests
end

section
/-! PROOF. The cab bus interface: what offering and placing frames leaves of it (sections 1.1 and 1.6). -/

namespace Sys2Proof.Machine

/-- What frames that are offered, matched or refused leave of the interface: all but the two transmit classes, the class being sent and
the counts of single frames. Of the queue's length it keeps whether the eight places hold it. -/
structure Bus.Steady where
  rxQueue : List RxFrame
  busOff : Bool
  txErrors : Nat
  rxErrors : Nat
  overrun : Nat
  offCount : Nat
  fits : Bool

/-- The steady part of an interface. -/
def Bus.steady (b : Bus) : Bus.Steady where
  rxQueue := b.rxQueue
  busOff := b.busOff
  txErrors := b.txErrors
  rxErrors := b.rxErrors
  overrun := b.counts.overrun
  offCount := b.counts.busOff
  fits := decide (b.queued ≤ 8)

/-- The bounds of section 1.6 and R3 are a matter of the steady part. -/
theorem Bus.bounded_iff_steady (b : Bus) : b.Bounded ↔ b.steady.rxQueue.length ≤ 16 ∧ b.steady.fits = true := by
  simp [Bus.Bounded, Bus.steady]

theorem Bus.Bounded.of_steady {b c : Bus} (h : b.Bounded) (hc : c.steady = b.steady) : c.Bounded := by
  rw [Bus.bounded_iff_steady] at h ⊢
  rwa [hc]

/-! ### The interface's own operations -/

@[simp] theorem Bus.takeUp_rxQueue (b : Bus) : b.takeUp.rxQueue = b.rxQueue := by
  unfold Bus.takeUp
  split <;> rfl

@[simp] theorem Bus.takeUp_prioQueue (b : Bus) : b.takeUp.prioQueue = b.prioQueue := by
  unfold Bus.takeUp
  split <;> rfl

@[simp] theorem Bus.takeUp_egressQueue (b : Bus) : b.takeUp.egressQueue = b.egressQueue := by
  unfold Bus.takeUp
  split <;> rfl

@[simp] theorem Bus.takeUp_busOff (b : Bus) : b.takeUp.busOff = b.busOff := by
  unfold Bus.takeUp
  split <;> rfl

@[simp] theorem Bus.takeUp_queued (b : Bus) : b.takeUp.queued = b.queued := by
  simp [Bus.queued]

@[simp] theorem Bus.takeUp_steady (b : Bus) : b.takeUp.steady = b.steady := by
  unfold Bus.takeUp
  split <;> rfl

/-- Removing the oldest egress frame that is not being sent makes one place and touches nothing else (R19). -/
theorem Bus.removeOldest_queued {b : Bus} (h : b.removable = true) : b.removeOldest.queued + 1 = b.queued := by
  unfold Bus.removable at h
  unfold Bus.removeOldest Bus.queued
  by_cases hs : b.sending = some .egress
  · have : 2 ≤ b.egressQueue.length := by simpa [hs] using h
    simp only [hs, if_true, List.length_append, List.length_take, List.length_drop]
    omega
  · have : 0 < b.egressQueue.length := List.length_pos_iff.mpr (by simpa [hs] using h)
    simp only [hs, if_false, List.length_drop]
    omega

/-- Two interfaces of one make but for their transmit queues are alike in their steady parts if the eight places hold both or neither. -/
theorem Bus.steady_of_queues (b : Bus) (p e : List TxFrame) (n : Nat)
    (h : p.length + e.length ≤ 8 ↔ b.queued ≤ 8) :
    ({ b with prioQueue := p, egressQueue := e, counts := { b.counts with dropped := n } } : Bus).steady = b.steady := by
  simp only [Bus.steady, Bus.Steady.mk.injEq, true_and]
  exact decide_eq_decide.mpr h

/-- A priority frame fills a free place or takes an egress frame's (R19). -/
@[simp] theorem Bus.placePriority_steady (b : Bus) (f : TxFrame) : (b.placePriority f).steady = b.steady := by
  unfold Bus.placePriority
  split
  next h =>
    rw [Bus.takeUp_steady]
    refine Bus.steady_of_queues b (b.prioQueue ++ [f]) b.egressQueue b.counts.dropped ?_
    unfold Bus.queued at h ⊢
    simp only [List.length_append, List.length_singleton]
    omega
  next h =>
    split
    next hr =>
      have hq := Bus.removeOldest_queued hr
      rw [Bus.takeUp_steady]
      have hb : ∃ e, b.removeOldest = { b with egressQueue := e } := by
        unfold Bus.removeOldest
        split <;> exact ⟨_, rfl⟩
      obtain ⟨e, he⟩ := hb
      rw [he] at hq ⊢
      refine Bus.steady_of_queues b (b.prioQueue ++ [f]) e _ ?_
      unfold Bus.queued at h hq ⊢
      simp only [List.length_append, List.length_singleton] at hq ⊢
      omega
    next => rfl

/-- An egress frame fills a free place or is counted as dropped (R19). -/
@[simp] theorem Bus.offerEgress_steady (b : Bus) (f : TxFrame) : (b.offerEgress f).steady = b.steady := by
  unfold Bus.offerEgress
  split
  next h =>
    have hq : b.queued < 8 := by
      simp only [Bus.takesEgress, Bool.and_eq_true, decide_eq_true_eq] at h
      exact h.2
    rw [Bus.takeUp_steady]
    refine Bus.steady_of_queues b b.prioQueue (b.egressQueue ++ [f]) b.counts.dropped ?_
    unfold Bus.queued at hq ⊢
    simp only [List.length_append, List.length_singleton]
    omega
  next => rfl

@[simp] theorem State.ite_steady (c : Prop) [Decidable c] (s t : State) :
    (if c then s else t).bus.steady = if c then s.bus.steady else t.bus.steady := by
  split <;> rfl

@[simp] theorem State.forEach_steady (s : State) (is : List Nat) (f : Nat → State → State)
    (h : ∀ i t, (f i t).bus.steady = t.bus.steady) : (s.forEach is f).bus.steady = s.bus.steady := by
  unfold State.forEach
  induction is generalizing s with
  | nil => rfl
  | cons i is ih => rw [List.foldl_cons, ih, h]

end Sys2Proof.Machine
end

section
/-! PROOF. Which operations leave the steady part of the interface as it is: all that touch it only by frames offered, notices raised or
single frames counted. Each lemma says for one operation what `Bus.placePriority_steady` and `Bus.offerEgress_steady` say of a frame. -/

namespace Sys2Proof.Machine

/-! ### The setup response and the notices -/

@[simp] theorem offerResponse_steady (f : TxFrame) (s : State) : (offerResponse f s).bus.steady = s.bus.steady := by
  simp [offerResponse]

@[simp] theorem noticeDueAs_steady (i : Ident) (s : State) : (noticeDueAs i s).bus.steady = s.bus.steady := by
  simp [noticeDueAs]

@[simp] theorem noticeDue_steady (s : State) : (noticeDue s).bus.steady = s.bus.steady := by
  simp [noticeDue]

@[simp] theorem noticeDueIfAny_steady (s : State) : (noticeDueIfAny s).bus.steady = s.bus.steady := by
  simp [noticeDueIfAny]

@[simp] theorem raise_steady (c : NoticeClass) (detail : List Byte) (s : State) :
    (raise c detail s).bus.steady = s.bus.steady := by
  simp [raise]

@[simp] theorem admitWaiting_steady (s : State) : (admitWaiting s).bus.steady = s.bus.steady := by
  unfold admitWaiting
  split
  · simp
  · split <;> simp

/-! ### The heater and the fridge -/

@[simp] theorem heaterFails_steady (nodeFault : Bool) (s : State) :
    (heaterFails nodeFault s).bus.steady = s.bus.steady := by
  simp [heaterFails]

@[simp] theorem heaterPhase_steady (s : State) : (heaterPhase s).bus.steady = s.bus.steady := by
  simp only [heaterPhase]
  split <;> simp

@[simp] theorem purgeExpires_steady (s : State) : (purgeExpires s).bus.steady = s.bus.steady := by
  simp only [purgeExpires]
  split <;> simp

@[simp] theorem setProtect_steady (v : Bool) (s : State) : (setProtect v s).bus.steady = s.bus.steady := by
  simp [setProtect]

@[simp] theorem fridgeStop_steady (st : FridgeState) (s : State) : (fridgeStop st s).bus.steady = s.bus.steady := by
  simp [fridgeStop, State.ite_frame]

@[simp] theorem fridgeFault_steady (c : FridgeCause) (s : State) : (fridgeFault c s).bus.steady = s.bus.steady := by
  simp [fridgeFault]

@[simp] theorem fridgeFaultTests_steady (s : State) : (fridgeFaultTests s).bus.steady = s.bus.steady := by
  simp only [fridgeFaultTests]
  repeat' split
  all_goals simp

@[simp] theorem fridgeNews_steady (s : State) : (fridgeNews s).bus.steady = s.bus.steady := by
  simp [fridgeNews]

@[simp] theorem fridgeRefresh_steady (s : State) : (fridgeRefresh s).bus.steady = s.bus.steady := by
  simp [fridgeRefresh]

@[simp] theorem fridgeProtectTest_steady (s : State) : (fridgeProtectTest s).bus.steady = s.bus.steady := by
  unfold fridgeProtectTest
  split <;> simp

@[simp] theorem fridgeMessage_steady (s : State) : (fridgeMessage s).bus.steady = s.bus.steady := by
  simp [fridgeMessage]

@[simp] theorem fridgeNodeLeft_steady (s : State) : (fridgeNodeLeft s).bus.steady = s.bus.steady := by
  simp [fridgeNodeLeft]

@[simp] theorem setFridgeMode_steady (on : Bool) (s : State) : (setFridgeMode on s).bus.steady = s.bus.steady := by
  simp only [setFridgeMode]
  repeat' split
  all_goals simp

@[simp] theorem fridgeSet_steady (v : ℤ) (s : State) : (fridgeSet v s).bus.steady = s.bus.steady := by
  simp [fridgeSet]

@[simp] theorem fridgeTick_steady (surplus : Bool) (s : State) : (fridgeTick surplus s).bus.steady = s.bus.steady := by
  simp [fridgeTick]

@[simp] theorem protectExpires_steady (s : State) : (protectExpires s).bus.steady = s.bus.steady := by
  simp [protectExpires]

/-! ### The rest clock -/

@[simp] theorem raiseRestState_steady (s : State) : (raiseRestState s).bus.steady = s.bus.steady := by
  simp [raiseRestState]

@[simp] theorem judgeStale_steady (s : State) : (judgeStale s).bus.steady = s.bus.steady := by
  simp [judgeStale]

@[simp] theorem checkComplete_steady (s : State) : (checkComplete s).bus.steady = s.bus.steady := by
  simp [checkComplete]

@[simp] theorem openRest_steady (s : State) : (openRest s).bus.steady = s.bus.steady := by
  simp [openRest]

@[simp] theorem confirmRest_steady (s : State) : (confirmRest s).bus.steady = s.bus.steady := by
  simp [confirmRest]

@[simp] theorem closeRest_steady (s : State) : (closeRest s).bus.steady = s.bus.steady := by
  simp [closeRest]

@[simp] theorem restMinute_steady (s : State) : (restMinute s).bus.steady = s.bus.steady := by
  simp [restMinute]

@[simp] theorem activityStored_steady (s : State) : (activityStored s).bus.steady = s.bus.steady := by
  simp [activityStored]

@[simp] theorem activityLost_steady (s : State) : (activityLost s).bus.steady = s.bus.steady := by
  simp [activityLost]

@[simp] theorem restProfile_steady (p : ℕ) (s : State) : (restProfile p s).bus.steady = s.bus.steady := by
  simp [restProfile]

@[simp] theorem repeatExpires_steady (s : State) : (repeatExpires s).bus.steady = s.bus.steady := by
  unfold repeatExpires
  split <;> simp

@[simp] theorem restStartUp_steady (s : State) : (restStartUp s).bus.steady = s.bus.steady := by
  simp only [restStartUp]
  repeat' split
  all_goals simp

/-! ### The roster and the budget tick -/

@[simp] theorem raiseLoadShed_steady (restored : Bool) (i : ℕ) (s : State) :
    (raiseLoadShed restored i s).bus.steady = s.bus.steady := by
  simp [raiseLoadShed]

@[simp] theorem tellGranted_steady (i : ℕ) (s : State) : (tellGranted i s).bus.steady = s.bus.steady := by
  unfold tellGranted
  split <;> simp

@[simp] theorem grant_steady (i : ℕ) (s : State) : (grant i s).bus.steady = s.bus.steady := by
  simp [grant]

@[simp] theorem budgetShed_steady (i : ℕ) (s : State) : (budgetShed i s).bus.steady = s.bus.steady := by
  simp [budgetShed]

@[simp] theorem restore_steady (i : ℕ) (s : State) : (restore i s).bus.steady = s.bus.steady := by
  simp [restore]

@[simp] theorem emergencyOne_steady (i : ℕ) (s : State) : (emergencyOne i s).bus.steady = s.bus.steady := by
  unfold emergencyOne
  split <;> simp

@[simp] theorem emergencyShed_steady (s : State) : (emergencyShed s).bus.steady = s.bus.steady := by
  simp [emergencyShed]

@[simp] theorem protectRestores_steady (s : State) : (protectRestores s).bus.steady = s.bus.steady := by
  simp [protectRestores]

@[simp] theorem grantAll_steady (n : Nat) (is : List Nat) (s : State) :
    (grantAll n is s).bus.steady = s.bus.steady := by
  induction n generalizing is s with
  | zero => rfl
  | succ n ih =>
    unfold grantAll
    split <;> simp [ih]

@[simp] theorem decideSurplus_steady (s : State) : (decideSurplus s).bus.steady = s.bus.steady := by
  simp only [decideSurplus]
  split <;> simp

@[simp] theorem shedStep_steady (d : ℕ) (p : ℕ) (s : State) : (shedStep d p s).bus.steady = s.bus.steady := by
  unfold shedStep
  split <;> simp

@[simp] theorem restoreStep_steady (p : ℕ) (s : State) : (restoreStep p s).bus.steady = s.bus.steady := by
  unfold restoreStep
  split <;> simp

@[simp] theorem decideNormal_steady (d : ℕ) (p : ℕ) (s : State) : (decideNormal d p s).bus.steady = s.bus.steady := by
  simp [decideNormal]
  split <;> simp

@[simp] theorem decideLow_steady (d : ℕ) (p : ℕ) (s : State) : (decideLow d p s).bus.steady = s.bus.steady := by
  simp [decideLow]
  split <;> simp

@[simp] theorem decideTick_steady (m : Mode) (d : ℕ) (p : ℕ) (s : State) :
    (decideTick m d p s).bus.steady = s.bus.steady := by
  unfold decideTick
  split <;> simp

@[simp] theorem readRoster_steady (s : State) : (readRoster s).bus.steady = s.bus.steady := by
  simp [readRoster]

@[simp] theorem budgetTickBody_steady (s : State) : (budgetTickBody s).bus.steady = s.bus.steady := by
  simp [budgetTickBody]

/-! ### The energy accountant -/

@[simp] theorem raiseLevel_steady (l : WatchLevel) (begun : Bool) (s : State) :
    (raiseLevel l begun s).bus.steady = s.bus.steady := by
  simp [raiseLevel]

@[simp] theorem assertLevel_steady (l : WatchLevel) (s : State) : (assertLevel l s).bus.steady = s.bus.steady := by
  simp [assertLevel]

@[simp] theorem clearLevel_steady (l : WatchLevel) (s : State) : (clearLevel l s).bus.steady = s.bus.steady := by
  simp [clearLevel]

@[simp] theorem energyDues_steady (s : State) : (energyDues s).bus.steady = s.bus.steady := by
  simp [energyDues]

@[simp] theorem batteryMessage_steady (i : ℤ) (v : ℕ) (s : State) :
    (batteryMessage i v s).bus.steady = s.bus.steady := by
  simp [batteryMessage]

/-! ### Actions and panels -/

@[simp] theorem perform_steady (code : ℕ) (a : ℤ) (s : State) : (perform code a s).bus.steady = s.bus.steady := by
  unfold perform
  split <;> simp

@[simp] theorem handAction_steady (src : ActionSource) (code : ℕ) (a : ℤ) (s : State) :
    (handAction src code a s).bus.steady = s.bus.steady := by
  unfold handAction
  split <;> simp

@[simp] theorem press_steady (entry : ℕ) (s : State) : (press entry s).bus.steady = s.bus.steady := by
  simp [press]

@[simp] theorem pressTimes_steady (e n : Nat) (s : State) : (pressTimes e n s).bus.steady = s.bus.steady := by
  induction n generalizing s with
  | zero => rfl
  | succ n ih => simp [pressTimes, ih]

@[simp] theorem dispatch_steady (n : ℕ) (old : List ℕ) (new : List ℕ) (s : State) :
    (dispatch n old new s).bus.steady = s.bus.steady := by
  simp [dispatch]

@[simp] theorem panelMessage_steady (p : ℕ) (s : State) : (panelMessage p s).bus.steady = s.bus.steady := by
  simp [panelMessage]
  split <;> simp

/-! ### Signals and the matcher -/

@[simp] theorem tellStored_steady (n : ℕ) (fresh : Bool) (s : State) :
    (tellStored n fresh s).bus.steady = s.bus.steady := by
  unfold tellStored
  split <;> simp

@[simp] theorem tellLost_steady (n : ℕ) (s : State) : (tellLost n s).bus.steady = s.bus.steady := by
  unfold tellLost
  split <;> simp

@[simp] theorem countClamp_steady (s : State) : (countClamp s).bus.steady = s.bus.steady := by
  rfl

@[simp] theorem storeSignal_steady (n : ℕ) (v : ℤ) (s : State) : (storeSignal n v s).bus.steady = s.bus.steady := by
  simp [storeSignal]

@[simp] theorem turnStale_steady (n : ℕ) (s : State) : (turnStale n s).bus.steady = s.bus.steady := by
  simp [turnStale]

@[simp] theorem redefine_steady (n : ℕ) (s : State) : (redefine n s).bus.steady = s.bus.steady := by
  simp [redefine]

@[simp] theorem useValue_steady (e : IngressEntry) (v : ℤ) (s : State) :
    (useValue e v s).bus.steady = s.bus.steady := by
  simp [useValue]

@[simp] theorem matchFrame_steady (f : RxFrame) (s : State) : (matchFrame f s).bus.steady = s.bus.steady := by
  unfold matchFrame
  split
  · rfl
  · split
    · split
      · rfl
      · simp
    · simp

/-! ### The berth loop -/

@[simp] theorem windowEnd_steady (s : State) : (windowEnd s).bus.steady = s.bus.steady := by
  simp [windowEnd]

@[simp] theorem tellLeft_steady (p : ℕ) (s : State) : (tellLeft p s).bus.steady = s.bus.steady := by
  unfold tellLeft
  split <;> simp

@[simp] theorem tellStaleMark_steady (p : ℕ) (s : State) : (tellStaleMark p s).bus.steady = s.bus.steady := by
  unfold tellStaleMark
  split <;> simp

@[simp] theorem tellPresent_steady (p : ℕ) (s : State) : (tellPresent p s).bus.steady = s.bus.steady := by
  unfold tellPresent
  split <;> simp

@[simp] theorem raisePresence_steady (p : ℕ) (s : State) : (raisePresence p s).bus.steady = s.bus.steady := by
  simp [raisePresence]

@[simp] theorem loseNode_steady (st : Presence) (p : ℕ) (s : State) : (loseNode st p s).bus.steady = s.bus.steady := by
  simp [loseNode]

@[simp] theorem gainNode_steady (p : ℕ) (s : State) : (gainNode p s).bus.steady = s.bus.steady := by
  simp [gainNode]

@[simp] theorem loopFails_steady (s : State) : (loopFails s).bus.steady = s.bus.steady := by
  simp [loopFails]

@[simp] theorem tellAccepted_steady (p : ℕ) (old : NodeRec) (s : State) :
    (tellAccepted p old s).bus.steady = s.bus.steady := by
  simp only [tellAccepted]
  repeat' split
  all_goals simp

@[simp] theorem acceptMessage_steady (p : ℕ) (seq : ℕ) (d : Decoded) (s : State) :
    (acceptMessage p seq d s).bus.steady = s.bus.steady := by
  simp [acceptMessage]

@[simp] theorem foreignMessage_steady (p : ℕ) (s : State) : (foreignMessage p s).bus.steady = s.bus.steady := by
  simp [foreignMessage]

@[simp] theorem testMessage_steady (m : ReadyMsg) (s : State) : (testMessage m s).bus.steady = s.bus.steady := by
  unfold testMessage
  split <;> simp

@[simp] theorem takeMessage_steady (s : State) : (takeMessage s).bus.steady = s.bus.steady := by
  unfold takeMessage
  split <;> simp

@[simp] theorem presenceDues_steady (s : State) : (presenceDues s).bus.steady = s.bus.steady := by
  simp [presenceDues]

@[simp] theorem drainReceived_steady (s : State) : (drainReceived s).bus.steady = s.bus.steady := by
  simp [drainReceived]

@[simp] theorem markAllStale_steady (s : State) : (markAllStale s).bus.steady = s.bus.steady := by
  simp only [markAllStale]
  rw [State.forEach_steady]
  · simp
  · intro i t
    simp

@[simp] theorem loseSync_steady (toSearch : Bool) (s : State) : (loseSync toSearch s).bus.steady = s.bus.steady := by
  simp [loseSync]

@[simp] theorem enterInSync_steady (c : Candidate) (s : State) : (enterInSync c s).bus.steady = s.bus.steady := by
  simp [enterInSync]
  split <;> simp

@[simp] theorem confirmBit_steady (i : ℕ) (b : Bool) (c : Candidate) (s : State) :
    (confirmBit i b c s).bus.steady = s.bus.steady := by
  simp only [confirmBit]
  repeat' split
  all_goals simp

@[simp] theorem markerBit_steady (b : Bool) (s : State) : (markerBit b s).bus.steady = s.bus.steady := by
  simp [markerBit]

@[simp] theorem syncBit_steady (i : ℕ) (b : Bool) (s : State) : (syncBit i b s).bus.steady = s.bus.steady := by
  simp [syncBit]

@[simp] theorem receiveBit_steady (i : ℕ) (b : Bool) (s : State) : (receiveBit i b s).bus.steady = s.bus.steady := by
  simp [receiveBit]
  split <;> simp

@[simp] theorem receiveRound_steady (bits : BitVec 121) (s : State) :
    (receiveRound bits s).bus.steady = s.bus.steady := by
  simp [receiveRound]

@[simp] theorem reframe_steady (s : State) : (reframe s).bus.steady = s.bus.steady := by
  simp [reframe]

@[simp] theorem loopWake_steady (s : State) : (loopWake s).bus.steady = s.bus.steady := by
  simp [loopWake]

@[simp] theorem resetPosition_steady (p : ℕ) (k : NodeKind) (s : State) :
    (resetPosition p k s).bus.steady = s.bus.steady := by
  simp [resetPosition]

/-! ### The egress scheduler -/

@[simp] theorem onChange_steady (i : ℕ) (s : State) : (onChange i s).bus.steady = s.bus.steady := by
  simp [onChange]

@[simp] theorem passOver_steady (is : List Nat) (s : State) : (passOver is s).bus.steady = s.bus.steady := by
  induction is generalizing s with
  | nil => simp [passOver]
  | cons i is ih => simp [passOver, ih]

@[simp] theorem countdownExpires_steady (s : State) : (countdownExpires s).bus.steady = s.bus.steady := by
  unfold countdownExpires
  split <;> simp

/-! ### Commits -/

@[simp] theorem commitBus_steady (e : Entry) (s : State) : (commitBus e s).bus.steady = s.bus.steady := by
  simp [commitBus]

@[simp] theorem commitClimate_steady (e : Entry) (s : State) : (commitClimate e s).bus.steady = s.bus.steady := by
  simp [commitClimate]

@[simp] theorem commitNodeMap_steady (p : ℕ) (e : Entry) (s : State) :
    (commitNodeMap p e s).bus.steady = s.bus.steady := by
  simp [commitNodeMap]

@[simp] theorem tellEntry_steady (i : ℕ) (s : State) : (tellEntry i s).bus.steady = s.bus.steady := by
  unfold tellEntry
  split <;> simp

@[simp] theorem commitRoster_steady (i : ℕ) (e : Entry) (s : State) :
    (commitRoster i e s).bus.steady = s.bus.steady := by
  simp [commitRoster]

@[simp] theorem commitEntry_steady (t : ℕ) (i : ℕ) (e : Entry) (s : State) :
    (commitEntry t i e s).bus.steady = s.bus.steady := by
  unfold commitEntry
  split <;> simp

/-! ### The store, the power states and start-up -/

@[simp] theorem saveEnds_steady (good : Bool) (s : State) : (saveEnds good s).bus.steady = s.bus.steady := by
  simp [saveEnds]

@[simp] theorem lockWriteEnds_steady (good : Bool) (s : State) : (lockWriteEnds good s).bus.steady = s.bus.steady := by
  simp [lockWriteEnds]

@[simp] theorem canActivity_steady (s : State) : (canActivity s).bus.steady = s.bus.steady := by
  simp [canActivity]

@[simp] theorem quietExpires_steady (s : State) : (quietExpires s).bus.steady = s.bus.steady := by
  simp [quietExpires]

@[simp] theorem signalsWake_steady (s : State) : (signalsWake s).bus.steady = s.bus.steady := by
  simp [signalsWake]

@[simp] theorem wake_steady (st : PowerState) (s : State) : (wake st s).bus.steady = s.bus.steady := by
  simp [wake]

@[simp] theorem minutePasses_steady (s : State) : (minutePasses s).bus.steady = s.bus.steady := by
  simp [minutePasses]

@[simp] theorem blocksStartUp_steady (s : State) : (blocksStartUp s).bus.steady = s.bus.steady := by
  simp [blocksStartUp]

@[simp] theorem openReception_steady (s : State) : (openReception s).bus.steady = s.bus.steady := by
  simp [openReception]

@[simp] theorem startUpWith_steady (d : StoreDamage) (s : State) : (startUpWith d s).bus.steady = s.bus.steady := by
  simp [startUpWith]

/-! ### The steps that follow, and commands -/

@[simp] theorem signalStaleStep_steady (n : ℕ) (s : State) : (signalStaleStep n s).bus.steady = s.bus.steady := by
  simp [signalStaleStep]

@[simp] theorem admissionStep_steady (s : State) : (admissionStep s).bus.steady = s.bus.steady := by
  simp [admissionStep]

@[simp] theorem loopFailedStep_steady (s : State) : (loopFailedStep s).bus.steady = s.bus.steady := by
  simp [loopFailedStep]

@[simp] theorem windowEndStep_steady (s : State) : (windowEndStep s).bus.steady = s.bus.steady := by
  simp [windowEndStep]

@[simp] theorem statusMessageStep_steady (s : State) : (statusMessageStep s).bus.steady = s.bus.steady := by
  simp [statusMessageStep]

@[simp] theorem nodePresentStep_steady (p : ℕ) (s : State) : (nodePresentStep p s).bus.steady = s.bus.steady := by
  simp [nodePresentStep]

@[simp] theorem nodeLostStep_steady (p : ℕ) (s : State) : (nodeLostStep p s).bus.steady = s.bus.steady := by
  simp [nodeLostStep]

@[simp] theorem levelAssertStep_steady (l : WatchLevel) (s : State) :
    (levelAssertStep l s).bus.steady = s.bus.steady := by
  simp [levelAssertStep]

@[simp] theorem levelClearStep_steady (l : WatchLevel) (s : State) :
    (levelClearStep l s).bus.steady = s.bus.steady := by
  simp [levelClearStep]

@[simp] theorem egressSettle_steady (n : Nat) (s : State) : (egressSettle n s).bus.steady = s.bus.steady := by
  induction n generalizing s with
  | zero => rfl
  | succ n ih => simp [egressSettle, ih]

@[simp] theorem dueSteps_steady (s : State) : (dueSteps s).bus.steady = s.bus.steady := by
  simp [dueSteps]

@[simp] theorem ignitionExpires_steady (s : State) : (ignitionExpires s).bus.steady = s.bus.steady := by
  simp [ignitionExpires]

@[simp] theorem noticeRepeatExpires_steady (s : State) : (noticeRepeatExpires s).bus.steady = s.bus.steady := by
  simp [noticeRepeatExpires]

@[simp] theorem receivedRound_steady (bits : BitVec 121) (s : State) :
    (receivedRound bits s).bus.steady = s.bus.steady := by
  simp [receivedRound]

@[simp] theorem budgetTick_steady (s : State) : (budgetTick s).bus.steady = s.bus.steady := by
  simp [budgetTick]

@[simp] theorem canWakes_steady (s : State) : (canWakes s).bus.steady = s.bus.steady := by
  simp [canWakes]

@[simp] theorem wakeLine_steady (e : WakeEdge) (s : State) : (wakeLine e s).bus.steady = s.bus.steady := by
  simp [wakeLine]

end Sys2Proof.Machine
end

section
/-! PROOF. The operations that keep the receive queue and the transmit queue within their places (R3, R19). -/

namespace Sys2Proof.Machine

/-! ### Setup requests -/

@[simp] theorem dropStaging_steady (s : State) : (dropStaging s).bus.steady = s.bus.steady := rfl

@[simp] theorem tryCommit_steady (c : Cursor) (parts : List (List Byte)) (s : State) :
    (tryCommit c parts s).2.bus.steady = s.bus.steady := by
  simp only [tryCommit]
  split
  · rfl
  · split <;> simp

@[simp] theorem stagePart_steady (c : Cursor) (parts : List (List Byte)) (s : State) :
    (stagePart c parts s).2.bus.steady = s.bus.steady := by
  unfold stagePart
  split <;> simp

@[simp] theorem wrpDecide_steady (c : Cursor) (part : Nat) (b : List Byte) (s : State) :
    (wrpDecide c part b s).2.bus.steady = s.bus.steady := by
  unfold wrpDecide
  repeat' split
  all_goals simp

@[simp] theorem selRequest_steady (d : List Byte) (s : State) : (selRequest d s).state.bus.steady = s.bus.steady := by
  simp only [selRequest]
  split <;> rfl

@[simp] theorem wrpRequest_steady (d : List Byte) (s : State) : (wrpRequest d s).state.bus.steady = s.bus.steady := by
  unfold wrpRequest
  split <;> simp

@[simp] theorem rdpRequest_steady (d : List Byte) (s : State) : (rdpRequest d s).state.bus.steady = s.bus.steady := by
  simp only [rdpRequest]
  repeat' split
  all_goals simp

@[simp] theorem whenIdle_steady (s : State) (a : Answer) (h : a.state.bus.steady = s.bus.steady) :
    (whenIdle s a).state.bus.steady = s.bus.steady := by
  unfold whenIdle
  split
  · rfl
  · exact h

@[simp] theorem savRequest_steady (s : State) : (savRequest s).state.bus.steady = s.bus.steady :=
  whenIdle_steady _ _ rfl

@[simp] theorem lckRequest_steady (s : State) : (lckRequest s).state.bus.steady = s.bus.steady := by
  unfold lckRequest
  apply whenIdle_steady
  repeat' split
  all_goals rfl

@[simp] theorem defRequest_steady (s : State) : (defRequest s).state.bus.steady = s.bus.steady := by
  simp [defRequest]

@[simp] theorem rstRequest_steady (s : State) : (rstRequest s).state.bus.steady = s.bus.steady := by
  simp [rstRequest]

@[simp] theorem clrRequest_steady (d : List Byte) (s : State) : (clrRequest d s).state.bus.steady = s.bus.steady := by
  simp [clrRequest]

@[simp] theorem actRequest_steady (d : List Byte) (s : State) : (actRequest d s).state.bus.steady = s.bus.steady := by
  simp only [actRequest]
  split
  · rfl
  · split <;> simp

@[simp] theorem staRequest_steady (d : List Byte) (s : State) : (staRequest d s).state.bus.steady = s.bus.steady := by
  simp only [staRequest]
  repeat' split
  all_goals rfl

/-- A request taken and answered leaves the interface as the frame's leaving does (R184). -/
theorem answer_steady (r : Bool) (d : List Byte) (f : State → Answer) (s : State)
    (hf : ∀ t, (f t).state.bus.steady = t.bus.steady) :
    (answer r d f s).bus.steady = (dropReceived s).bus.steady := by
  simp only [answer, offerResponse_steady]
  split
  · split
    · rfl
    · exact hf _
  · rfl

/-! ### Operations that keep the queues within their places -/

/-- An operation that leaves the two queues within their places where it finds them so. -/
def KeepsPlaces (f : State → State) : Prop := ∀ s, s.bus.Bounded → (f s).bus.Bounded

theorem KeepsPlaces.of_steady {f : State → State} (h : ∀ s, (f s).bus.steady = s.bus.steady) : KeepsPlaces f :=
  fun s hs => hs.of_steady (h s)

theorem KeepsPlaces.comp {f g : State → State} (hf : KeepsPlaces f) (hg : KeepsPlaces g) : KeepsPlaces fun s => f (g s) :=
  fun s hs => hf _ (hg s hs)

theorem KeepsPlaces.ite {f g : State → State} (c : State → Prop) [DecidablePred c] (hf : KeepsPlaces f) (hg : KeepsPlaces g) :
    KeepsPlaces fun s => if c s then f s else g s := by
  intro s hs
  dsimp only
  split
  · exact hf s hs
  · exact hg s hs

theorem KeepsPlaces.whenRuns {f : State → State} (t : State → Option Nat) (hf : KeepsPlaces f) :
    KeepsPlaces fun s => whenRuns (t s) f s :=
  KeepsPlaces.ite _ hf fun _ h => h

/-- A change of the interface that adds to no queue. -/
theorem KeepsPlaces.modBus {g : Bus → Bus}
    (hr : ∀ b, (g b).rxQueue.length ≤ b.rxQueue.length) (hq : ∀ b, (g b).queued ≤ b.queued) :
    KeepsPlaces fun s => s.modBus g := by
  rintro s ⟨h16, h8⟩
  exact ⟨(hr _).trans h16, (hq _).trans h8⟩

theorem dropReceived_keepsPlaces : KeepsPlaces dropReceived :=
  KeepsPlaces.modBus (fun b => by simp) fun _ => le_rfl

theorem offerReceived_keepsPlaces (f : RxFrame) : KeepsPlaces (offerReceived f) := by
  rintro s ⟨h16, h8⟩
  unfold offerReceived
  split
  next h => exact ⟨by simp only [State.modBus_bus, List.length_append, List.length_singleton]; omega, h8⟩
  next => exact ⟨h16, h8⟩

theorem frameReceived_keepsPlaces (f : CanFrame) : KeepsPlaces (frameReceived f) := by
  have hact : KeepsPlaces fun s => canActivity (s.modBus fun b => { b with rxErrors := b.rxErrors - 1 }) :=
    (KeepsPlaces.of_steady canActivity_steady).comp (KeepsPlaces.modBus (fun _ => le_rfl) fun _ => le_rfl)
  intro s hs
  simp only [frameReceived]
  split
  · split
    · exact offerReceived_keepsPlaces _ _ (hact s hs)
    · exact hact s hs
  · exact hs

theorem ingressTakes_keepsPlaces : KeepsPlaces ingressTakes := by
  intro s hs
  unfold ingressTakes
  split
  · split
    · exact (KeepsPlaces.of_steady (matchFrame_steady _)) _ (dropReceived_keepsPlaces s hs)
    · exact hs
  · exact hs

theorem Bus.sent_le (b : Bus) : b.sent.rxQueue.length ≤ b.rxQueue.length ∧ b.sent.queued ≤ b.queued := by
  unfold Bus.sent
  split
  · simp [Bus.queued]
  · simp [Bus.queued]
  · exact ⟨le_rfl, le_rfl⟩

theorem Bus.sendFailed_le (e : Bool) (b : Bus) :
    (b.sendFailed e).rxQueue.length ≤ b.rxQueue.length ∧ (b.sendFailed e).queued ≤ b.queued := by
  unfold Bus.sendFailed
  split <;> exact ⟨le_rfl, le_rfl⟩

theorem goOff_keepsPlaces : KeepsPlaces fun s => s.modBus Bus.goOff :=
  KeepsPlaces.modBus (fun _ => le_rfl) fun _ => Nat.add_le_add_left (Nat.zero_le _) _

theorem transmitted_keepsPlaces : KeepsPlaces transmitted := by
  intro s hs
  have h := KeepsPlaces.modBus (fun b => b.sent_le.1) (fun b => b.sent_le.2) s hs
  simp only [transmitted]
  split
  · split <;> exact h
  · exact hs

theorem sendFailed_keepsPlaces (e : Bool) : KeepsPlaces fun s => s.modBus (·.sendFailed e) :=
  KeepsPlaces.modBus (fun b => (b.sendFailed_le e).1) fun b => (b.sendFailed_le e).2

theorem goBusOff_keepsPlaces : KeepsPlaces goBusOff := KeepsPlaces.ite _ goOff_keepsPlaces fun _ h => h

theorem busOffStep_keepsPlaces : KeepsPlaces busOffStep := KeepsPlaces.ite _ goOff_keepsPlaces fun _ h => h

theorem rejoinBus_keepsPlaces : KeepsPlaces rejoinBus :=
  KeepsPlaces.ite _ (KeepsPlaces.modBus (fun b => by simp [Bus.rejoin]) fun b => by simp [Bus.rejoin, Bus.queued])
    fun _ h => h

@[simp] theorem enterStandby_bus (s : State) : (enterStandby s).bus = s.bus.sleep := by
  simp [enterStandby]

theorem enterStandby_keepsPlaces : KeepsPlaces enterStandby := by
  intro s _
  rw [enterStandby_bus]
  exact ⟨Nat.zero_le _, Nat.zero_le _⟩

theorem standbyExpires_keepsPlaces : KeepsPlaces standbyExpires :=
  KeepsPlaces.ite (fun s => (qualify s).power.standbyTimer.isSome = true) enterStandby_keepsPlaces fun _ h => h

theorem discardNoTag_keepsPlaces : KeepsPlaces discardNoTag := by
  intro s hs
  unfold discardNoTag
  split
  · split
    · exact dropReceived_keepsPlaces s hs
    · exact hs
  · exact hs

theorem answer_keepsPlaces (r : Bool) (d : List Byte) {f : State → Answer}
    (hf : ∀ t, (f t).state.bus.steady = t.bus.steady) : KeepsPlaces (answer r d f) :=
  fun s hs => (dropReceived_keepsPlaces s hs).of_steady (answer_steady r d f s hf)

theorem answerUnknown_keepsPlaces : KeepsPlaces answerUnknown := by
  intro s hs
  unfold answerUnknown
  split
  · split
    · exact answer_keepsPlaces false _ (fun _ => rfl) s hs
    · exact hs
  · exact hs

theorem onRequest_keepsPlaces (code : Nat) (r : Bool) {f : List Byte → State → Answer}
    (hf : ∀ d t, (f d t).state.bus.steady = t.bus.steady) : KeepsPlaces (onRequest code r f) := by
  intro s hs
  unfold onRequest
  split
  · split
    · exact answer_keepsPlaces r _ (hf _) s hs
    · exact hs
  · exact hs

/-! ### Resets, settling and passing seconds -/

@[simp] theorem resetWith_bus (c : ResetCause) (s : State) : (resetWith c s).bus = Bus.init := rfl

theorem resetWith_keepsPlaces (c : ResetCause) : KeepsPlaces (resetWith c) :=
  fun _ _ => ⟨Nat.zero_le _, Nat.zero_le _⟩

theorem restartNow_keepsPlaces : KeepsPlaces restartNow := by
  intro s hs
  unfold restartNow
  split
  · exact resetWith_keepsPlaces _ s hs
  · exact hs

theorem settle_keepsPlaces : KeepsPlaces settle := by
  intro s hs
  unfold settle
  split
  · exact hs
  · split
    · exact restartNow_keepsPlaces s hs
    · exact (busOffStep_keepsPlaces s hs).of_steady (by simp)

theorem external_keepsPlaces {f : State → State} (hf : KeepsPlaces f) : KeepsPlaces (external f) := by
  intro s hs
  have h := settle_keepsPlaces s hs
  simp only [external]
  split
  · exact h
  · simpa using hf _ h

theorem internal_keepsPlaces {f : State → State} (hf : KeepsPlaces f) : KeepsPlaces (internal f) := by
  intro s hs
  unfold internal
  split
  · exact hs
  · simpa using hf s hs

/-- One of the expiries that a passing second may bring: the operation, where its timer is found at its limit. -/
def expireIf (c : State → Bool) (f : State → State) (s : State) : State := if c s then f s else s

/-- The expiries of a passing second from the surge limit to the quiet timer, in the order of `secondPasses`; `protecting` says that the
protect timer was counting. -/
def timersExpire (protecting : Bool) (s : State) : State :=
  expireIf (fun t => reached 10 t.power.quietTimer) quietExpires <|
  expireIf (fun t => reached 1 t.notices.repeatTimer) noticeRepeatExpires <|
  expireIf (fun t => reached t.rest.repeatLimit t.rest.repeatTimer) (fun t => qualify (repeatExpires t)) <|
  expireIf (fun t => protecting && reached 600 t.fridge.protectTimer) (fun t => qualify (protectExpires t)) <|
  expireIf (fun t => reached 180 t.fridge.minOff) (fun t => qualify (minimumOffExpires t)) <|
  expireIf (fun t => reached 60 t.fridge.minOn) (fun t => qualify (minimumOnExpires t)) <|
  expireIf (fun t => reached 2 t.fridge.surgeHold) (fun t => qualify (surgeHoldExpires t)) <|
  expireIf (fun t => reached 60 t.heater.levelHold) (fun t => qualify (levelHoldExpires t)) <|
  expireIf (fun t => reached 240 t.heater.purge) (fun t => qualify (purgeExpires t)) <|
  expireIf (fun t => reached 150 t.heater.ignition) (fun t => qualify (ignitionExpires t)) <|
  expireIf (fun t => t.roster.holder.any fun h => decide (h.limit ≤ h.elapsed)) (fun t => qualify (surgeLimitExpires t)) s

/-- The part after one second has been counted and, in bus-off, the bus rejoined. -/
def secondCounted (s : State) : State := expireIf (fun _ => s.bus.busOff) rejoinBus (countSecond (roundEnds s))

/-- The part after the second's expiries, before an arranged restart. -/
def secondExpired (s : State) : State :=
  expireIf (fun t => reached 60 t.power.standbyTimer) enterStandby (qualify (timersExpire s.protectRuns (secondCounted s)))

/-- A passing second: counting, then the expiries, then an arranged restart. -/
theorem secondPasses_eq (s : State) :
    secondPasses s = expireIf (fun _ => s.setup.restart.isSome) restartNow (secondExpired s) := rfl

theorem expireIf_of_false {c : State → Bool} {s : State} (h : c s = false) (f : State → State) : expireIf c f s = s := by
  simp [expireIf, h]

theorem expireIf_of_true {c : State → Bool} {s : State} (h : c s = true) (f : State → State) : expireIf c f s = f s := by
  simp [expireIf, h]

@[simp] theorem expireIf_steady (c : State → Bool) (f : State → State) (s : State)
    (h : ∀ t, (f t).bus.steady = t.bus.steady) : (expireIf c f s).bus.steady = s.bus.steady := by
  unfold expireIf
  split
  · exact h s
  · rfl

theorem expireIf_keepsPlaces (c : State → Bool) {f : State → State} (hf : KeepsPlaces f) : KeepsPlaces (expireIf c f) :=
  KeepsPlaces.ite _ hf fun _ h => h

@[simp] theorem timersExpire_steady (protecting : Bool) (s : State) :
    (timersExpire protecting s).bus.steady = s.bus.steady := by
  simp [timersExpire]

theorem secondPasses_keepsPlaces : KeepsPlaces secondPasses := by
  intro s hs
  rw [secondPasses_eq]
  refine expireIf_keepsPlaces _ restartNow_keepsPlaces _ ?_
  refine expireIf_keepsPlaces _ enterStandby_keepsPlaces _ ?_
  have hcounted : (secondCounted s).bus.Bounded :=
    expireIf_keepsPlaces _ rejoinBus_keepsPlaces _ (by simpa using hs)
  exact hcounted.of_steady (by simp)

end Sys2Proof.Machine
end

section
/-! PROOF. No command and no passing second puts more frames into a queue of the interface than it has places (O9). -/

namespace Sys2Proof.Machine

theorem bounded_of_next {t u : State} (h : u.bus.Bounded) (he : (.next u : Host.Outcome State Fault Refusal) = .next t) :
    t.bus.Bounded := by
  cases he
  exact h

@[simp] theorem whenRuns_steady (t : Option Nat) (f : State → State) (s : State) (h : ∀ s, (f s).bus.steady = s.bus.steady) :
    (whenRuns t f s).bus.steady = s.bus.steady := by
  unfold whenRuns
  split
  · exact h s
  · rfl

theorem startUp_keepsPlaces (d : StoreDamage) :
    KeepsPlaces fun s => if s.phase = .held then qualify (startUpWith d s) else s :=
  .of_steady fun s => by simp

/-- Every command keeps the two queues of the cab bus interface within their places. -/
theorem exec_bounded (c : Instr) (s t : State) (hs : s.bus.Bounded) (ht : exec c s = .next t) : t.bus.Bounded := by
  have request (code : Nat) (r : Bool) (f : List Byte → State → Answer)
      (hf : ∀ d t, (f d t).state.bus.steady = t.bus.steady) := external_keepsPlaces (onRequest_keepsPlaces code r hf) s hs
  cases c with
  | frameReceived f =>
    by_cases hf : f.wellFormed
    · simp only [exec, execFrameReceived, hf, if_true] at ht
      exact bounded_of_next (external_keepsPlaces (frameReceived_keepsPlaces f) s hs) ht
    · simp [exec, execFrameReceived, hf] at ht
  | ingressMatch => exact bounded_of_next (external_keepsPlaces ingressTakes_keepsPlaces s hs) ht
  | setupNoTag => exact bounded_of_next (external_keepsPlaces discardNoTag_keepsPlaces s hs) ht
  | unknownRequest => exact bounded_of_next (external_keepsPlaces answerUnknown_keepsPlaces s hs) ht
  | idReq => exact bounded_of_next (request _ _ _ fun _ _ => rfl) ht
  | selReq => exact bounded_of_next (request _ _ _ selRequest_steady) ht
  | wrpReq => exact bounded_of_next (request _ _ _ wrpRequest_steady) ht
  | rdpReq => exact bounded_of_next (request _ _ _ rdpRequest_steady) ht
  | savReq => exact bounded_of_next (request _ _ _ fun _ => savRequest_steady) ht
  | defReq => exact bounded_of_next (request _ _ _ fun _ => defRequest_steady) ht
  | lckReq => exact bounded_of_next (request _ _ _ fun _ => lckRequest_steady) ht
  | clrReq => exact bounded_of_next (request _ _ _ clrRequest_steady) ht
  | actReq => exact bounded_of_next (request _ _ _ actRequest_steady) ht
  | rfrReq => exact bounded_of_next (request _ _ _ fun _ => reframe_steady) ht
  | rstReq => exact bounded_of_next (request _ _ _ fun _ => rstRequest_steady) ht
  | staReq => exact bounded_of_next (request _ _ _ staRequest_steady) ht
  | restartTrigger => exact bounded_of_next (internal_keepsPlaces restartNow_keepsPlaces s hs) ht
  | frameTransmitted => exact bounded_of_next (external_keepsPlaces transmitted_keepsPlaces s hs) ht
  | transmitError busError => exact bounded_of_next (external_keepsPlaces (sendFailed_keepsPlaces busError) s hs) ht
  | busOff => exact bounded_of_next (internal_keepsPlaces goBusOff_keepsPlaces s hs) ht
  | busOffRecovery => exact bounded_of_next (external_keepsPlaces rejoinBus_keepsPlaces s hs) ht
  | standbyEntry => exact bounded_of_next (external_keepsPlaces standbyExpires_keepsPlaces s hs) ht
  | reset c => exact bounded_of_next (resetWith_keepsPlaces c s hs) ht
  | startUp d => exact bounded_of_next (startUp_keepsPlaces d s hs) ht
  | signalStale | egressCountdownExpiry | priorityFrameAdmitted | batteryBlindSet | loopFailedAssert | errorWindowEnd
  | commandStall | receivedCycleEnd | statusMessage | nodePresent | nodeLost | estimateWindowClose | levelAssert
  | levelClear | fullChargeEvent | manualLimitExpiry | preheatWindowClose =>
    exact bounded_of_next (internal_keepsPlaces (.of_steady fun t => by simp) s hs) ht
  | saveComplete | lockWriteComplete | signalAgeTick | egressPass | transmitCycle | receivedRound | budgetTick
  | surgeLimitExpiry | ignitionTimeout | purgeLimit | levelHoldExpiry | minimumOnExpiry | minimumOffExpiry
  | surgeHoldExpiry | protectTimerExpiry | minuteTick | repeatTimerExpiry | noticeRepeat | quietTimerExpiry | canWake
  | wakeLineEdge =>
    exact bounded_of_next (external_keepsPlaces (.of_steady fun t => by simp) s hs) ht

/-- Settles O9: the places are kept by every command, and by the second that an empty queue lets pass. -/
theorem busQueuesStayBounded : Obligations.BusQueuesStayBounded := by
  intro s t hs ht
  cases hp : s.pending with
  | nil =>
    simp only [step, hp] at ht
    exact bounded_of_next (external_keepsPlaces secondPasses_keepsPlaces s hs) ht
  | cons c rest =>
    simp only [step, hp] at ht
    exact exec_bounded c { s with pending := rest } t hs ht

end Sys2Proof.Machine
end

section
/-! PROOF. Frames received, matched and stored, and the ages of the signals (O21, O22, O24, O25). -/

namespace Sys2Proof.Machine

/-! ### Scaling (R7) -/

/-- A clamp to a range that is not empty, as a maximum and a minimum. -/
theorem clampI_eq_max_min {lo hi : Int} (h : lo ≤ hi) (x : Int) : clampI lo hi x = max lo (min hi x) := by
  unfold clampI
  split
  · omega
  · split <;> omega

/-- Settles O24: saturation is a clamp to the 32-bit range; the manual's two examples are worked out. -/
theorem scalingTruncates : Obligations.ScalingTruncates := by
  refine ⟨fun e raw => clampI_eq_max_min (by decide) _, ?_, ?_⟩
  · intro e hs hw hm hd ho
    have hx : signed 8 0xF9 = -7 := by decide
    simp only [IngressEntry.scale, hs, hw, hm, hd, ho, hx, if_true]
    decide
  · intro e hs hm hd ho
    simp only [IngressEntry.scale, hs, hm, hd, ho, Bool.false_eq_true, if_false]
    decide

/-! ### Ages (R13) -/

theorem State.Ready.awake {s : State} (h : s.Ready) : s.awake = true := by
  simp [State.awake, h.1.1, h.2]

theorem SignalRec.tick_eq (r : SignalRec) :
    r.tick = if r.quality = .none then r else { r with age := min 65535 (r.age + 1) } := by
  unfold SignalRec.tick
  cases r.quality <;> rfl

theorem ageTick_of_awake {s : State} (h : s.awake = true) :
    ageTick s = { s with
      signals := s.signals.map fun r => if r.quality = .none then r else { r with age := min 65535 (r.age + 1) } } := by
  have ht : SignalRec.tick = fun r => if r.quality = .none then r else { r with age := min 65535 (r.age + 1) } :=
    funext SignalRec.tick_eq
  simp only [ageTick, h, if_true, ht]
  rfl

@[simp] theorem tellLost_signals (n : Nat) (s : State) : (tellLost n s).signals = (takeMark n s).signals := by
  unfold tellLost
  split <;> simp

/-- What a signal reads as after a change of one record. -/
theorem State.signal_modSignal (n m : Nat) (f : SignalRec → SignalRec) (s : State) :
    (s.modSignal n f).signal m = if n = m ∧ m < s.signals.length then f (s.signal m) else s.signal m := by
  by_cases hm : m < s.signals.length
  · by_cases hn : n = m
    · simp [State.signal, State.modSignal, hm, hn]
    · simp [State.signal, State.modSignal, hm, hn]
  · simp [State.signal, State.modSignal, hm]

/-- A signal that holds a quality stands in the store. -/
theorem State.signal_lt_of_fresh {n : Nat} {s : State} (h : (s.signal n).quality = .fresh) : n < s.signals.length := by
  by_contra hn
  simp [State.signal, SignalRec.init, Nat.not_lt.mp hn] at h

theorem takeMark_signal_ne {n m : Nat} (h : m ≠ n) (s : State) : (takeMark n s).signal m = s.signal m := by
  unfold takeMark
  split
  · simp [State.signal_modSignal, h.symm]
  · rfl

/-- A mark taken leaves the value, the quality and the age (R14). -/
theorem takeMark_signal_self (n : Nat) (s : State) :
    ((takeMark n s).signal n).value = (s.signal n).value ∧ ((takeMark n s).signal n).quality = (s.signal n).quality ∧
      ((takeMark n s).signal n).age = (s.signal n).age := by
  unfold takeMark
  split
  · rw [State.signal_modSignal]
    split <;> exact ⟨rfl, rfl, rfl⟩
  · exact ⟨rfl, rfl, rfl⟩

theorem tellLost_signal (n m : Nat) (s : State) : (tellLost n s).signal m = (takeMark n s).signal m := by
  simp [State.signal]

/-- A FRESH record turned STALE keeps its value and its age, and every other record is as it was (R13). -/
theorem turnStale_signal {n : Nat} {s : State} (h : (s.signal n).quality = .fresh) :
    ((turnStale n s).signal n).quality = .stale ∧ ((turnStale n s).signal n).value = (s.signal n).value ∧
      ((turnStale n s).signal n).age = (s.signal n).age ∧ ∀ m, m ≠ n → (turnStale n s).signal m = s.signal m := by
  have hmod : (s.modSignal n fun r => { r with quality := .stale }).signal n = { s.signal n with quality := .stale } := by
    rw [State.signal_modSignal, if_pos ⟨rfl, State.signal_lt_of_fresh h⟩]
  obtain ⟨hv, hq, ha⟩ := takeMark_signal_self n (s.modSignal n fun r => { r with quality := .stale })
  rw [hmod] at hv hq ha
  simp only [turnStale, h, if_true, tellLost_signal]
  refine ⟨hq, hv, ha, fun m hm => ?_⟩
  rw [takeMark_signal_ne hm, State.signal_modSignal, if_neg fun hn => hm hn.1.symm]

theorem turnStale_onlyIn (n : Nat) (s : State) :
    s.OnlyIn [.bus, .signals, .panel, .roster, .heater, .fridge, .lights, .rest, .notices, .power, .ret] (turnStale n s) := by
  intro b hb
  cases b <;> simp_all [Block.Same]

/-- `qualify` leaves every block but the power states. -/
theorem qualify_signal (n : Nat) (s : State) : (qualify s).signal n = s.signal n := by
  simp [State.signal]

theorem exec_signalAgeTick (s : State) : exec .signalAgeTick s = .next (external ageTick s) := rfl

theorem exec_signalStale (n : Fin 32) (s : State) :
    exec (.signalStale n) s = .next (internal (signalStaleStep n.val) s) := rfl

/-- Settles O25: an age tick is `SignalRec.tick` of every record; SIGNAL_STALE of a due record is `turnStale`. -/
theorem signalsAge : Obligations.SignalsAge := by
  refine ⟨fun s hs => ?_, fun n s hrun hfresh hlimit hage => ?_⟩
  · rw [exec_signalAgeTick, external_settled hs.1, ageTick_of_awake hs.awake]
  · have hdue : s.staleDue n.val = true := by simp [State.staleDue, hfresh, hlimit, hage]
    have he : exec (.signalStale n) s = .next (qualify (qualify (turnStale n.val s))) := by
      rw [exec_signalStale, internal_running hrun, signalStaleStep, if_pos hdue]
    obtain ⟨hq, hv, ha, hm⟩ := turnStale_signal hfresh
    refine ⟨_, he, ?_⟩
    simp only [qualify_signal]
    exact ⟨hq, hv, ha, hm, ((turnStale_onlyIn n.val s).qualify (by simp)).qualify (by simp)⟩

/-! ### Frames received (R1, R3, R199) -/

theorem exec_frameReceived {f : CanFrame} (h : f.wellFormed = true) (s : State) :
    exec (.frameReceived f) s = .next (external (frameReceived f) s) := by
  simp [exec, execFrameReceived, h]

/-- Off the awake states or in bus-off the receiver is off. -/
theorem frameReceived_deaf {s : State} (h : s.power.state = .standby ∨ s.bus.busOff = true) (f : CanFrame) :
    frameReceived f s = s := by
  unfold frameReceived
  rcases h with h | h <;> simp [State.awake, h]

/-- A correct reception counted by the interface, and reported as activity (R199, assumption 8). -/
def receptionReported (s : State) : State := canActivity (s.modBus fun b => { b with rxErrors := b.rxErrors - 1 })

/-- A frame received awake and off the bus-off state: only an extended data frame is looked at further (R1). -/
theorem frameReceived_awake {s : State} (ha : s.awake = true) (hb : s.bus.busOff = false) (f : CanFrame) :
    frameReceived f s =
      if f.extended = true ∧ f.remote = false then offerReceived { ident := f.ident, data := f.data } (receptionReported s)
      else receptionReported s := by
  simp [frameReceived, receptionReported, ha, hb]

/-- Activity in RUN restarts the quiet timer and does nothing else (R199). -/
theorem canActivity_run {s : State} (h : s.power.state = .run) :
    canActivity s = { s with power := { s.power with quietTimer := some 0 } } := by
  simp [canActivity, h, State.modPower]

/-- A notice frame that falls due leaves the flags and their details (R198). -/
theorem noticeDueIfAny_flags (s : State) :
    (noticeDueIfAny s).notices.flags = s.notices.flags ∧ (noticeDueIfAny s).notices.details = s.notices.details := by
  simp only [noticeDueIfAny, noticeDue, noticeDueAs]
  repeat' split
  all_goals exact ⟨rfl, rfl⟩

/-- What the receive queue and the overrun count of an interface become when a frame is offered (R3). -/
theorem offerReceived_queue (f : RxFrame) (s : State) :
    (offerReceived f s).bus.rxQueue = (if s.bus.rxQueue.length < 16 then s.bus.rxQueue ++ [f] else s.bus.rxQueue) ∧
      (offerReceived f s).bus.counts.overrun =
        (if 16 ≤ s.bus.rxQueue.length then sat16 s.bus.counts.overrun else s.bus.counts.overrun) := by
  unfold offerReceived
  by_cases h : s.bus.rxQueue.length < 16
  · simp [h, Nat.not_le.mpr h]
  · simp [h, Nat.not_lt.mp h, State.modCounts]

theorem Bus.rxQueue_of_steady {b c : Bus} (h : c.steady = b.steady) : c.rxQueue = b.rxQueue :=
  congrArg Bus.Steady.rxQueue h

theorem Bus.overrun_of_steady {b c : Bus} (h : c.steady = b.steady) : c.counts.overrun = b.counts.overrun :=
  congrArg Bus.Steady.overrun h

theorem Bus.busOff_of_steady {b c : Bus} (h : c.steady = b.steady) : c.busOff = b.busOff :=
  congrArg Bus.Steady.busOff h

theorem receptionReported_run {s : State} (h : s.power.state = .run) :
    receptionReported s = { s with
      power := { s.power with quietTimer := some 0 }, bus := { s.bus with rxErrors := s.bus.rxErrors - 1 } } :=
  canActivity_run (s := s.modBus _) h

theorem receptionReported_onlyIn (s : State) : s.OnlyIn [.bus, .power, .notices] (receptionReported s) := by
  intro b hb
  cases b <;> simp_all [Block.Same, receptionReported]

/-- A reception reported leaves the receive queue and the overrun count. -/
theorem receptionReported_queue (s : State) :
    (receptionReported s).bus.rxQueue = s.bus.rxQueue ∧
      (receptionReported s).bus.counts.overrun = s.bus.counts.overrun := by
  have h : (receptionReported s).bus.steady = ({ s.bus with rxErrors := s.bus.rxErrors - 1 } : Bus).steady := by
    simp [receptionReported]
  have hq := Bus.rxQueue_of_steady h
  have hc := Bus.overrun_of_steady h
  exact ⟨hq, hc⟩

/-- Activity in QUIET brings RUN (R199) and leaves the flags and their details. -/
theorem receptionReported_quiet {s : State} (h : s.power.state = .quiet) :
    (receptionReported s).power = { s.power with state := .run, quietTimer := some 0, standbyTimer := none } ∧
      (receptionReported s).notices.flags = s.notices.flags ∧
      (receptionReported s).notices.details = s.notices.details := by
  simp [receptionReported, canActivity, h, noticeDueIfAny_flags]

/-- In RUN the standby timer does not run (R200). -/
theorem qualify_power_of_run {s : State} (h : s.power.state = .run) :
    (qualify s).power = { s.power with standbyTimer := none } := by
  simp [qualify_power, h]

theorem offerReceived_onlyIn (f : RxFrame) (s : State) : s.OnlyIn [.bus] (offerReceived f s) := by
  intro b hb
  cases b <;> simp_all [Block.Same]

/-- Settles O21: in RUN the next state is worked out field by field; in QUIET the activity report leaves the receive queue, to which
the frame is then offered. -/
theorem framesAreReceived : Obligations.FramesAreReceived := by
  refine ⟨fun f s hf hs hrun hoff => ?_, fun f s hf hs => ⟨fun hquiet hoff => ?_, fun hdeaf => ?_⟩⟩
  · have ha : s.awake = true := by simp [State.awake, hs.1, hrun]
    rw [exec_frameReceived hf, external_settled hs, frameReceived_awake ha hoff, receptionReported_run hrun]
    by_cases hx : f.extended = true ∧ f.remote = false
    · by_cases hl : s.bus.rxQueue.length < 16
      · simp only [hx, and_self, if_true, offerReceived, hl]
        rfl
      · simp only [hx, and_self, if_true, offerReceived, hl, if_false]
        rfl
    · simp only [hx, if_false]
  · have ha : s.awake = true := by simp [State.awake, hs.1, hquiet]
    obtain ⟨hp, hflags, hdetails⟩ := receptionReported_quiet hquiet
    obtain ⟨hrx, hover⟩ := receptionReported_queue s
    refine ⟨_, (exec_frameReceived hf s).trans (congrArg _ (external_settled hs _)), ?_⟩
    rw [frameReceived_awake ha hoff]
    by_cases hx : f.extended = true ∧ f.remote = false
    · have hframe := (receptionReported_onlyIn s).trans (offerReceived_onlyIn { ident := f.ident, data := f.data } _)
      obtain ⟨hqueue, hcount⟩ := offerReceived_queue { ident := f.ident, data := f.data } (receptionReported s)
      rw [if_pos hx]
      refine ⟨(hframe.mono (by simp)).qualify (by simp), ?_, ?_, ?_, ?_, ?_⟩
      · rw [qualify_power_of_run (by simp [hp])]
        simp [hp]
      · simpa using hflags
      · simpa using hdetails
      · simp [hqueue, hrx, hx]
      · simp [hcount, hrx, hover, hx]
    · rw [if_neg hx, if_neg fun h => hx ⟨h.1, h.2.1⟩, if_neg fun h => hx ⟨h.1, h.2.1⟩]
      refine ⟨(receptionReported_onlyIn s).qualify (by simp), ?_, ?_, ?_, ?_, ?_⟩
      · rw [qualify_power_of_run (by simp [hp]), hp]
      · simpa using hflags
      · simpa using hdetails
      · simpa using hrx
      · simpa using hover
  · rw [exec_frameReceived hf, external_settled hs, frameReceived_deaf hdeaf]

end Sys2Proof.Machine
end

section
/-! PROOF. The matcher, case by case, and INGRESS_MATCH (O22). -/

namespace Sys2Proof.Machine

/-- The part with its receive queue replaced, as the head's leaving does (R4). -/
def State.withRx (s : State) (rest : List RxFrame) : State := { s with bus := { s.bus with rxQueue := rest } }

theorem exec_ingressMatch (s : State) : exec .ingressMatch s = .next (external ingressTakes s) := rfl

/-- The matcher takes a head that is no setup frame (R4). -/
theorem exec_ingressMatch_head {s : State} {f : RxFrame} {rest : List RxFrame} (hs : s.Ready)
    (hq : s.bus.rxQueue = f :: rest) (hf : s.isSetupFrame f = false) :
    exec .ingressMatch s = .next (qualify (matchFrame f (s.withRx rest))) := by
  have hdrop : dropReceived s = s.withRx rest := by simp [dropReceived, State.modBus, State.withRx, hq]
  rw [exec_ingressMatch, external_settled hs.1]
  simp [ingressTakes, hq, hs.awake, hf, hdrop]

section
variable {s : State} {f : RxFrame} {e : IngressEntry} {raw : Nat}

/-! ### The cases of `matchFrame` (R4 to R6, R9) -/

theorem matchFrame_unmatched (h : s.claimant f = none) :
    matchFrame f s = s.modCounts fun c => { c with unmatched := sat16 c.unmatched } := by
  simp [matchFrame, h]

theorem matchFrame_short (h : s.claimant f = some e) (hr : e.reads = true) (hw : e.raw f.data = none) :
    matchFrame f s = s.modCounts fun c => { c with short := sat16 c.short } := by
  simp [matchFrame, h, hr, hw]

theorem matchFrame_unavailable (h : s.claimant f = some e) (hr : e.reads = true) (hw : e.raw f.data = some raw)
    (ha : e.available raw = false) : matchFrame f s = s := by
  simp [matchFrame, h, hr, hw, ha]

theorem matchFrame_value (h : s.claimant f = some e) (hr : e.reads = true) (hw : e.raw f.data = some raw)
    (ha : e.available raw = true) : matchFrame f s = useValue e (e.scale raw) s := by
  simp [matchFrame, h, hr, hw, ha]

theorem matchFrame_constant (h : s.claimant f = some e) (hr : e.reads = false) :
    matchFrame f s = handAction .ingress e.action e.constant s := by
  simp [matchFrame, h, hr]

/-! ### The three kinds of entry (R8, R9) -/

theorem reads_of_store (hk : e.kind = 0) : e.reads = true := by simp [IngressEntry.reads, IngressEntry.stores, hk]

theorem reads_of_storeAction (hk : e.kind = 2) : e.reads = true := by simp [IngressEntry.reads, IngressEntry.stores, hk]

theorem reads_of_action (hk : e.kind = 1) : e.reads = e.fromField := by simp [IngressEntry.reads, IngressEntry.stores, hk]

theorem useValue_store (hk : e.kind = 0) (v : Int) (s : State) : useValue e v s = storeSignal e.target v s := by
  simp [useValue, IngressEntry.stores, IngressEntry.acts, hk]

theorem useValue_action (hk : e.kind = 1) (v : Int) (s : State) :
    useValue e v s = handAction .ingress e.action (if e.fromField then v else e.constant) s := by
  simp [useValue, IngressEntry.stores, IngressEntry.acts, hk]

theorem useValue_storeAction (hk : e.kind = 2) (v : Int) (s : State) :
    useValue e v s = handAction .ingress e.action (if e.fromField then v else e.constant) (storeSignal e.target v s) := by
  simp [useValue, IngressEntry.stores, IngressEntry.acts, hk]

end

/-! ### Stores (R8, R10) -/

/-- Signals 8 to 31 have no consumer that is told (R14). -/
theorem tellStored_of_free {n : Nat} (h : 8 ≤ n) (fresh : Bool) (s : State) : tellStored n fresh s = s := by
  have hmark : takeMark n s = s := by simp [takeMark, Nat.not_lt.mpr h]
  unfold tellStored
  split
  case h_8 => exact hmark
  all_goals omega

/-- A store into a signal 8 to 31: the clamped value, a clamp counted, nothing else (R8). -/
theorem storeSignal_of_free {n : Nat} (h : 8 ≤ n) (v : Int) (s : State) :
    storeSignal n v s =
      let w := clampI (s.signalDef n).lo (s.signalDef n).hi v
      { s with
        bus := if w = v then s.bus else { s.bus with counts := { s.bus.counts with clamped := sat16 s.bus.counts.clamped } }
        signals := s.signals.modify n (SignalRec.write w) } := by
  have hn : ¬ n = 0 := by omega
  simp only [storeSignal, hn, false_and, if_false, tellStored_of_free h]
  split <;> rfl

/-- Signal 0 holds a value out of its range: the clamp count alone rises (R10). -/
theorem storeSignal_held {v : Int} {s : State} (h : v < (s.signalDef 0).lo ∨ (s.signalDef 0).hi < v) :
    storeSignal 0 v s = countClamp s := by
  simp [storeSignal, h]

/-- Settles O22: the head leaves, and each clause is one case of the matcher. -/
theorem ingressTakesTheHead : Obligations.IngressTakesTheHead := by
  refine ⟨fun s f rest hs hq hf => ⟨fun hc => ?_, fun e hc hr hw => ?_, fun e raw hc hr hw ha => ?_⟩,
    fun s f rest e raw hs hq hf hc ht hw ha => ⟨fun hk => ?_, fun hk => ?_⟩,
    fun s f rest e hs hq hf hc hk => ⟨fun hx => ?_, fun raw hx hw ha => ?_⟩,
    fun s f rest e raw hs hq hf hc hk ht hw ha hv => ?_⟩
  all_goals
    rw [exec_ingressMatch_head hs hq hf]
    have hclaim : (s.withRx rest).claimant f = s.claimant f := rfl
    rw [hc] at hclaim
  · rw [matchFrame_unmatched hclaim]
    rfl
  · rw [matchFrame_short hclaim hr hw]
    rfl
  · rw [matchFrame_unavailable hclaim hr hw ha]
    rfl
  · rw [matchFrame_value hclaim (reads_of_store hk) hw ha, useValue_store hk, storeSignal_of_free ht]
    rfl
  · rw [matchFrame_value hclaim (reads_of_storeAction hk) hw ha, useValue_storeAction hk, storeSignal_of_free ht]
    rfl
  · rw [matchFrame_constant hclaim ((reads_of_action hk).trans hx)]
    rfl
  · rw [matchFrame_value hclaim ((reads_of_action hk).trans hx) hw ha, useValue_action hk, if_pos hx]
    rfl
  · rw [matchFrame_value hclaim (reads_of_storeAction hk) hw ha, useValue_storeAction hk, ht,
      storeSignal_held (s := s.withRx rest) hv]
    rfl

end Sys2Proof.Machine
end

section
/-! PROOF. The transmit queue: transmissions and their ends (O27), frames that wait and join (O28). -/

namespace Sys2Proof.Machine

/-! ### The head frame (R20) -/

/-- The class of the head: priority before egress. -/
theorem Bus.headClass_eq (b : Bus) :
    b.headClass = if b.prioQueue ≠ [] then some .priority else if b.egressQueue ≠ [] then some .egress else none := by
  simp [Bus.headClass]

/-- An interface that sends nothing and is on the bus takes up its head. -/
theorem Bus.takeUp_idle {b : Bus} (hs : b.sending = none) (hb : b.busOff = false) :
    b.takeUp = { b with
      sending := if b.prioQueue ≠ [] then some .priority else if b.egressQueue ≠ [] then some .egress else none } := by
  simp [Bus.takeUp, hs, hb, Bus.headClass_eq]

/-- An interface that sends goes on sending. -/
theorem Bus.takeUp_busy {b : Bus} (hs : b.sending ≠ none) : b.takeUp = b := by
  simp [Bus.takeUp, hs]

theorem Bus.sent_priority {b : Bus} (hs : b.sending = some .priority) (hb : b.busOff = false) :
    b.sent = { b with
      prioQueue := b.prioQueue.tail, txErrors := b.txErrors - 1
      sending := if b.prioQueue.tail ≠ [] then some .priority else if b.egressQueue ≠ [] then some .egress else none } := by
  unfold Bus.sent
  simp only [hs]
  exact Bus.takeUp_idle rfl hb

theorem Bus.sent_egress {b : Bus} (hs : b.sending = some .egress) (hb : b.busOff = false) :
    b.sent = { b with
      egressQueue := b.egressQueue.tail, txErrors := b.txErrors - 1
      sending := if b.prioQueue ≠ [] then some .priority else if b.egressQueue.tail ≠ [] then some .egress else none } := by
  unfold Bus.sent
  simp only [hs]
  exact Bus.takeUp_idle rfl hb

theorem Bus.sendFailed_sending {b : Bus} (hs : b.sending ≠ none) (e : Bool) :
    b.sendFailed e = { b with
      sending := if b.prioQueue ≠ [] then some .priority else if b.egressQueue ≠ [] then some .egress else none
      txErrors := b.txErrors + (if e = true then 8 else 0) } := by
  rw [Bus.sendFailed, if_pos (Option.isSome_iff_ne_none.mpr hs), Bus.headClass_eq]

theorem Bus.rejoin_idle {b : Bus} (hs : b.sending = none) :
    b.rejoin = { b with
      busOff := false, txErrors := 0, rxErrors := 0
      sending := if b.prioQueue ≠ [] then some .priority else if b.egressQueue ≠ [] then some .egress else none } := by
  unfold Bus.rejoin
  exact Bus.takeUp_idle hs rfl

/-- The head sent: its class moves on, and the answer to RST or DEF has left (R193). -/
theorem transmitted_of_current {s : State} {f : TxFrame} (h : s.bus.current = some f) :
    transmitted s = { s with
      bus := s.bus.sent
      setup := if f.restart = true then
          { s.setup with restart := s.setup.restart.map fun r => { r with answerLeft := true } }
        else s.setup } := by
  simp only [transmitted, h]
  split <;> rfl

/-! ### The commands of the interface -/

theorem exec_frameTransmitted (s : State) : exec .frameTransmitted s = .next (external transmitted s) := rfl

theorem exec_transmitError (e : Bool) (s : State) :
    exec (.transmitError e) s = .next (external (fun t => t.modBus (·.sendFailed e)) s) := rfl

theorem exec_busOff (s : State) : exec .busOff s = .next (internal goBusOff s) := rfl

theorem exec_busOffRecovery (s : State) : exec .busOffRecovery s = .next (external rejoinBus s) := rfl

theorem exec_priorityFrameAdmitted (s : State) : exec .priorityFrameAdmitted s = .next (internal admissionStep s) := rfl

theorem exec_idReq (s : State) :
    exec .idReq s = .next (external (onRequest 0x01 false fun _ t => idRequest t) s) := rfl

theorem State.awake_of_running {s : State} (h : s.phase = .running) (hp : s.power.state ≠ .standby) : s.awake = true := by
  simp [State.awake, h, hp]

/-- Settles O27: each event of the interface by the equation of its operation. -/
theorem transmissionsEnd : Obligations.TransmissionsEnd := by
  refine ⟨fun s f rest hs hb => ⟨fun hsend hq => ?_, fun hsend hq => ?_⟩, fun s e hs hsend => ?_,
    fun s hrun hp hb => ?_, fun s hs hb hsend => ?_⟩
  · have hcur : s.bus.current = some f := by simp [Bus.current, hsend, hq]
    rw [exec_frameTransmitted, external_settled hs.1, transmitted_of_current hcur, Bus.sent_priority hsend hb, hq]
    rfl
  · have hcur : s.bus.current = some f := by simp [Bus.current, hsend, hq]
    rw [exec_frameTransmitted, external_settled hs.1, transmitted_of_current hcur, Bus.sent_egress hsend hb, hq]
    rfl
  · rw [exec_transmitError, external_settled hs, State.modBus, Bus.sendFailed_sending hsend]
  · rw [exec_busOff, internal_running hrun, goBusOff, State.awake_of_running hrun hp, hb]
    rfl
  · rw [exec_busOffRecovery, external_settled hs, rejoinBus, if_pos hb, State.modBus, Bus.rejoin_idle hsend]

/-! ### Frames that join (R19) -/

/-- An interface that holds fewer than eight frames takes a priority frame. -/
theorem Bus.placePriority_free {b : Bus} (h : b.queued < 8) (f : TxFrame) :
    b.placePriority f = ({ b with prioQueue := b.prioQueue ++ [f] } : Bus).takeUp := by
  simp [Bus.placePriority, h]

theorem Bus.removable_iff (b : Bus) :
    b.removable = false ↔ b.egressQueue = [] ∨ (b.sending = some .egress ∧ b.egressQueue.length = 1) := by
  unfold Bus.removable
  rcases b.egressQueue with _ | ⟨d, _ | ⟨e, es⟩⟩ <;> split <;> simp_all

/-- At a full queue a priority frame takes the place of the oldest egress frame that is not being sent. -/
theorem Bus.placePriority_full {b : Bus} {es : List TxFrame} (h : 8 ≤ b.queued) (hr : b.removable = true)
    (he : b.removeOldest = { b with egressQueue := es }) (f : TxFrame) :
    b.placePriority f = ({ b with
      prioQueue := b.prioQueue ++ [f], egressQueue := es
      counts := { b.counts with dropped := min 65535 (b.counts.dropped + 1) } } : Bus).takeUp := by
  rw [Bus.placePriority, if_neg (Nat.not_lt.mpr h), if_pos hr, he]
  rfl

theorem Bus.removeOldest_waiting {b : Bus} {e : TxFrame} {es : List TxFrame} (hs : b.sending ≠ some .egress)
    (he : b.egressQueue = e :: es) : b.removable = true ∧ b.removeOldest = { b with egressQueue := es } := by
  simp [Bus.removable, Bus.removeOldest, hs, he]

theorem Bus.removeOldest_sending {b : Bus} {d e : TxFrame} {es : List TxFrame} (hs : b.sending = some .egress)
    (he : b.egressQueue = d :: e :: es) : b.removable = true ∧ b.removeOldest = { b with egressQueue := d :: es } := by
  simp [Bus.removable, Bus.removeOldest, hs, he]

/-- A waiting setup response has the first turn (R19). -/
theorem admitWaiting_response {s : State} {f : TxFrame} (hw : s.setup.waiting = some f) (h : s.bus.queued < 8) :
    admitWaiting s = { s with
      bus := ({ s.bus with prioQueue := s.bus.prioQueue ++ [f] } : Bus).takeUp
      setup := { s.setup with waiting := none } } := by
  simp [admitWaiting, hw, h, State.modBus, State.modSetup, Bus.placePriority_free h]

/-- A waiting notice frame has the next turn. -/
theorem admitWaiting_notice {s : State} {f : TxFrame} (hn : s.setup.waiting = none) (hw : s.notices.waiting = some f)
    (h : s.bus.queued < 8) :
    admitWaiting s = { s with
      bus := ({ s.bus with prioQueue := s.bus.prioQueue ++ [f] } : Bus).takeUp
      notices := { s.notices with waiting := none } } := by
  simp [admitWaiting, hn, hw, h, State.modBus, State.modNotices, Bus.placePriority_free h]

/-- A frame that waits removes nothing from a full queue. -/
theorem admitWaiting_full {s : State} (h : 8 ≤ s.bus.queued) : admitWaiting s = s := by
  unfold admitWaiting
  split
  · simp [Nat.not_lt.mpr h]
  · split
    · simp [Nat.not_lt.mpr h]
    · rfl

theorem exec_priorityFrameAdmitted_awake {s : State} (hrun : s.phase = .running) (hp : s.power.state ≠ .standby) :
    exec .priorityFrameAdmitted s = .next (qualify (admitWaiting s)) := by
  rw [exec_priorityFrameAdmitted, internal_running hrun, admissionStep, if_pos (State.awake_of_running hrun hp)]

/-- ID at the head of the receive queue: its answer is offered (R184, R194). -/
theorem exec_idReq_head {s : State} {i : Ident} {d : List Byte} {rest : List RxFrame} (hs : s.Ready)
    (hw : s.setup.waiting = none) (hq : s.bus.rxQueue = { ident := i, data := d } :: rest)
    (hi : i.toNat = s.requestIdent) (hd : 2 ≤ d.length) (hc : byteAt d 0 = 0x01) :
    exec .idReq s = .next (qualify (offerResponse (s.response d .ok s.identity false) (s.withRx rest))) := by
  have hhead : s.setupHead = some d := by simp [State.setupHead, hq, hs.awake, hw, State.isSetupFrame, hi]
  have hdrop : dropReceived s = s.withRx rest := by simp [dropReceived, State.modBus, State.withRx, hq]
  have hlen : ¬ d.length < 2 := Nat.not_lt.mpr hd
  have hid : (s.withRx rest).identity = s.identity := rfl
  have hans : answer false d idRequest s = offerResponse (s.response d .ok s.identity false) (s.withRx rest) := by
    simp [answer, requestCode, requestTag, State.response, hc, shortestLength, hlen, hdrop, idRequest, responseFrame, hid]
  rw [exec_idReq, external_settled hs.1]
  simp [onRequest, hhead, hd, requestCode, hc, hans]

/-- Settles O28: the admissions, the ways a frame joins, and a response that arrives at a full queue. -/
theorem waitingFramesJoin : Obligations.WaitingFramesJoin := by
  refine ⟨fun s hrun hp => ⟨fun f hw h => ?_, fun f hn hw h => ?_, fun h => ?_⟩,
    fun b f => ⟨fun h => b.placePriority_free h f, fun e es h hs he => ?_, fun d e es h hs he => ?_, fun hb h => ?_, fun h => ?_⟩,
    fun s i d rest hs hw hq hi hd hc h => ⟨fun hno => ?_, fun e es hsend he => ?_⟩⟩
  · rw [exec_priorityFrameAdmitted_awake hrun hp, admitWaiting_response hw h]
  · rw [exec_priorityFrameAdmitted_awake hrun hp, admitWaiting_notice hn hw h]
  · rw [exec_priorityFrameAdmitted_awake hrun hp, admitWaiting_full h]
  · obtain ⟨hr, ho⟩ := Bus.removeOldest_waiting hs he
    exact Bus.placePriority_full h hr ho f
  · obtain ⟨hr, ho⟩ := Bus.removeOldest_sending hs he
    rw [Bus.placePriority_full h hr ho f, Bus.takeUp_busy (by simp [hs])]
  · simp [Bus.offerEgress, Bus.takesEgress, hb, h]
  · have hno : b.takesEgress = false := by
      rcases h with h | h <;> simp [Bus.takesEgress, h]
    simp [Bus.offerEgress, hno, Bus.countDropped]
  · have hr : s.bus.removable = false := s.bus.removable_iff.mpr hno
    have hno : (s.withRx rest).bus.takesPriority = false := by
      simpa [Bus.takesPriority] using ⟨h, hr⟩
    rw [exec_idReq_head hs hw hq hi hd hc, offerResponse, hno]
    rfl
  · obtain ⟨hr, ho⟩ := Bus.removeOldest_waiting (b := (s.withRx rest).bus) hsend he
    have hyes : (s.withRx rest).bus.takesPriority = true := by simp [Bus.takesPriority, hr]
    rw [exec_idReq_head hs hw hq hi hd hc, offerResponse, if_pos hyes, State.modBus,
      Bus.placePriority_full (b := (s.withRx rest).bus) h hr ho]
    rfl

end Sys2Proof.Machine
end

section
/-! PROOF. Refusals, the part held in reset, and what an empty queue does (O3). -/

namespace Sys2Proof.Machine

/-! ### Every command answers -/

/-- How a command acts on the part: from outside, as a step that follows, or as one of the two that the held part takes. -/
inductive Instr.Acts (c : Instr) : Prop where
  | external (f : State → State) (h : ∀ s, exec c s = .next (Machine.external f s))
  | internal (f : State → State) (h : ∀ s, exec c s = .next (Machine.internal f s))
  | reset (k : ResetCause) (h : c = .reset k)
  | startUp (d : StoreDamage) (h : c = .startUp d)

/-- Every command but an ill-formed frame acts in one of the four ways. -/
theorem acts_of_wellFormed {c : Instr} (hc : c.wellFormed = true) : Instr.Acts c := by
  cases c with
  | frameReceived f => exact .external (frameReceived f) (exec_frameReceived hc)
  | reset k => exact .reset k rfl
  | startUp d => exact .startUp d rfl
  | restartTrigger | signalStale | egressCountdownExpiry | busOff | priorityFrameAdmitted | batteryBlindSet
  | loopFailedAssert | errorWindowEnd | commandStall | receivedCycleEnd | statusMessage | nodePresent | nodeLost
  | estimateWindowClose | levelAssert | levelClear | fullChargeEvent | manualLimitExpiry | preheatWindowClose =>
    exact .internal _ fun _ => rfl
  | ingressMatch | setupNoTag | unknownRequest | idReq | selReq | wrpReq | rdpReq | savReq | saveComplete | defReq
  | lckReq | lockWriteComplete | clrReq | actReq | rfrReq | rstReq | staReq | signalAgeTick | egressPass
  | frameTransmitted | transmitError | busOffRecovery | transmitCycle | receivedRound | budgetTick | surgeLimitExpiry
  | ignitionTimeout | purgeLimit | levelHoldExpiry | minimumOnExpiry | minimumOffExpiry | surgeHoldExpiry
  | protectTimerExpiry | minuteTick | repeatTimerExpiry | noticeRepeat | quietTimerExpiry | standbyEntry | canWake
  | wakeLineEdge =>
    exact .external _ fun _ => rfl

theorem exec_answers {c : Instr} (hc : c.wellFormed = true) (s : State) : ∃ t, exec c s = .next t := by
  cases acts_of_wellFormed hc with
  | external f h => exact ⟨_, h s⟩
  | internal f h => exact ⟨_, h s⟩
  | reset k h => exact h ▸ ⟨_, rfl⟩
  | startUp d h => exact h ▸ ⟨_, rfl⟩

theorem exec_held {c : Instr} (hc : c.wellFormed = true) {s : State} (hs : s.phase = .held) (hr : ∀ k, c ≠ .reset k)
    (hu : ∀ d, c ≠ .startUp d) : exec c s = .next s := by
  cases acts_of_wellFormed hc with
  | external f h => rw [h, external_held hs]
  | internal f h => rw [h, internal_held hs]
  | reset k h => exact absurd h (hr k)
  | startUp d h => exact absurd h (hu d)

theorem exec_illFormed {f : CanFrame} (hf : f.wellFormed = false) (s : State) :
    exec (.frameReceived f) s = .refused .illFormedFrame := by
  simp [exec, execFrameReceived, hf]

/-! ### The passing second -/

theorem step_empty {s : State} (h : s.pending = []) : step s = .next (external secondPasses s) := by
  simp [step, h, idle]

theorem step_settled {s : State} (h : s.pending = []) (hs : s.Settled) : step s = .next (qualify (secondPasses s)) := by
  rw [step_empty h, external_settled hs]

/-- Looking at the standby conditions twice is looking at them once (R200). -/
theorem qualify_qualify (s : State) : qualify (qualify s) = qualify s := by
  have hmay : (qualify s).mayStandBy = s.mayStandBy := rfl
  have hpower : (qualify (qualify s)).power = (qualify s).power := by
    rw [qualify_power, hmay, qualify_power]
    by_cases hr : s.phase = .running ∧ s.power.state = .quiet ∧ s.mayStandBy = true
    · simp [hr]
    · simp only [qualify_frame, hr, if_false]
  calc qualify (qualify s) = { qualify s with power := (qualify (qualify s)).power } := rfl
    _ = qualify s := by rw [hpower]

/-- A second counted on every second timer that runs, the notices' apart (R139, assumption 24). -/
def State.counted (s : State) : State :=
  { s with
    tx := { s.tx with finishing := false }
    roster := { s.roster with holder := s.roster.holder.map fun h => { h with elapsed := h.elapsed + 1 } }
    heater := { s.heater with
      levelHold := s.heater.levelHold.map (· + 1), ignition := s.heater.ignition.map (· + 1)
      purge := s.heater.purge.map (· + 1) }
    fridge := { s.fridge with
      minOn := s.fridge.minOn.map (· + 1), minOff := s.fridge.minOff.map (· + 1)
      surgeHold := s.fridge.surgeHold.map (· + 1)
      protectTimer := s.fridge.protectTimer.map fun n => if n < 600 then n + 1 else n }
    rest := { s.rest with repeatTimer := s.rest.repeatTimer.map (· + 1) }
    power := { s.power with
      quietTimer := s.power.quietTimer.map (· + 1), standbyTimer := s.power.standbyTimer.map (· + 1) } }

/-- A protect timer counts up to 600 and stands there. -/
theorem protectTimer_counted (s : State) :
    (if s.protectRuns then s.fridge.protectTimer.map (· + 1) else s.fridge.protectTimer) =
      s.fridge.protectTimer.map fun n => if n < 600 then n + 1 else n := by
  unfold State.protectRuns
  cases s.fridge.protectTimer with
  | none => rfl
  | some n => by_cases h : n < 600 <;> simp [h]

/-- With no notice timer running and the part on the bus, a second's counting is `State.counted`. -/
theorem secondCounted_eq {s : State} (hn : s.notices.repeatTimer = none) (hb : s.bus.busOff = false) :
    secondCounted s = s.counted := by
  have hnotices : { s.notices with repeatTimer := s.notices.repeatTimer.map (· + 1) } = s.notices := by
    rw [hn, Option.map_none, ← hn]
  rw [secondCounted, expireIf_of_false hb]
  simp only [State.counted, ← protectTimer_counted]
  conv_rhs => rw [← hnotices]
  rfl

/-- A timer that is more than a second from its limit has not reached it after one. -/
theorem reached_succ {limit : Nat} {t : Option Nat} (h : ∀ n, t = some n → n + 1 < limit) :
    reached limit (t.map (· + 1)) = false := by
  cases t with
  | none => rfl
  | some n => simpa [reached] using h n rfl

theorem reached_succ_of_le {limit n : Nat} (h : limit ≤ n + 1) : reached limit ((some n).map (· + 1)) = true := by
  simp [reached, h]

/-- A protect timer that is not in its last second does not end. -/
theorem protect_not_reached {s : State} (h : ∀ n, s.fridge.protectTimer = some n → n ≠ 599) :
    (s.protectRuns && reached 600 s.counted.fridge.protectTimer) = false := by
  unfold State.protectRuns State.counted
  cases ht : s.fridge.protectTimer with
  | none => rfl
  | some n =>
    have hn := h n ht
    by_cases hlt : n < 600
    · simp only [Option.map_some, hlt, if_true, reached, Option.any_some, decide_true, Bool.true_and, decide_eq_false_iff_not]
      omega
    · simp [hlt]

/-- Where no timer but the quiet timer can end, it is the only one that is looked at. -/
theorem timersExpire_counted {s : State} (h : s.SecondsLeft) :
    timersExpire s.protectRuns s.counted =
      expireIf (fun t => reached 10 t.power.quietTimer) quietExpires s.counted := by
  have hholder : (s.counted.roster.holder.any fun h => decide (h.limit ≤ h.elapsed)) = false := by
    cases hh : s.roster.holder with
    | none => simp [State.counted, hh]
    | some x => simpa [State.counted, hh] using h.holder x hh
  have hignition : reached 150 s.counted.heater.ignition = false := reached_succ h.ignition
  have hpurge : reached 240 s.counted.heater.purge = false := reached_succ h.purge
  have hhold : reached 60 s.counted.heater.levelHold = false := reached_succ h.levelHold
  have hsurge : reached 2 s.counted.fridge.surgeHold = false := reached_succ h.surgeHold
  have hon : reached 60 s.counted.fridge.minOn = false := reached_succ h.minOn
  have hoff : reached 180 s.counted.fridge.minOff = false := reached_succ h.minOff
  have hwarning : reached s.counted.rest.repeatLimit s.counted.rest.repeatTimer = false := reached_succ h.warning
  have hnotice : reached 1 s.counted.notices.repeatTimer = false := by simp [State.counted, h.notice, reached]
  simp only [timersExpire, expireIf, hholder, hignition, hpurge, hhold, hsurge, hon, hoff,
    protect_not_reached h.protect, hwarning, hnotice, Bool.false_eq_true, if_false]

/-- With no timer near its limit and no restart arranged, a second ends with the quiet timer and the standby timer. -/
theorem secondPasses_secondsLeft {s : State} (h : s.SecondsLeft) (hb : s.bus.busOff = false)
    (hr : s.setup.restart = none) :
    secondPasses s = expireIf (fun t => reached 60 t.power.standbyTimer) enterStandby
      (qualify (expireIf (fun t => reached 10 t.power.quietTimer) quietExpires s.counted)) := by
  have hno : (fun _ : State => s.setup.restart.isSome) (secondExpired s) = false := by simp [hr]
  rw [secondPasses_eq, expireIf_of_false hno, secondExpired, secondCounted_eq h.notice hb, timersExpire_counted h]

/-- The standby timer as `qualify` leaves it is one second from no limit that it was two seconds from. -/
theorem standby_not_reached {s : State} (h : ∀ n, s.power.standbyTimer = some n → n < 60) :
    reached 60 (qualify s).power.standbyTimer = false := by
  rw [qualify_power]
  simp only
  split
  · cases ht : s.power.standbyTimer with
    | none => rfl
    | some n => simpa [reached] using h n ht
  · rfl

/-- What the quiet timer's expiry makes of the power states (R199). -/
theorem quietExpires_power (s : State) :
    (quietExpires s).power = { s.power with
      quietTimer := none, state := if s.power.state = .run then .quiet else s.power.state } := by
  by_cases h : s.power.state = .run
  · simp [quietExpires, h, State.ite_frame]
  · simp [quietExpires, h]

/-- Out of RUN the quiet timer's expiry does nothing more than stop it (R199). -/
theorem quietExpires_of_quiet {s : State} (h : s.power.state = .quiet) :
    quietExpires s = { s with power := { s.power with quietTimer := none } } := by
  simp [quietExpires, h, State.modPower]

theorem enterStandby_state (s : State) : (enterStandby s).power.state = .standby := by
  simp [enterStandby]

/-- Where no timer ends, a second is counted and nothing else happens. -/
theorem step_counted {s : State} (hp : s.pending = []) (hs : s.Settled) (h : s.SecondsLeft) (hb : s.bus.busOff = false)
    (hr : s.setup.restart = none) (hq : ∀ n, s.power.quietTimer = some n → n + 1 < 10)
    (ht : ∀ n, s.power.standbyTimer = some n → n + 1 < 60) : step s = .next (qualify s.counted) := by
  have hquiet : reached 10 s.counted.power.quietTimer = false := reached_succ hq
  have hstandby : reached 60 (qualify s.counted).power.standbyTimer = false := by
    refine standby_not_reached fun n hn => ?_
    obtain ⟨m, hm, rfl⟩ := Option.map_eq_some_iff.mp hn
    exact ht m hm
  rw [step_settled hp hs, secondPasses_secondsLeft h hb hr]
  simp only [expireIf, hquiet, hstandby, Bool.false_eq_true, if_false, qualify_qualify]

/-- At 10 s RUN becomes QUIET (R199). -/
theorem step_quiet {s : State} (hp : s.pending = []) (hs : s.Settled) (h : s.SecondsLeft) (hb : s.bus.busOff = false)
    (hr : s.setup.restart = none) {n : Nat} (ht : s.power.standbyTimer = none) (hrun : s.power.state = .run)
    (hq : s.power.quietTimer = some n) (hn : 9 ≤ n) : ∃ t, step s = .next t ∧ t.power.state = .quiet := by
  have hquiet : reached 10 s.counted.power.quietTimer = true := by
    simp only [State.counted, hq]
    exact reached_succ_of_le (by omega)
  have hstandby : reached 60 (qualify (quietExpires s.counted)).power.standbyTimer = false :=
    standby_not_reached (by simp [quietExpires_power, State.counted, ht])
  refine ⟨_, step_settled hp hs, ?_⟩
  rw [secondPasses_secondsLeft h hb hr]
  have hcounted : s.counted.power.state = .run := hrun
  simp [expireIf, hquiet, hstandby, quietExpires_power, hcounted]

/-- At 60 s with its conditions holding QUIET becomes STANDBY (R200). -/
theorem step_standby {s : State} (hp : s.pending = []) (hs : s.Settled) (h : s.SecondsLeft) (hb : s.bus.busOff = false)
    (hr : s.setup.restart = none) {n : Nat} (hquiet : s.power.state = .quiet) (hmay : s.mayStandBy = true)
    (ht : s.power.standbyTimer = some n) (hn : 59 ≤ n) : ∃ t, step s = .next t ∧ t.power.state = .standby := by
  obtain ⟨u, hu, hrun, hstate, hconds, htimer⟩ : ∃ u, expireIf (fun t => reached 10 t.power.quietTimer) quietExpires s.counted = u ∧
      u.phase = .running ∧ u.power.state = .quiet ∧ u.mayStandBy = true ∧ u.power.standbyTimer = some (n + 1) := by
    have htimer : s.counted.power.standbyTimer = some (n + 1) := by simp [State.counted, ht]
    unfold expireIf
    split
    · rw [quietExpires_of_quiet (s := s.counted) hquiet]
      exact ⟨_, rfl, hs.1, hquiet, hmay, htimer⟩
    · exact ⟨_, rfl, hs.1, hquiet, hmay, htimer⟩
  have hstandby : reached 60 (qualify u).power.standbyTimer = true := by
    simp only [qualify_power, hrun, hstate, hconds, htimer, and_self, if_true, Option.getD_some, reached, Option.any_some,
      decide_eq_true_eq]
    omega
  refine ⟨_, step_settled hp hs, ?_⟩
  rw [secondPasses_secondsLeft h hb hr, hu, expireIf, if_pos hstandby, qualify_power_state, enterStandby_state]

/-- A part in bus-off has rejoined the bus when a second has passed (R20). -/
theorem step_rejoins {s : State} (hp : s.pending = []) (hs : s.Settled) (hb : s.bus.busOff = true)
    (hr : s.setup.restart = none) : ∃ t, step s = .next t ∧ t.bus.busOff = false := by
  have hcounted : (secondCounted s).bus.busOff = false := by
    simp [secondCounted, expireIf, hb, rejoinBus, Bus.rejoin]
  have hexpired : (qualify (timersExpire s.protectRuns (secondCounted s))).bus.busOff = false := by
    have hsteady : (qualify (timersExpire s.protectRuns (secondCounted s))).bus.steady = (secondCounted s).bus.steady := by simp
    rw [Bus.busOff_of_steady hsteady, hcounted]
  have hno : (fun _ : State => s.setup.restart.isSome) (secondExpired s) = false := by simp [hr]
  refine ⟨_, step_settled hp hs, ?_⟩
  rw [secondPasses_eq, expireIf_of_false hno, secondExpired, expireIf]
  split
  · simpa [Bus.sleep] using hexpired
  · simpa using hexpired

@[simp] theorem expireIf_frame_setup (c : State → Bool) (f : State → State) (s : State) (h : ∀ t, (f t).setup = t.setup) :
    (expireIf c f s).setup = s.setup := by
  unfold expireIf
  split
  · exact h s
  · rfl

@[simp] theorem expireIf_frame_phase (c : State → Bool) (f : State → State) (s : State) (h : ∀ t, (f t).phase = t.phase) :
    (expireIf c f s).phase = s.phase := by
  unfold expireIf
  split
  · exact h s
  · rfl

/-- An arranged restart is carried out when a second has passed (R193). -/
theorem step_restarts {s : State} (hp : s.pending = []) (hs : s.Settled) {r : RestartDue} (hr : s.setup.restart = some r) :
    ∃ t, step s = .next t ∧ t.phase = .held ∧ t.power.cause = r.cause := by
  have hsetup : (secondExpired s).setup = s.setup := by
    simp [secondExpired, timersExpire, secondCounted]
  have hphase : (secondExpired s).phase = .running := by
    simp [secondExpired, timersExpire, secondCounted, hs.1]
  have hyes : (fun _ : State => s.setup.restart.isSome) (secondExpired s) = true := by simp [hr]
  refine ⟨_, step_settled hp hs, ?_⟩
  rw [secondPasses_eq, expireIf_of_true hyes]
  simp [restartNow, hsetup, hr, resetWith, hphase, State.heldIn, Power.init]

/-- Settles O3: which commands are refused and which complete by `Instr.Acts`; the empty queue by the second it counts. -/
theorem refusalsAndIdling : Obligations.RefusalsAndIdling := by
  refine ⟨⟨fun f s hf => exec_illFormed hf s, fun c s hc => exec_answers hc s,
      fun c s hc hs hr hu => exec_held hc hs hr hu⟩,
    fun s hp => ⟨fun hs => ?_, fun hs => step_settled hp hs⟩,
    fun s hp hs h hb hr => ⟨fun hq ht => step_counted hp hs h hb hr hq ht, fun n ht hrun hq hn => ?_,
      fun n hquiet hmay ht hn => step_standby hp hs h hb hr hquiet hmay ht hn⟩,
    fun s hp hs => ⟨fun hb hr => step_rejoins hp hs hb hr, fun r hr => step_restarts hp hs hr⟩⟩
  · rw [step_empty hp, external_held hs]
  · have ht : s.power.standbyTimer = none := by
      by_contra hne
      simp [ht hne] at hrun
    exact step_quiet hp hs h hb hr ht hrun hq hn

end Sys2Proof.Machine
end

section
/-! PROOF. A pass of the egress scheduler (R15, R17): what it leaves, where it stands, and what it sends. -/

namespace Sys2Proof.Machine

/-! ### The updates of the scheduler -/

@[simp] theorem setCountdown_lastQueued (i n : Nat) (s : State) :
    (setCountdown i n s).egress.lastQueued = s.egress.lastQueued := rfl

@[simp] theorem setCountdown_length (i n : Nat) (s : State) :
    (setCountdown i n s).egress.countdown.length = s.egress.countdown.length := by
  simp [setCountdown]

theorem setCountdown_countdown {i : Nat} {s : State} (h : i < s.egress.countdown.length) (n j : Nat) :
    (setCountdown i n s).countdown j = if j = i then n else s.countdown j := by
  by_cases hj : j = i
  · subst hj
    simp [State.countdown, setCountdown, h]
  · simp [State.countdown, setCountdown, hj, Ne.symm hj]

/-- An on-change entry whose payload is the one last queued is not offered (R17). -/
theorem onChange_same {i : Nat} {s : State}
    (h : s.egress.lastQueued.getD i none = some (s.egressFrame (s.egressEntry i)).data) : onChange i s = s := by
  simp only [onChange, h, if_true]

/-- One whose payload differs is offered, and becomes the one last queued if the queue takes it (R17). -/
theorem onChange_differs {i : Nat} {s : State}
    (h : s.egress.lastQueued.getD i none ≠ some (s.egressFrame (s.egressEntry i)).data) :
    (onChange i s).bus = s.bus.offerEgress (s.egressFrame (s.egressEntry i)) ∧
      (onChange i s).egress.lastQueued =
        if s.bus.takesEgress then s.egress.lastQueued.set i (some (s.egressFrame (s.egressEntry i)).data)
        else s.egress.lastQueued := by
  simp only [onChange, h, if_false]
  split <;> exact ⟨rfl, rfl⟩

@[simp] theorem onChange_countdown (i : Nat) (s : State) : (onChange i s).egress.countdown = s.egress.countdown := by
  simp only [onChange]
  split
  · rfl
  · split <;> rfl

@[simp] theorem endPass_egress (s : State) : (endPass s).egress = { s.egress with passAt := none } := by
  simp only [endPass]
  split <;> rfl

@[simp] theorem endPass_signals (s : State) : (endPass s).signals = s.marksCleared := by
  unfold State.marksCleared
  simp only [endPass]
  split <;> simp_all

/-! ### The steps of a pass -/

theorem passOver_invalid {i : Nat} {s : State} (h : (s.egressEntry i).valid = false) (is : List Nat) :
    passOver (i :: is) s = passOver is s := by
  simp [passOver, h]

theorem passOver_onChange {i : Nat} {s : State} (hv : (s.egressEntry i).valid = true) (hp : (s.egressEntry i).period = 0)
    (is : List Nat) :
    passOver (i :: is) s = passOver is (if s.power.state = .run then onChange i s else s) := by
  simp [passOver, hv, hp]

theorem passOver_stands {i : Nat} {s : State} (h : s.periodic i) (hc : s.countdown i ≤ 1) (is : List Nat) :
    passOver (i :: is) s = (setCountdown i 0 s).modEgress fun x => { x with passAt := some i } := by
  have hc : s.egress.countdown.getD i 0 - 1 = 0 := Nat.sub_eq_zero_of_le hc
  simp only [passOver, h.1, h.2, hc, Bool.not_true, Bool.false_eq_true, if_false, if_true]

theorem passOver_counts {i : Nat} {s : State} (h : s.periodic i) (hc : 1 < s.countdown i) (is : List Nat) :
    passOver (i :: is) s = passOver is (setCountdown i (s.countdown i - 1) s) := by
  have hc : ¬ s.egress.countdown.getD i 0 - 1 = 0 := Nat.sub_ne_zero_of_lt hc
  simp only [passOver, h.1, h.2, hc, Bool.not_true, Bool.false_eq_true, if_false]
  rfl

/-- The four ways a pass takes an entry. -/
theorem egressEntry_cases (s : State) (i : Nat) :
    (s.egressEntry i).valid = false ∨ ((s.egressEntry i).valid = true ∧ (s.egressEntry i).period = 0) ∨
      (s.periodic i ∧ s.countdown i ≤ 1) ∨ (s.periodic i ∧ 1 < s.countdown i) := by
  unfold State.periodic
  cases (s.egressEntry i).valid <;> simp
  omega

/-- An induction over a pass: at its end, at an entry where it stands, and at an entry it goes past. -/
theorem passOver_induction {P : List Nat → State → State → Prop}
    (hend : ∀ s, P [] s (endPass s))
    (hinvalid : ∀ i is s, (s.egressEntry i).valid = false → P is s (passOver is s) → P (i :: is) s (passOver is s))
    (hchange : ∀ i is s, (s.egressEntry i).valid = true → (s.egressEntry i).period = 0 →
      let u := if s.power.state = .run then onChange i s else s
      P is u (passOver is u) → P (i :: is) s (passOver is u))
    (hstands : ∀ i is s, s.periodic i → s.countdown i ≤ 1 →
      P (i :: is) s ((setCountdown i 0 s).modEgress fun x => { x with passAt := some i }))
    (hcounts : ∀ i is s, s.periodic i → 1 < s.countdown i →
      let u := setCountdown i (s.countdown i - 1) s
      P is u (passOver is u) → P (i :: is) s (passOver is u))
    (is : List Nat) (s : State) : P is s (passOver is s) := by
  induction is generalizing s with
  | nil => exact hend s
  | cons i is ih =>
    rcases egressEntry_cases s i with h | ⟨hv, hp⟩ | ⟨h, hc⟩ | ⟨h, hc⟩
    · rw [passOver_invalid h]
      exact hinvalid i is s h (ih s)
    · rw [passOver_onChange hv hp]
      exact hchange i is s hv hp (ih _)
    · rw [passOver_stands h hc]
      exact hstands i is s h hc
    · rw [passOver_counts h hc]
      exact hcounts i is s h hc (ih _)

/-- A pass that ends clears the marks, one that stands leaves the signals (R17). -/
theorem passOver_signals (is : List Nat) (s : State) :
    (passOver is s).signals = if (passOver is s).egress.passAt = none then s.marksCleared else s.signals := by
  refine passOver_induction (P := fun _ s t => t.signals = if t.egress.passAt = none then s.marksCleared else s.signals)
    ?_ ?_ ?_ ?_ ?_ is s
  · intro s
    simp
  · exact fun _ _ _ _ h => h
  · intro i is s _ _ u h
    have hu : u.marksCleared = s.marksCleared ∧ u.signals = s.signals := by
      simp only [u]
      split <;> simp [State.marksCleared]
    rwa [hu.1, hu.2] at h
  · intro i is s _ _
    simp
  · intro i is s _ _ u h
    exact h

/-- Outside RUN a pass composes nothing (R15, R17). -/
theorem passOver_silent (is : List Nat) (s : State) (hs : s.power.state ≠ .run) :
    (passOver is s).bus = s.bus ∧ (passOver is s).egress.lastQueued = s.egress.lastQueued := by
  revert hs
  refine passOver_induction (P := fun _ s t => s.power.state ≠ .run →
    t.bus = s.bus ∧ t.egress.lastQueued = s.egress.lastQueued) ?_ ?_ ?_ ?_ ?_ is s
  · intro s hs
    simp [endPass, hs]
  · exact fun _ _ _ _ h => h
  · intro i is s _ _ u h hs
    have hu : u = s := if_neg hs
    rw [hu] at h ⊢
    exact h hs
  · exact fun _ _ _ _ _ _ => ⟨rfl, rfl⟩
  · exact fun _ _ _ _ _ h hs => h hs

/-! ### Where a pass stands -/

/-- A pass that goes past an entry and is then a pass from the next: the entry's countdown is lowered if it is periodic, which must not
take it to 0, and the other countdowns are as they were. -/
theorem State.PassedFrom.past {s u t : State} {k : Nat} (hk : k < 16) (hper : ∀ i, u.periodic i ↔ s.periodic i)
    (hothers : ∀ i, i ≠ k → u.countdown i = s.countdown i)
    (hself : (s.periodic k → 1 < s.countdown k ∧ u.countdown k = s.countdown k - 1) ∧
      (¬ s.periodic k → u.countdown k = s.countdown k))
    (h : u.PassedFrom (k + 1) t) : s.PassedFrom k t := by
  obtain ⟨hout, hended, hstands⟩ := h
  rw [← hout k (.inl (Nat.lt_succ_self k))] at hself
  refine ⟨fun i hi => ?_, fun hn i hki hi => ?_, fun j hj => ?_⟩
  · rw [hout i (by omega), hothers i (by omega)]
  · rcases Nat.eq_or_lt_of_le hki with rfl | hlt
    · exact hself
    · rw [← hper i, ← hothers i (by omega)]
      exact hended hn i hlt hi
  · obtain ⟨hkj, hj16, hjper, hle, hzero, hbefore, hafter⟩ := hstands j hj
    refine ⟨by omega, hj16, (hper j).mp hjper, by rwa [← hothers j (by omega)], hzero, fun i hki hij => ?_, fun i hij => ?_⟩
    · rcases Nat.eq_or_lt_of_le hki with rfl | hlt
      · exact hself
      · rw [← hper i, ← hothers i (by omega)]
        exact hbefore i hlt hij
    · rw [hafter i hij, hothers i (by omega)]

/-- A pass that ends with nothing left to go past. -/
theorem passedFrom_end (s : State) : s.PassedFrom 16 (endPass s) := by
  have hcount : ∀ i, (endPass s).countdown i = s.countdown i := fun i => by simp [State.countdown]
  refine ⟨fun i _ => hcount i, fun _ i hi hi' => by omega, fun j hj => ?_⟩
  simp at hj

/-- A pass that stands at once. -/
theorem passedFrom_stands {s : State} {k : Nat} (hlen : s.egress.countdown.length = 16) (hk : k < 16) (hper : s.periodic k)
    (hc : s.countdown k ≤ 1) :
    s.PassedFrom k ((setCountdown k 0 s).modEgress fun x => { x with passAt := some k }) := by
  have hcount : ∀ i, ((setCountdown k 0 s).modEgress fun x => { x with passAt := some k }).countdown i =
      if i = k then 0 else s.countdown i := fun i => setCountdown_countdown (by omega) 0 i
  refine ⟨fun i hi => ?_, fun hn => by simp at hn, fun j hj => ?_⟩
  · rw [hcount, if_neg (by omega)]
  · obtain rfl : k = j := by simpa using hj
    refine ⟨le_rfl, hk, hper, hc, by simp [hcount], fun i hki hij => by omega, fun i hij => ?_⟩
    rw [hcount, if_neg (by omega)]

/-- The entries from `k` on. -/
theorem entries_drop (k : Nat) : entries.drop k = List.range' k (16 - k) := by
  simp [entries, List.range_eq_range']

/-- A pass over the entries from `k` on lowers and stands as R15 has it. -/
theorem passOver_passedFrom (n k : Nat) (hn : k + n = 16) (s : State) (hlen : s.egress.countdown.length = 16) :
    s.PassedFrom k (passOver (List.range' k n) s) := by
  induction n generalizing k s with
  | zero =>
    obtain rfl : k = 16 := by omega
    exact passedFrom_end s
  | succ n ih =>
    have hk : k < 16 := by omega
    rw [List.range'_succ]
    rcases egressEntry_cases s k with h | ⟨hv, hp⟩ | ⟨h, hc⟩ | ⟨h, hc⟩
    · have hnot : ¬ s.periodic k := fun hp => by simp [State.periodic, h] at hp
      rw [passOver_invalid h]
      exact (ih (k + 1) (by omega) s hlen).past hk (fun _ => Iff.rfl) (fun _ _ => rfl) ⟨fun hp => absurd hp hnot, fun _ => rfl⟩
    · have hnot : ¬ s.periodic k := fun h => h.2 hp
      have hsame : ∀ i, (if s.power.state = .run then onChange k s else s).countdown i = s.countdown i := fun i => by
        split <;> simp [State.countdown]
      rw [passOver_onChange hv hp]
      refine (ih (k + 1) (by omega) _ ?_).past hk (fun i => ?_) (fun i _ => hsame i)
        ⟨fun hp => absurd hp hnot, fun _ => hsame k⟩
      · split <;> simp [hlen]
      · split <;> simp [State.periodic, State.egressEntry]
    · rw [passOver_stands h hc]
      exact passedFrom_stands hlen hk h hc
    · have hcount : ∀ i, (setCountdown k (s.countdown k - 1) s).countdown i =
          if i = k then s.countdown k - 1 else s.countdown i := setCountdown_countdown (by omega) _
      rw [passOver_counts h hc]
      refine State.PassedFrom.past (u := setCountdown k (s.countdown k - 1) s) hk (fun _ => Iff.rfl) (fun i hi => ?_)
        ⟨fun _ => ⟨hc, ?_⟩, fun hnot => absurd h hnot⟩ (ih (k + 1) (by omega) _ (by simpa using hlen))
      · rw [hcount, if_neg hi]
      · rw [hcount, if_pos rfl]

theorem passOver_entries_passedFrom (k : Nat) (hk : k ≤ 16) (s : State) (hlen : s.egress.countdown.length = 16) :
    s.PassedFrom k (passOver (entries.drop k) s) := by
  rw [entries_drop]
  exact passOver_passedFrom (16 - k) k (by omega) s hlen

/-- The standby conditions looked at leave the scheduler. -/
theorem passedFrom_qualify {s t : State} {k : Nat} (h : s.PassedFrom k t) : s.PassedFrom k (qualify t) := h

/-! ### Passes over entries that are not valid -/

theorem passOver_append_invalid {is : List Nat} {s : State} (h : ∀ i ∈ is, (s.egressEntry i).valid = false) (js : List Nat) :
    passOver (is ++ js) s = passOver js s := by
  induction is with
  | nil => rfl
  | cons i is ih =>
    rw [List.cons_append, passOver_invalid (h i List.mem_cons_self), ih fun j hj => h j (List.mem_cons_of_mem i hj)]

theorem passOver_all_invalid {is : List Nat} {s : State} (h : ∀ i ∈ is, (s.egressEntry i).valid = false) :
    passOver is s = endPass s := by
  simpa [passOver] using passOver_append_invalid h []

/-! ### EGRESS_PASS and EGRESS_COUNTDOWN_EXPIRY -/

theorem exec_egressPass {s : State} (hs : s.Settled) : exec .egressPass s = .next (qualify (passOver entries s)) := by
  have he : exec .egressPass s = .next (external (passOver entries) s) := rfl
  rw [he, external_settled hs]

theorem exec_egressCountdownExpiry {s : State} (hs : s.phase = .running) :
    exec .egressCountdownExpiry s = .next (qualify (countdownExpires s)) := by
  have he : exec .egressCountdownExpiry s = .next (internal countdownExpires s) := rfl
  rw [he, internal_running hs]

theorem passOver_onlyIn (is : List Nat) (s : State) : s.OnlyIn [.bus, .signals, .egress, .power] (qualify (passOver is s)) := by
  refine State.OnlyIn.qualify (fun b hb => ?_) (by simp)
  cases b <;> simp_all [Block.Same]

/-- The part as a countdown's expiry leaves it before the pass goes on (R15): the frame offered in RUN, the countdown reloaded. -/
def State.reloaded (s : State) (i : Nat) : State :=
  { s with
    bus := if s.power.state = .run then s.bus.offerEgress (s.egressFrame (s.egressEntry i)) else s.bus
    egress := { s.egress with countdown := s.egress.countdown.set i (s.egressEntry i).period, passAt := none } }

theorem countdownExpires_at {s : State} {i : Nat} (h : s.egress.passAt = some i) :
    countdownExpires s = passOver (entries.drop (i + 1)) (s.reloaded i) := by
  simp only [countdownExpires, h, State.reloaded]
  split <;> rfl

theorem countdownExpires_none {s : State} (h : s.egress.passAt = none) : countdownExpires s = s := by
  simp [countdownExpires, h]

/-- An on-change entry that is the only valid one: the pass meets it and ends. -/
theorem passOver_single {s : State} {i : Nat} (hrun : s.power.state = .run) (hi : i < 16)
    (hv : (s.egressEntry i).valid = true) (hp : (s.egressEntry i).period = 0)
    (hothers : ∀ j, j < 16 → j ≠ i → (s.egressEntry j).valid = false) :
    passOver entries s = endPass (onChange i s) := by
  have hsplit : entries = List.range' 0 i ++ i :: List.range' (i + 1) (15 - i) := by
    have hcut := List.range'_append_1 (s := 0) (m := i) (n := 15 - i + 1)
    rw [Nat.zero_add, List.range'_succ, show i + (15 - i + 1) = 16 by omega] at hcut
    rw [hcut, entries, List.range_eq_range']
  have hafter : ∀ j ∈ List.range' (i + 1) (15 - i), ((onChange i s).egressEntry j).valid = false := by
    intro j hj
    have hsame : (onChange i s).egressEntry j = s.egressEntry j := by simp [State.egressEntry]
    rw [List.mem_range'_1] at hj
    rw [hsame]
    exact hothers j (by omega) (by omega)
  have hbefore : ∀ j ∈ List.range' 0 i, (s.egressEntry j).valid = false := by
    intro j hj
    rw [List.mem_range'_1] at hj
    exact hothers j (by omega) (by omega)
  rw [hsplit, passOver_append_invalid hbefore, passOver_onChange hv hp, if_pos hrun, passOver_all_invalid hafter]

end Sys2Proof.Machine
end

section
/-! PROOF. The payload of an egress frame (R16), and the statement on the scheduler (O26). -/

namespace Sys2Proof.Machine

/-! ### Bytes -/

@[simp] theorem le_length (w n : Nat) : (le w n).length = w := by
  induction w generalizing n with
  | zero => rfl
  | succ w ih => simp [le, ih]

@[simp] theorem padTo_length (w : Nat) (b : List Byte) : (padTo w b).length = w := by
  induction w generalizing b with
  | zero => rfl
  | succ w ih => cases b <;> simp [padTo, ih]

/-- Bytes read back as the number they were written for, modulo their size (R205). -/
theorem unLe_le (w n : Nat) : unLe (le w n) = n % 2 ^ (8 * w) := by
  induction w generalizing n with
  | zero => simp [le, unLe, Nat.mod_one]
  | succ w ih =>
    have hpow : 2 ^ (8 * (w + 1)) = 256 * 2 ^ (8 * w) := by ring
    rw [le, unLe, ih, hpow, Nat.mod_mul]
    simp [byte]

theorem unLe_leS (w : Nat) (i : Int) : (unLe (leS w i) : Int) = i % 2 ^ (8 * w) := by
  have hpos : (0 : Int) < 2 ^ (8 * w) := by positivity
  have hnonneg := Int.emod_nonneg i hpos.ne'
  have hlt : (i % 2 ^ (8 * w)).toNat < 2 ^ (8 * w) := by
    have := Int.emod_lt_of_pos i hpos
    zify
    rwa [Int.toNat_of_nonneg hnonneg]
  rw [leS, unLe_le, twos, Nat.mod_eq_of_lt hlt, Int.toNat_of_nonneg hnonneg]

theorem byteAt_padTo {w k : Nat} (h : k < w) (b : List Byte) : byteAt (padTo w b) k = byteAt b k := by
  induction w generalizing b k with
  | zero => omega
  | succ w ih =>
    cases b with
    | nil =>
      cases k with
      | zero => rfl
      | succ k => simpa [byteAt, padTo] using ih (b := []) (Nat.lt_of_succ_lt_succ h)
    | cons x xs =>
      cases k with
      | zero => rfl
      | succ k => simpa [byteAt, padTo] using ih (b := xs) (Nat.lt_of_succ_lt_succ h)

/-! ### Bytes laid over others -/

theorem overlayBytes_length {p : Nat} {b onto : List Byte} (h : p + b.length ≤ onto.length) :
    (overlayBytes p b onto).length = onto.length := by
  simp only [overlayBytes, List.length_append, List.length_take, List.length_drop]
  omega

/-- Bytes laid over others show inside their place; outside it the others show. -/
theorem overlayBytes_getElem? {p : Nat} {b onto : List Byte} (h : p + b.length ≤ onto.length) (k : Nat) :
    (overlayBytes p b onto)[k]? = if p ≤ k ∧ k < p + b.length then b[k - p]? else onto[k]? := by
  have htake : (onto.take p).length = p := by rw [List.length_take]; omega
  rw [overlayBytes, List.append_assoc]
  by_cases hlow : k < p
  · rw [List.getElem?_append_left (by omega), List.getElem?_take_of_lt hlow, if_neg (by omega)]
  · rw [List.getElem?_append_right (by omega), htake]
    by_cases hin : k < p + b.length
    · rw [List.getElem?_append_left (by omega), if_pos (by omega)]
    · rw [List.getElem?_append_right (by omega), List.getElem?_drop, if_neg (by omega)]
      congr 1
      omega

/-! ### Items -/

/-- What an item writes: its source's value, or 0xFF in each byte where it names no source (R16). -/
def State.itemCode (s : State) (x : EgressItem) : List Byte :=
  match s.source x.source x.selector with
  | some v => encodeItem x.width x.saturate v
  | none => allOnes x.width

theorem encodeItem_length (w : Nat) (sat : Bool) (v : SourceValue) : (encodeItem w sat v).length = w := by
  unfold encodeItem
  split <;> simp [allOnes, leS]

theorem itemCode_length (s : State) (x : EgressItem) : (s.itemCode x).length = x.width := by
  unfold State.itemCode
  split
  · exact encodeItem_length _ _ _
  · simp [allOnes]

/-- Items laid one after another over bytes. -/
def State.layItems (s : State) (xs : List EgressItem) (onto : List Byte) : List Byte :=
  xs.foldl (fun b x => overlayBytes x.position (s.itemCode x) b) onto

theorem compose_eq (s : State) (e : EgressEntry) : s.compose e = s.layItems e.items (allOnes e.length) := by
  unfold State.compose State.layItems State.itemCode
  congr 1
  funext b x
  cases s.source x.source x.selector <;> rfl

section
variable {s : State} {x : EgressItem} {xs : List EgressItem} {onto : List Byte}

theorem layItems_length (h : ∀ x ∈ xs, x.position + x.width ≤ onto.length) : (s.layItems xs onto).length = onto.length := by
  induction xs generalizing onto with
  | nil => rfl
  | cons x xs ih =>
    have hx : (overlayBytes x.position (s.itemCode x) onto).length = onto.length :=
      overlayBytes_length (by simpa [itemCode_length] using h x List.mem_cons_self)
    calc (s.layItems (x :: xs) onto).length
        = (s.layItems xs (overlayBytes x.position (s.itemCode x) onto)).length := rfl
      _ = onto.length := by rw [ih (by simpa [hx] using fun y hy => h y (List.mem_cons_of_mem x hy)), hx]

/-- A byte that no item covers is the byte below. -/
theorem layItems_outside (h : ∀ x ∈ xs, x.position + x.width ≤ onto.length) {k : Nat}
    (hk : ∀ x ∈ xs, k < x.position ∨ x.position + x.width ≤ k) : (s.layItems xs onto)[k]? = onto[k]? := by
  induction xs generalizing onto with
  | nil => rfl
  | cons x xs ih =>
    have hfit : x.position + (s.itemCode x).length ≤ onto.length := by
      simpa [itemCode_length] using h x List.mem_cons_self
    have hout := hk x List.mem_cons_self
    calc (s.layItems (x :: xs) onto)[k]?
        = (s.layItems xs (overlayBytes x.position (s.itemCode x) onto))[k]? := rfl
      _ = (overlayBytes x.position (s.itemCode x) onto)[k]? :=
          ih (fun y hy => by simpa [overlayBytes_length hfit] using h y (List.mem_cons_of_mem x hy))
            fun y hy => hk y (List.mem_cons_of_mem x hy)
      _ = onto[k]? := by
          rw [overlayBytes_getElem? hfit, itemCode_length, if_neg (by omega)]

/-- A byte that an item covers is the item's, where no two items share a byte (R18). -/
theorem layItems_inside (h : ∀ x ∈ xs, x.position + x.width ≤ onto.length) (hd : disjointItems xs = true) (hx : x ∈ xs)
    {j : Nat} (hj : j < x.width) : (s.layItems xs onto)[x.position + j]? = (s.itemCode x)[j]? := by
  induction xs generalizing onto with
  | nil => simp at hx
  | cons y ys ih =>
    have hfit : y.position + (s.itemCode y).length ≤ onto.length := by
      simpa [itemCode_length] using h y List.mem_cons_self
    have hrest : ∀ z ∈ ys, z.position + z.width ≤ (overlayBytes y.position (s.itemCode y) onto).length := fun z hz => by
      simpa [overlayBytes_length hfit] using h z (List.mem_cons_of_mem y hz)
    simp only [disjointItems, Bool.and_eq_true, List.all_eq_true, Bool.or_eq_true, decide_eq_true_eq] at hd
    obtain ⟨hapart, hd⟩ := hd
    have hstep : s.layItems (y :: ys) onto = s.layItems ys (overlayBytes y.position (s.itemCode y) onto) := rfl
    rw [hstep]
    rcases List.mem_cons.mp hx with rfl | hmem
    · have hout : ∀ z ∈ ys, x.position + j < z.position ∨ z.position + z.width ≤ x.position + j := fun z hz => by
        have := hapart z hz
        omega
      rw [layItems_outside hrest hout, overlayBytes_getElem? hfit, itemCode_length, if_pos (by omega),
        Nat.add_sub_cancel_left]
    · exact ih hrest hd hmem

end

/-! ### The length of an entry (R16) -/

theorem foldl_max_le_iff (l : List Nat) (a n : Nat) : l.foldl max a ≤ n ↔ a ≤ n ∧ ∀ x ∈ l, x ≤ n := by
  induction l generalizing a with
  | nil => simp
  | cons y ys ih => simp [ih, and_assoc]

theorem EgressEntry.length_le_iff (e : EgressEntry) (n : Nat) :
    e.length ≤ n ↔ ∀ x ∈ e.items, x.position + x.width ≤ n := by
  simp [EgressEntry.length, foldl_max_le_iff]

theorem EgressEntry.item_le_length {e : EgressEntry} {x : EgressItem} (hx : x ∈ e.items) :
    x.position + x.width ≤ e.length :=
  (e.length_le_iff e.length).mp le_rfl x hx

/-! ### What a composed payload holds (R16) -/

section
variable {s : State} {e : EgressEntry} {x : EgressItem}

theorem items_fit (e : EgressEntry) : ∀ x ∈ e.items, x.position + x.width ≤ (allOnes e.length).length := fun x hx => by
  simpa [allOnes] using EgressEntry.item_le_length hx

theorem compose_length (s : State) (e : EgressEntry) : (s.compose e).length = e.length := by
  rw [compose_eq, layItems_length (items_fit e)]
  simp [allOnes]

theorem compose_uncovered {k : Nat} (hk : k < e.length) (h : ∀ x ∈ e.items, k < x.position ∨ x.position + x.width ≤ k) :
    byteAt (s.compose e) k = 255 := by
  have hbyte : (s.compose e)[k]? = some (byte 255) := by
    rw [compose_eq, layItems_outside (items_fit e) h]
    simp [allOnes, hk]
  simp [byteAt, hbyte, byte]

/-- At its position a payload holds what the item writes. -/
theorem compose_item (hd : disjointItems e.items = true) (hx : x ∈ e.items) :
    ((s.compose e).drop x.position).take x.width = s.itemCode x := by
  refine List.ext_getElem? fun j => ?_
  by_cases hj : j < x.width
  · rw [List.getElem?_take_of_lt hj, List.getElem?_drop, compose_eq, layItems_inside (items_fit e) hd hx hj]
  · rw [List.getElem?_take_eq_none (by omega), List.getElem?_eq_none (by rw [itemCode_length]; omega)]

theorem itemCode_of_source {v : SourceValue} (h : s.source x.source x.selector = some v) :
    s.itemCode x = encodeItem x.width x.saturate v := by
  simp [State.itemCode, h]

end

/-- An unsigned value is a number from 0 up. -/
def SourceValue.UnsignedOk : SourceValue → Prop
  | .number false _ (some v) => 0 ≤ v
  | _ => True

@[simp] theorem unsignedSource_ok (size : Nat) (v : Option Nat) : (unsignedSource size v).UnsignedOk := by
  cases v <;> simp [unsignedSource, SourceValue.UnsignedOk]

@[simp] theorem signedSource_ok (size : Nat) (v : Option Int) : (signedSource size v).UnsignedOk := trivial

@[simp] theorem bytes_ok (b : List Byte) : (SourceValue.bytes b).UnsignedOk := trivial

/-- Every source's value is of one of the three makes. -/
theorem source_ok (s : State) (c sel : Nat) : ∀ v ∈ s.source c sel, v.UnsignedOk := by
  unfold State.source
  split
  case h_1 | h_2 => split <;> simp
  all_goals simp

theorem source_unsigned_nonneg {s : State} {c sel size : Nat} {v : Int}
    (h : s.source c sel = some (.number false size (some v))) : 0 ≤ v :=
  source_ok s c sel _ h

/-! ### The bytes an item sends, by the make of its value -/

theorem unLe_unsigned {w : Nat} {sat : Bool} {size : Nat} {v : Int} (hv : 0 ≤ v) :
    (unLe (encodeItem w sat (.number false size (some v))) : Int) =
      if sat = true then max 0 (min (2 ^ (8 * w) - 2) v) else v % 2 ^ (8 * w) := by
  have hmod (m : Int) (hm : 0 ≤ m) : ((m.toNat % 2 ^ (8 * w) : Nat) : Int) = m % 2 ^ (8 * w) := by
    push_cast
    rw [Int.toNat_of_nonneg hm]
  rw [encodeItem, unLe_le]
  split
  · cases w with
    | zero =>
      have hneg : min (2 ^ (8 * 0) - 2) v ≤ 0 := (min_le_left _ _).trans (by decide)
      rw [max_eq_left hneg]
      simp [Nat.mod_one]
    | succ w =>
      have htop : (256 : Int) ≤ 2 ^ (8 * (w + 1)) := by
        calc (256 : Int) = 2 ^ 8 := by norm_num
          _ ≤ 2 ^ (8 * (w + 1)) := pow_le_pow_right₀ (by norm_num) (by omega)
      rw [clampI_eq_max_min (by omega), hmod _ (le_max_left _ _), Int.emod_eq_of_lt (by omega) (by omega)]
  · exact hmod v hv

theorem unLe_signed (w : Nat) (sat : Bool) (size : Nat) (v : Int) :
    (unLe (encodeItem w sat (.number true size (some v))) : Int) =
      (if sat = true then max (-2 ^ (8 * w - 1)) (min (2 ^ (8 * w - 1) - 1) v) else v) % 2 ^ (8 * w) := by
  have hpos : (0 : Int) < 2 ^ (8 * w - 1) := by positivity
  rw [encodeItem, unLe_leS]
  split
  · rw [clampI_eq_max_min (by omega)]
  · rfl

/-- A signal that is not FRESH has no value to send (R16). -/
theorem source_signal_stale {s : State} {sel : Nat} (hsel : sel < 32) (hq : (s.signal sel).quality ≠ .fresh) :
    s.source 1 sel = some (.number true 4 none) := by
  simp [State.source, hsel, State.freshSignal, hq, signedSource]

/-- What a countdown's expiry does before the pass goes on. -/
theorem reloaded_onlyIn (s : State) (i : Nat) : s.OnlyIn [.bus, .egress] (s.reloaded i) := by
  intro b hb
  cases b <;> simp_all [Block.Same, State.reloaded]

/-- Settles O26: a pass by `passOver_passedFrom`, `passOver_signals` and `passOver_silent`; a payload by the bytes its items lay down. -/
theorem egressPassesAndSends : Obligations.EgressPassesAndSends := by
  refine ⟨fun s hs hlen => ?_, fun s hrun hlen => ⟨fun hn => ?_, fun i hi hi16 => ?_⟩, fun s i hs hrun hi hv hp hothers => ?_,
    fun s e hd => ⟨compose_length s e, fun n => (e.length_le_iff n).mpr, fun k hk h => compose_uncovered hk h, fun x hx => ?_⟩⟩
  · refine ⟨_, exec_egressPass hs.1, passOver_onlyIn entries s, passedFrom_qualify ?_, ?_, fun hr => ?_⟩
    · exact passOver_entries_passedFrom 0 (by omega) s hlen
    · simpa using passOver_signals entries s
    · simpa using passOver_silent entries s hr
  · rw [exec_egressCountdownExpiry hrun, countdownExpires_none hn]
  · have hpassed : (s.reloaded i).PassedFrom (i + 1) (passOver (entries.drop (i + 1)) (s.reloaded i)) :=
      passOver_entries_passedFrom (i + 1) (by omega) _ (by simpa [State.reloaded] using hlen)
    refine ⟨_, (exec_egressCountdownExpiry hrun).trans (by rw [countdownExpires_at hi]),
      (reloaded_onlyIn s i).trans (passOver_onlyIn _ _) |>.mono (by simp), passedFrom_qualify hpassed, ?_, fun hr => ?_, fun hnone => ?_⟩
    · exact passOver_signals (entries.drop (i + 1)) (s.reloaded i)
    · have hsilent := passOver_silent (entries.drop (i + 1)) (s.reloaded i) hr
      simpa [State.reloaded, hr] using hsilent
    · have hinvalid : ∀ j ∈ entries.drop (i + 1), ((s.reloaded i).egressEntry j).valid = false := fun j hj => by
        rw [entries_drop, List.mem_range'_1] at hj
        exact hnone j (by omega) (by omega)
      rw [passOver_all_invalid hinvalid]
      simp [State.reloaded]
  · have hpass : exec .egressPass s = .next (qualify (endPass (onChange i s))) := by
      rw [exec_egressPass hs.1, passOver_single hrun hi hv hp hothers]
    refine ⟨_, hpass, ?_, fun hsame => ?_, fun hdiffers => ?_⟩
    · rw [← passOver_single hrun hi hv hp hothers]
      exact passOver_onlyIn entries s
    · rw [onChange_same hsame]
      simp
    · obtain ⟨hbus, hlast⟩ := onChange_differs hdiffers
      refine ⟨by simpa using hbus, fun hoff hroom => ?_, fun hfull => ?_⟩
      · have htakes : s.bus.takesEgress = true := by simp [Bus.takesEgress, hoff, hroom]
        simpa [htakes] using hlast
      · have hrefuses : s.bus.takesEgress = false := by
          rcases hfull with h | h <;> simp [Bus.takesEgress, h]
        simpa [hrefuses] using hlast
  · have hitem := compose_item (s := s) hd hx
    simp only [hitem]
    refine ⟨EgressEntry.item_le_length hx, fun size v h => ?_, fun size v h => ?_, fun sg size h => ?_, fun hx1 hsel hq => ?_,
      fun b h k hk => ?_⟩
    · rw [itemCode_of_source h, unLe_unsigned (source_unsigned_nonneg h)]
    · rw [itemCode_of_source h, unLe_signed]
    · rw [itemCode_of_source h]
      cases sg <;> rfl
    · rw [itemCode_of_source (v := .number true 4 none) (by rw [hx1]; exact source_signal_stale hsel hq)]
      rfl
    · rw [itemCode_of_source h]
      exact byteAt_padTo hk b

end Sys2Proof.Machine
end

section
/-! PROOF. Steps of the berth loop and the accountant that a count has made due (O47), the loop's two watches (O46), and the end of
a counted cycle (O44). -/

namespace Sys2Proof.Machine

/-! ### The commands of steps that follow -/

theorem exec_commandStall (p : Fin 12) (s : State) : exec (.commandStall p) s = .next (internal (commandStallStep p.val) s) := rfl

theorem exec_batteryBlindSet (s : State) : exec .batteryBlindSet s = .next (internal blindStep s) := rfl

theorem exec_estimateWindowClose (s : State) : exec .estimateWindowClose s = .next (internal estimateCloseStep s) := rfl

theorem exec_fullChargeEvent (s : State) : exec .fullChargeEvent s = .next (internal fullChargeStep s) := rfl

theorem exec_loopFailedAssert (s : State) : exec .loopFailedAssert s = .next (internal loopFailedStep s) := rfl

theorem exec_errorWindowEnd (s : State) : exec .errorWindowEnd s = .next (internal windowEndStep s) := rfl

theorem exec_receivedCycleEnd (s : State) : exec .receivedCycleEnd s = .next (internal receivedCycleEndStep s) := rfl

/-! ### Counts that are due (R35, R84, R103, R105) -/

/-- Settles O47: each of the four steps finds its count reached. -/
theorem countedStepsHappen : Obligations.CountedStepsHappen := by
  intro s hrun
  refine ⟨fun p u us hu hage hstall => ?_, fun hblind => ?_, fun n hn hage => ?_, fun hfull => ?_⟩
  · have hdue : (s.loopPos p.val).stallDue = true := by simp [LoopPos.stallDue, hu, hage, hstall]
    rw [exec_commandStall, internal_running hrun, commandStallStep, if_pos hdue]
    rfl
  · rw [exec_batteryBlindSet, internal_running hrun, blindStep, if_pos hblind]
    rfl
  · have hdue : s.energy.window.any (fun n => decide (3750 ≤ n)) = true := by simp [hn, hage]
    rw [exec_estimateWindowClose, internal_running hrun, estimateCloseStep, if_pos hdue]
    rfl
  · rw [exec_fullChargeEvent, internal_running hrun, fullChargeStep, if_pos hfull]
    rfl

/-! ### Notices raised (R196) -/

/-- A notice frame that falls due leaves the flags. -/
@[simp] theorem noticeDue_flags (s : State) : (noticeDue s).notices.flags = s.notices.flags := by
  simp only [noticeDue, noticeDueAs]
  split <;> rfl

theorem raise_flags (c : NoticeClass) (detail : List Byte) (s : State) :
    (raise c detail s).notices.flags = s.notices.flags ||| BitVec.ofNat 16 (2 ^ c.number) := by
  simp only [raise]
  split <;> simp

/-- A notice raised is latched, and no other flag is touched (R196). -/
theorem raise_flag (c : NoticeClass) (detail : List Byte) (s : State) (n : Nat) (hn : n < 16) :
    (raise c detail s).notices.flags.getLsbD n = (s.notices.flags.getLsbD n || decide (n = c.number)) := by
  rw [raise_flags, BitVec.getLsbD_or, BitVec.getLsbD_ofNat, Nat.testBit_two_pow]
  simp [hn, eq_comm]

theorem raise_flag_self (c : NoticeClass) (detail : List Byte) (s : State) :
    (raise c detail s).notices.flags.getLsbD c.number = true := by
  rw [raise_flag _ _ _ _ (by cases c <;> decide)]
  simp

theorem raise_nodes (c : NoticeClass) (detail : List Byte) (s : State) : (raise c detail s).nodes = s.nodes := by
  simp

/-! ### Node records by position -/

theorem State.node_congr {s t : State} (h : t.nodes = s.nodes) (p : Nat) : t.node p = s.node p := by
  simp only [State.node, h]

theorem State.node_modNode (s : State) (p q : Nat) (f : NodeRec → NodeRec) :
    (s.modNode p f).node q = if p = q ∧ q < s.nodes.length then f (s.node q) else s.node q := by
  by_cases hq : q < s.nodes.length
  · by_cases hp : p = q
    · simp [State.node, State.modNode, hq, hp]
    · simp [State.node, State.modNode, hq, hp]
  · simp [State.node, State.modNode, hq]

/-- A position in a presence state other than UNCONFIGURED has a record. -/
theorem State.node_lt {s : State} {p : Nat} (h : (s.node p).presence ≠ .unconfigured) : p < s.nodes.length := by
  by_contra hn
  simp [State.node, NodeRec.never, Nat.not_lt.mp hn] at h

@[simp] theorem State.modNode_nodes_length (s : State) (p : Nat) (f : NodeRec → NodeRec) :
    (s.modNode p f).nodes.length = s.nodes.length := by
  simp [State.modNode]

/-- A record as its position enters LOST or MISMATCH (R38, R39). -/
def NodeRec.lose (st : Presence) (r : NodeRec) : NodeRec := { r with presence := st, count := 0, stale := true }

/-- Of the records, `loseNode` writes that of its position: the owners told write none. -/
theorem loseNode_nodes (st : Presence) (p : Nat) (s : State) :
    (loseNode st p s).nodes = (s.modNode p (NodeRec.lose st)).nodes := by
  simp only [loseNode, raisePresence_frame, tellStaleMark_frame]
  split
  · simp only [tellLeft_frame]
    rfl
  · rfl

/-- The last thing a position that is lost does is to raise NODE_PRESENCE (R44). -/
theorem loseNode_flag (st : Presence) (p : Nat) (s : State) : (loseNode st p s).notices.flags.getLsbD 12 = true :=
  raise_flag_self .nodePresence _ _

/-! ### LOOP_FAILED (R31, R40) -/

/-- One position as LOOP_FAILED takes it. -/
def losePresent (p : Nat) (s : State) : State := if (s.node p).presence = .present then loseNode .lost p s else s

theorem losePresent_node (p q : Nat) (s : State) :
    (losePresent p s).node q =
      if p = q ∧ (s.node q).presence = .present then (s.node q).lose .lost else s.node q := by
  unfold losePresent
  split
  next h =>
    rw [State.node_congr (loseNode_nodes _ _ _), State.node_modNode]
    by_cases hp : p = q
    · subst hp
      simp [h, State.node_lt (s := s) (p := p) (by simp [h])]
    · simp [hp]
  next h =>
    by_cases hp : p = q
    · subst hp
      simp [h]
    · simp [hp]

/-- Each listed position is lost if it is PRESENT as its turn comes, and no other position's record is touched. -/
theorem forEach_losePresent_node (ps : List Nat) (hps : ps.Nodup) (s : State) (q : Nat) :
    (s.forEach ps losePresent).node q =
      if q ∈ ps ∧ (s.node q).presence = .present then (s.node q).lose .lost else s.node q := by
  induction ps generalizing s with
  | nil => simp [State.forEach]
  | cons p ps ih =>
    obtain ⟨hp, hps⟩ := List.nodup_cons.mp hps
    have hstep : s.forEach (p :: ps) losePresent = (losePresent p s).forEach ps losePresent := rfl
    rw [hstep, ih hps, losePresent_node]
    by_cases hq : p = q
    · subst hq
      simp [hp]
    · have hq' : ¬ q = p := fun h => hq h.symm
      simp [hq, hq']

@[simp] theorem losePresent_frame (p : Nat) (s : State) :
    (losePresent p s).tx = s.tx ∧ (losePresent p s).rx = s.rx := by
  unfold losePresent
  split <;> simp

/-- LOOP_FAILED is the loss of every PRESENT position, then its notice. -/
theorem loopFails_eq (s : State) :
    ∃ detail, loopFails s =
      raise .loopFailed detail ((s.modTx fun t => { t with failed := true }).forEach positions losePresent) := by
  simp only [loopFails]
  exact ⟨_, rfl⟩

theorem loopFails_tx (s : State) : (loopFails s).tx = { s.tx with failed := true } := by
  obtain ⟨detail, h⟩ := loopFails_eq s
  simp [h]

theorem loopFails_flag (s : State) : (loopFails s).notices.flags.getLsbD 2 = true := by
  obtain ⟨detail, h⟩ := loopFails_eq s
  rw [h]
  exact raise_flag_self .loopFailed _ _

theorem loopFails_node {p : Nat} (hp : p < 12) (s : State) :
    (loopFails s).node p = if (s.node p).presence = .present then (s.node p).lose .lost else s.node p := by
  obtain ⟨detail, h⟩ := loopFails_eq s
  have hmem : p ∈ positions := List.mem_range.mpr hp
  rw [h, State.node_congr (raise_nodes _ _ _), forEach_losePresent_node positions List.nodup_range]
  simp [hmem, State.node]

theorem loopFails_onlyIn (s : State) :
    s.OnlyIn [.bus, .tx, .nodes, .panel, .roster, .heater, .fridge, .lights, .rest, .notices, .power, .ret] (loopFails s) := by
  intro b hb
  cases b <;> simp_all [Block.Same]

/-! ### The error window (R32) -/

/-- The transmit side after the end of an error window. -/
def LoopTx.windowEnded (t : LoopTx) : LoopTx :=
  { t with windowCycles := 0, windowErrors := 0, lastWindow := t.windowErrors, degraded := decide (24 < t.windowErrors) }

theorem windowEnd_same {s : State} (h : s.tx.degraded = decide (24 < s.tx.windowErrors)) :
    windowEnd s = { s with tx := s.tx.windowEnded } := by
  simp [windowEnd, h, State.modTx, LoopTx.windowEnded]

theorem windowEnd_changed {s : State} (h : s.tx.degraded ≠ decide (24 < s.tx.windowErrors)) :
    ∃ detail, windowEnd s = raise .loopDegraded detail { s with tx := s.tx.windowEnded } := by
  refine ⟨[edgeByte (decide (24 < s.tx.windowErrors)), byte (min 255 s.tx.windowErrors)], ?_⟩
  simp only [windowEnd, bne_iff_ne, ne_eq, h.symm, not_false_eq_true, if_true]
  rfl

theorem windowEnd_onlyIn (s : State) : s.OnlyIn [.bus, .tx, .notices, .power] (windowEnd s) := by
  intro b hb
  cases b <;> simp_all [Block.Same]

/-- Settles O46: what `loopFails` leaves of each record, and the end of a window with and without a change of its mark. -/
theorem loopWatchesReport : Obligations.LoopWatchesReport := by
  refine ⟨fun s hrun hfailed hcount => ?_, fun s hrun hcycles => ?_⟩
  · have hdue : s.tx.failedDue = true := by simp [LoopTx.failedDue, hfailed, hcount]
    have he : exec .loopFailedAssert s = .next (qualify (qualify (loopFails s))) := by
      rw [exec_loopFailedAssert, internal_running hrun, loopFailedStep, if_pos hdue]
    refine ⟨_, he, ?_, ?_, fun p hp hpres => ?_, fun p hp hpres => ?_,
      ((loopFails_onlyIn s).qualify (by simp)).qualify (by simp)⟩
    · simpa using loopFails_tx s
    · exact loopFails_flag s
    · exact (loopFails_node hp s).trans (if_pos hpres)
    · exact (loopFails_node hp s).trans (if_neg hpres)
  · have he : exec .errorWindowEnd s = .next (qualify (windowEnd s)) := by
      rw [exec_errorWindowEnd, internal_running hrun, windowEndStep, if_pos hcycles]
    refine ⟨_, he, ?_⟩
    by_cases h : s.tx.degraded = decide (24 < s.tx.windowErrors)
    · refine ⟨?_, fun hne => absurd h hne, fun _ => ?_, (windowEnd_onlyIn s).qualify (by simp)⟩
      · simp [windowEnd_same h, LoopTx.windowEnded]
      · simp [windowEnd_same h]
    · obtain ⟨detail, hd⟩ := windowEnd_changed h
      refine ⟨?_, fun _ => ?_, fun he => absurd he h, (windowEnd_onlyIn s).qualify (by simp)⟩
      · simp [hd, LoopTx.windowEnded]
      · rw [hd]
        exact raise_flag_self .loopDegraded _ _

/-! ### The end of a counted cycle (R38, R39, R43) -/

theorem receivedCycleEnds_node {p : Nat} (hp : p < 12) (s : State) :
    (receivedCycleEnds s).node p = (s.node p).cycleEnd (s.kindAt p) := by
  simp [receivedCycleEnds, State.node, positions, hp]

theorem receivedCycleEnds_onlyIn (s : State) : s.OnlyIn [.rx, .nodes, .power] (receivedCycleEnds s) := by
  intro b hb
  cases b <;> simp_all [Block.Same]

section CycleEnd
variable {k : NodeKind} {r : NodeRec}

/-- What the end of a cycle leaves of a record, whatever its presence state. -/
theorem NodeRec.cycleEnd_keeps (k : NodeKind) (r : NodeRec) :
    (r.cycleEnd k).result = .nothing ∧ (r.cycleEnd k).measures = r.measures ∧ (r.cycleEnd k).stale = r.stale ∧
      (r.cycleEnd k).heldA = r.heldA ∧ (r.cycleEnd k).heldB = r.heldB := by
  by_cases ha : r.result = .accepted <;> cases hp : r.presence <;> simp [NodeRec.cycleEnd, ha, hp]
  all_goals split <;> simp

/-- A record with an accepted message keeps its debounce candidates, another loses them (R43). -/
theorem NodeRec.cycleEnd_candidates (k : NodeKind) (r : NodeRec) :
    (r.cycleEnd k).candA = (if r.result = .accepted then r.candA else none) ∧
      (r.cycleEnd k).candB = (if r.result = .accepted then r.candB else none) := by
  by_cases ha : r.result = .accepted <;> cases hp : r.presence <;> simp [NodeRec.cycleEnd, ha, hp]
  all_goals split <;> simp

theorem NodeRec.cycleEnd_present (h : r.presence = .present) :
    (r.cycleEnd k).presence = .present ∧ (r.cycleEnd k).count = if r.result = .accepted then 0 else r.count + 1 := by
  by_cases ha : r.result = .accepted <;> simp [NodeRec.cycleEnd, h, ha]

theorem NodeRec.cycleEnd_waiting (h : r.presence = .seeking ∨ r.presence = .lost) :
    (r.cycleEnd k).presence = r.presence ∧ (r.cycleEnd k).count = if r.result = .accepted then r.count + 1 else 0 := by
  rcases h with h | h <;> by_cases ha : r.result = .accepted <;> simp [NodeRec.cycleEnd, h, ha]

theorem NodeRec.cycleEnd_mismatch (h : r.presence = .mismatch) :
    (r.cycleEnd k).presence = (if k = .none ∧ r.result ≠ .foreign then .unconfigured else .mismatch) ∧
      (r.cycleEnd k).count = if k = .none ∧ r.result ≠ .foreign then 0 else r.count := by
  by_cases ha : r.result = .accepted <;> by_cases hk : k = .none <;> by_cases hf : r.result = .foreign <;>
    simp_all [NodeRec.cycleEnd]

theorem NodeRec.cycleEnd_unconfigured (h : r.presence = .unconfigured) :
    (r.cycleEnd k).presence = .unconfigured ∧ (r.cycleEnd k).count = r.count := by
  by_cases ha : r.result = .accepted <;> simp [NodeRec.cycleEnd, h, ha]

end CycleEnd

/-- Settles O44: each record after the end of the cycle is its `cycleEnd`, presence state by presence state. -/
theorem countedCycleEnds : Obligations.CountedCycleEnds := by
  intro s hrun hdue hready
  have he : exec .receivedCycleEnd s = .next (qualify (receivedCycleEnds s)) := by
    rw [exec_receivedCycleEnd, internal_running hrun, receivedCycleEndStep, if_pos ⟨hdue, hready⟩]
  refine ⟨_, he, (receivedCycleEnds_onlyIn s).qualify (by simp), rfl, fun p hp => ?_⟩
  have hnode : (qualify (receivedCycleEnds s)).node p = (s.node p).cycleEnd (s.kindAt p) := receivedCycleEnds_node hp s
  obtain ⟨hresult, hmeasures, hstale, hheldA, hheldB⟩ := (s.node p).cycleEnd_keeps (s.kindAt p)
  obtain ⟨hcandA, hcandB⟩ := (s.node p).cycleEnd_candidates (s.kindAt p)
  simp only [hnode, beq_iff_eq, beq_eq_false_iff_ne]
  refine ⟨hresult, hmeasures, hstale, hheldA, hheldB, NodeRec.cycleEnd_present, NodeRec.cycleEnd_waiting,
    fun h hk hf => ?_, fun h hkf => ?_, NodeRec.cycleEnd_unconfigured, fun ha => ?_, fun ha => ?_⟩
  · simpa [hk, hf] using NodeRec.cycleEnd_mismatch (k := s.kindAt p) h
  · have hstays : ¬ (s.kindAt p = .none ∧ (s.node p).result ≠ .foreign) := fun hn => hkf.elim (· hn.1) hn.2
    simpa only [if_neg hstays] using NodeRec.cycleEnd_mismatch (k := s.kindAt p) h
  · exact ⟨hcandA.trans (if_neg ha), hcandB.trans (if_neg ha)⟩
  · exact ⟨hcandA.trans (if_pos ha), hcandB.trans (if_pos ha)⟩

end Sys2Proof.Machine
end

section
/-! PROOF. The transmit side of the berth loop: commands, transmit cycles and the line (O39). -/

namespace Sys2Proof.Machine

/-! ### Commands (R22, R205) -/

theorem commandMessage_sum (k : NodeKind) (seq : Nat) (p : List Byte) :
    ((commandMessage k seq p).map BitVec.toNat).sum % 256 = 0 := by
  simp only [commandMessage, checkByte, byte, List.map_append, List.map_cons, List.map_nil, List.sum_append, List.sum_cons,
    List.sum_nil, BitVec.toNat_ofNat]
  omega

/-- The header of a command holds the direction, the kind and the sequence. -/
theorem commandMessage_header (k : NodeKind) {seq : Nat} (h : seq < 16) (p : List Byte) :
    byteAt (commandMessage k seq p) 0 = 2 * k.code + 16 * seq := by
  have hk : k.code ≤ 6 := by cases k <;> decide
  simp only [commandMessage, byteAt, byte, List.cons_append, List.getD_cons_zero, BitVec.toNat_ofNat]
  omega

/-! ### Slots (R21, R205) -/

theorem bitsValue_testBit (w n : Nat) : bitsValue ((List.range w).map n.testBit) = n % 2 ^ w := by
  induction w generalizing n with
  | zero => simp [bitsValue, Nat.mod_one]
  | succ w ih =>
    have hshift : (List.range w).map (n.testBit ∘ Nat.succ) = (List.range w).map (n / 2).testBit :=
      List.map_congr_left fun j _ => by simp [Nat.testBit_succ]
    have hbit : bit (n.testBit 0) = n % 2 := by
      rcases Nat.mod_two_eq_zero_or_one n with h | h <;> simp [bit, Nat.testBit_zero, h]
    rw [List.range_succ_eq_map, List.map_cons, List.map_map, hshift, bitsValue, ih, hbit, pow_succ', Nat.mod_mul]

@[simp] theorem slotBits_length (b : Byte) : (slotBits b).length = 10 := by
  simp [slotBits]

/-- The byte a slot holds is the byte it was sent for. -/
theorem slotBits_value (b : Byte) : byte (bitsValue ((slotBits b).take 8)) = b := by
  have htake : (slotBits b).take 8 = (List.range 8).map b.toNat.testBit := by
    simp only [slotBits]
    rw [List.take_left' (by simp)]
    rfl
  rw [htake, bitsValue_testBit, byte]
  exact BitVec.eq_of_toNat_eq (by simpa using b.isLt)

/-- A slot as it is sent has even parity and a stop bit of 1. -/
theorem slotBits_noError (b : Byte) : slotError (slotBits b) = false := by
  have htake : (slotBits b).take 9 =
      (List.range 8).map b.getLsbD ++ [(((List.range 8).map b.getLsbD).filter id).length % 2 == 1] := by
    simp [slotBits, List.take_append]
  have hstop : (slotBits b).getD 9 false = true := by
    simp [slotBits]
  simp only [slotError, htake, hstop, List.filter_append, List.length_append, Bool.not_true, Bool.or_false]
  rcases Nat.mod_two_eq_zero_or_one (((List.range 8).map b.getLsbD).filter id).length with h | h
  · simp [h]
  · simp [h, Nat.add_mod]

/-! ### Rounds on the line (R21) -/

/-- Of blocks of one length laid end to end, the block at place `p` starts at `n * p`. -/
theorem take_drop_flatten {α : Type} {n : Nat} {blocks : List (List α)} (h : ∀ b ∈ blocks, b.length = n) {p : Nat}
    (hp : p < blocks.length) : (blocks.flatten.drop (n * p)).take n = blocks[p] := by
  induction blocks generalizing p with
  | nil => simp at hp
  | cons b bs ih =>
    obtain ⟨hb, hbs⟩ := List.forall_mem_cons.mp h
    cases p with
    | zero => simp [List.take_left' hb]
    | succ p =>
      have hlen : n * (p + 1) = b.length + n * p := by rw [hb]; ring
      simpa [hlen] using ih hbs (by simpa using hp)

/-- The slots of a round, in the order of their positions. -/
def LoopTx.slots (t : LoopTx) : List (List Bool) :=
  positions.map fun p => slotBits ((t.pos.getD p LoopPos.init).message.getD t.round 0)

theorem LoopTx.slots_length (t : LoopTx) : ∀ b ∈ t.slots, b.length = 10 := by
  intro b hb
  obtain ⟨p, _, rfl⟩ := List.mem_map.mp hb
  exact slotBits_length _

theorem LoopTx.roundBits_eq (t : LoopTx) : t.roundBits = marker t.round :: t.slots.flatten := rfl

theorem LoopTx.roundBits_length (t : LoopTx) : t.roundBits.length = 121 := by
  have hlen : t.slots.map List.length = List.replicate 12 10 :=
    List.eq_replicate_iff.mpr ⟨by simp [LoopTx.slots, positions], by simpa using t.slots_length⟩
  simp [LoopTx.roundBits_eq, List.length_flatten, hlen]

theorem LoopTx.roundBits_slot (t : LoopTx) {p : Nat} (hp : p < 12) :
    (t.roundBits.drop (1 + 10 * p)).take 10 = slotBits ((t.pos.getD p LoopPos.init).message.getD t.round 0) := by
  have hlt : p < t.slots.length := by simpa [LoopTx.slots, positions] using hp
  rw [LoopTx.roundBits_eq, Nat.add_comm, List.drop_succ_cons, take_drop_flatten t.slots_length hlt]
  simp [LoopTx.slots, positions]

/-! ### TRANSMIT_CYCLE (R22, R31, R35) -/

theorem exec_transmitCycle (s : State) : exec .transmitCycle s = .next (external transmitCycle s) := rfl

theorem exec_receivedRound (bits : BitVec 121) (s : State) :
    exec (.receivedRound bits) s = .next (external (receivedRound bits) s) := rfl

theorem State.awake_of_standby {s : State} (h : s.power.state = .standby) : s.awake = false := by
  simp [State.awake, h]

/-- Of the transmit side, the end of a cycle counts a cycle of the error window and, out of sync, one of the watch (R31, R32). -/
theorem endCycle_tx (s : State) :
    (endCycle s).tx = { s.tx with
      outOfSync := if s.rx.state = .inSync then s.tx.outOfSync else min 5 (s.tx.outOfSync + 1)
      windowCycles := s.tx.windowCycles + 1 } := by
  simp [endCycle]

theorem endCycle_onlyIn (s : State) :
    s.OnlyIn [.tx, .panel, .roster, .energy, .heater, .fridge, .lights, .rest, .ret] (endCycle s) := by
  intro b hb
  cases b <;> simp_all [Block.Same]

theorem beginCycle_onlyIn (s : State) : s.OnlyIn [.tx] (beginCycle s) := by
  intro b hb
  cases b <;> simp_all [Block.Same]

theorem State.kindAt_congr {s t : State} (h : t.tables = s.tables) (p : Nat) : t.kindAt p = s.kindAt p := by
  simp only [State.kindAt, h]

theorem beginCycle_loopPos {p : Nat} (hp : p < 12) (s : State) :
    (beginCycle s).loopPos p = (s.loopPos p).begin (s.kindAt p) (s.payload p) := by
  simp [beginCycle, State.loopPos, positions, hp]

/-- What an awake part holds for a position after a cycle boundary. -/
theorem cycleBoundary_loopPos {p : Nat} (hp : p < 12) (s : State) :
    (beginCycle (endCycle s)).loopPos p = (s.loopPos p).begin (s.kindAt p) ((endCycle s).payload p) := by
  have hpos : (endCycle s).loopPos p = s.loopPos p := by simp [State.loopPos, endCycle_tx]
  have htables : (endCycle s).tables = s.tables := by simp
  rw [beginCycle_loopPos hp, hpos, State.kindAt_congr htables]

/-- A full list gives up its oldest item (R35). -/
theorem joinUnechoed_eq (u : Unechoed) (l : List Unechoed) :
    joinUnechoed u l = (if l.length < 8 then l else l.drop (l.length - 7)) ++ [u] := by
  unfold joinUnechoed
  split
  next h => rw [Nat.sub_eq_zero_of_le (by omega), List.drop_zero]
  next h => rw [List.drop_append_of_le_length (by omega)]; rfl

section Begin
variable {k : NodeKind} {payload : List Byte} {x : LoopPos}

theorem LoopPos.begin_unmapped (h : k = .none) :
    (x.begin k payload).message = padTo 8 [] ∧
      (x.begin k payload).unechoed = x.unechoed.map fun u => { u with cycles := u.cycles + 1 } := by
  simp [LoopPos.begin, h]

theorem LoopPos.begin_mapped (h : k ≠ .none) :
    (x.begin k payload).sent = payload ∧ (x.begin k payload).raise = false ∧
      (x.begin k payload).seq = (if x.raise = true ∨ payload ≠ x.sent then (x.seq + 1) % 16 else x.seq) ∧
      (x.begin k payload).message = commandMessage k (x.begin k payload).seq payload := by
  simp [LoopPos.begin, h]

theorem LoopPos.begin_unechoed (h : k ≠ .none) :
    (x.begin k payload).unechoed =
      let aged := x.unechoed.map fun u => { u with cycles := u.cycles + 1 }
      if x.raise = true ∨ payload ≠ x.sent then
        (if aged.length < 8 then aged else aged.drop (aged.length - 7)) ++ [{ seq := (x.begin k payload).seq, cycles := 0 }]
      else aged := by
  simp only [← joinUnechoed_eq]
  by_cases hup : x.raise = true ∨ payload ≠ x.sent <;> simp [LoopPos.begin, h, hup]

end Begin

/-- Settles O39: a command's bytes; a cycle boundary position by position by `LoopPos.begin`; the round's slots; the line at rest. -/
theorem cyclesCarryCheckedCommands : Obligations.CyclesCarryCheckedCommands := by
  refine ⟨fun k seq p hseq hp => ?_, fun s hs => ?_, fun b => ?_, fun s => ?_, fun s bits hs hstandby => ?_⟩
  · exact ⟨by simp [commandMessage, hp], commandMessage_sum k seq p, commandMessage_header k hseq p, by
      simp [commandMessage, ← hp]⟩
  · have he : exec .transmitCycle s = .next (qualify (beginCycle (endCycle s))) := by
      rw [exec_transmitCycle, external_settled hs.1, transmitCycle, if_pos hs.awake]
    refine ⟨_, he, rfl, ?_, ?_, fun p hp hk => ?_, fun p hp hk => ?_, ?_, ?_⟩
    · simp [beginCycle, endCycle_tx]
    · simp [beginCycle, endCycle_tx]
    · rw [show (qualify (beginCycle (endCycle s))).loopPos p = _ from cycleBoundary_loopPos hp s]
      exact LoopPos.begin_unmapped hk
    · obtain ⟨hsent, hraise, hseq, hmessage⟩ := LoopPos.begin_mapped (payload := (endCycle s).payload p) (x := s.loopPos p) hk
      rw [show (qualify (beginCycle (endCycle s))).loopPos p = _ from cycleBoundary_loopPos hp s]
      exact ⟨hsent, hraise, hseq, hmessage, LoopPos.begin_unechoed hk⟩
    · have hawake : (qualify (beginCycle (endCycle s))).awake = true := by
        simp [State.awake, hs.1.1, hs.2]
      simp [State.lineBits, hawake]
    · exact (((endCycle_onlyIn s).trans (beginCycle_onlyIn _)).mono (by simp)).qualify (by simp)
  · exact ⟨slotBits_length b, slotBits_noError b, slotBits_value b⟩
  · refine ⟨s.tx.roundBits_length, rfl, fun p hp => s.tx.roundBits_slot hp, fun hheld => ?_, fun hrun hstandby => ?_⟩
    · simp [State.lineBits, State.awake, hheld]
    · simp [State.lineBits, State.awake, hrun, hstandby]
  · have hasleep := State.awake_of_standby hstandby
    rw [exec_transmitCycle, exec_receivedRound, external_settled hs, external_settled hs, transmitCycle, receivedRound, hasleep]
    exact ⟨rfl, rfl⟩

end Sys2Proof.Machine
end

section
/-! PROOF. The receive side of the berth loop, bit by bit (O42). -/

namespace Sys2Proof.Machine

/-! ### What every step of the receive side keeps -/

/-- A read that no single application changes is as it was after all of them. -/
theorem State.forEach_read {α : Type} (read : State → α) {f : Nat → State → State} (h : ∀ i t, read (f i t) = read t)
    (s : State) (is : List Nat) : read (s.forEach is f) = read s := by
  unfold State.forEach
  induction is generalizing s with
  | nil => rfl
  | cons i is ih => rw [List.foldl_cons, ih, h]

/-- Of the transmit side, an accepted message writes only its position's record. -/
theorem acceptMessage_tx (p seq : Nat) (d : Decoded) (s : State) :
    (acceptMessage p seq d s).tx = (s.modLoopPos p (LoopPos.echo seq)).tx := by
  simp [acceptMessage]

/-- A complete message tested is set aside, or it is of another kind, or its owner accepts it (R34). -/
theorem testMessage_cases (m : ReadyMsg) (s : State) :
    testMessage m s = s ∨ testMessage m s = foreignMessage m.position s ∨
      ∃ d, testMessage m s = acceptMessage m.position (field (byteAt m.bytes 0) 4 4) d s := by
  rw [testMessage]
  by_cases hframe : m.dropped = true ∨ m.bad = true ∨ (m.bytes.map BitVec.toNat).sum % 256 ≠ 0 ∨
    ¬ bitAt (byteAt m.bytes 0) 0 = true
  · exact .inl (if_pos hframe)
  · rw [if_neg hframe]
    by_cases hkind : field (byteAt m.bytes 0) 1 3 ≠ (s.kindAt m.position).code
    · exact .inr (.inl (if_pos hkind))
    · rw [if_neg hkind]
      cases decodeStatus (s.kindAt m.position) m.bytes with
      | none => exact .inl rfl
      | some d => exact .inr (.inr ⟨d, rfl⟩)

@[simp] theorem testMessage_round (m : ReadyMsg) (s : State) : (testMessage m s).tx.round = s.tx.round := by
  rcases testMessage_cases m s with h | h | ⟨d, h⟩ <;> rw [h]
  · simp
  · rw [acceptMessage_tx]
    rfl

@[simp] theorem takeMessage_round (s : State) : (takeMessage s).tx.round = s.tx.round := by
  unfold takeMessage
  split <;> simp

@[simp] theorem takeMessage_last (s : State) : (takeMessage s).rx.last = s.rx.last := by
  unfold takeMessage
  split <;> simp

@[simp] theorem drainReceived_round (s : State) : (drainReceived s).tx.round = s.tx.round := by
  have htaken := State.forEach_read (·.tx.round) (fun _ => takeMessage_round) s (List.range s.rx.ready.length)
  simp only [drainReceived]
  split <;> simpa using htaken

@[simp] theorem drainReceived_last (s : State) : (drainReceived s).rx.last = s.rx.last := by
  have htaken := State.forEach_read (·.rx.last) (fun _ => takeMessage_last) s (List.range s.rx.ready.length)
  simp only [drainReceived]
  split
  · simpa [receivedCycleEnds] using htaken
  · simpa using htaken

@[simp] theorem markAllStale_nodes (s : State) :
    (markAllStale s).nodes = s.nodes.map fun r => { r with stale := true, candA := none, candB := none } := by
  simp [markAllStale]

/-- What a loss of sync leaves: the state that AUTO_REFRAME gives, the last alignment, and every record stale (R27). -/
theorem loseSync_left (toSearch : Bool) (s : State) :
    (loseSync toSearch s).rx.state = (if toSearch = true then .search else .hold) ∧
      (loseSync toSearch s).rx.last = s.rx.last ∧ (∀ r ∈ (loseSync toSearch s).nodes, r.stale = true) ∧
      (loseSync toSearch s).tx.round = s.tx.round := by
  refine ⟨?_, ?_, fun r hr => ?_, ?_⟩
  · cases toSearch <;> simp [loseSync, LoopRx.toSearch]
  · cases toSearch <;> simp [loseSync, LoopRx.toSearch]
  · obtain ⟨q, _, rfl⟩ : ∃ q ∈ _, _ = r := by simpa only [loseSync, markAllStale_nodes, List.mem_map] using hr
    rfl
  · simp [loseSync]

@[simp] theorem searchBit_tx (i : Nat) (s : State) : (searchBit i s).tx = s.tx := by
  simp only [searchBit]
  repeat' split
  all_goals rfl

theorem enterInSync_tx (c : Candidate) (s : State) :
    (enterInSync c s).tx = { s.tx with outOfSync := 0, failed := false } := by
  simp only [enterInSync]
  repeat' split
  all_goals simp

theorem confirmBit_round (i : Nat) (b : Bool) (c : Candidate) (s : State) : (confirmBit i b c s).tx.round = s.tx.round := by
  simp only [confirmBit]
  repeat' split
  all_goals simp [enterInSync_tx]

@[simp] theorem loseSync_round (toSearch : Bool) (s : State) : (loseSync toSearch s).tx.round = s.tx.round := by
  obtain ⟨_, _, _, hround⟩ := loseSync_left toSearch s
  exact hround

theorem syncBit_round (i : Nat) (b : Bool) (s : State) : (syncBit i b s).tx.round = s.tx.round := by
  simp only [syncBit, markerBit, slotDone]
  repeat' split
  all_goals simp

theorem receiveBit_round (i : Nat) (b : Bool) (s : State) : (receiveBit i b s).tx.round = s.tx.round := by
  simp only [receiveBit]
  repeat' split
  all_goals simp [confirmBit_round, syncBit_round]

/-! ### RECEIVED_ROUND -/

theorem receivedRound_ready {s : State} (hs : s.Ready) (bits : BitVec 121) :
    exec (.receivedRound bits) s = .next (qualify (receiveRound bits s)) := by
  rw [exec_receivedRound, external_settled hs.1, receivedRound, if_pos hs.awake]

theorem receiveBits_round (bits : BitVec 121) (s : State) (is : List Nat) :
    (is.foldl (fun u i => receiveBit i (bits.getLsbD i) u) s).tx.round = s.tx.round :=
  State.forEach_read (·.tx.round) (fun i t => receiveBit_round i (bits.getLsbD i) t) s is

/-- The bits of a round, then its number. -/
theorem receiveRound_eq (bits : BitVec 121) (s : State) :
    receiveRound bits s =
      let u := (List.range 121).foldl (fun u i => receiveBit i (bits.getLsbD i) u) s
      { u with tx := { u.tx with round := (s.tx.round + 1) % 8 } } := by
  simp only [receiveRound, State.forEach, State.modTx, receiveBits_round]

theorem receiveBit_hold {s : State} (h : s.rx.state = .hold) (i : Nat) (b : Bool) : receiveBit i b s = s := by
  simp [receiveBit, h]

theorem receiveBits_hold {s : State} (h : s.rx.state = .hold) (bits : BitVec 121) (is : List Nat) :
    is.foldl (fun u i => receiveBit i (bits.getLsbD i) u) s = s := by
  induction is with
  | nil => rfl
  | cons i is ih => rw [List.foldl_cons, receiveBit_hold h, ih]

/-! ### SEARCH (R24, R25) -/

/-- A part after a bit has joined the history of its position. -/
def State.heard (s : State) (i : Nat) (b : Bool) : State :=
  { s with rx := { s.rx with hist := s.rx.hist.modify i (Hist.push b) } }

theorem heard_onlyIn (s : State) (i : Nat) (b : Bool) : s.OnlyIn [.rx] (s.heard i b) := by
  intro k hk
  cases k <;> simp_all [Block.Same, State.heard]

section Bit
variable {s : State} {i : Nat} {b : Bool}

theorem receiveBit_search (h : s.rx.state = .search) : receiveBit i b s = searchBit i (s.heard i b) := by
  simp [receiveBit, h, State.heard, State.modRx]

theorem receiveBit_confirm {c : Candidate} (h : s.rx.state = .confirm) (hc : s.rx.candidate = some c) :
    receiveBit i b s = confirmBit i b c (s.heard i b) := by
  simp [receiveBit, h, hc, State.heard, State.modRx]

theorem receiveBit_inSync (h : s.rx.state = .inSync) : receiveBit i b s = syncBit i b (s.heard i b) := by
  simp [receiveBit, h, State.heard, State.modRx]

/-- A history of less than eight bits matches nothing (R24). -/
theorem matchAt_of_short (h : (s.rx.hist.getD i Hist.init).count < 7) : (s.heard i b).rx.matchAt i = none := by
  have hcount : ((s.heard i b).rx.hist.getD i Hist.init).count < 8 := by
    by_cases hi : i < s.rx.hist.length
    · have hlt : s.rx.hist[i].count < 7 := by simpa [hi] using h
      simp [State.heard, hi, Hist.push]
      omega
    · simp [State.heard, Nat.not_lt.mp hi, Hist.init]
  rw [LoopRx.matchAt, Hist.matched, if_neg (by omega)]

/-- While no position has eight bits and no candidate stands, a bit joins its history and nothing else happens. -/
theorem receiveBit_gathers (h : s.rx.state = .search) (hc : s.rx.candidate = none)
    (hcount : (s.rx.hist.getD i Hist.init).count < 7) : receiveBit i b s = s.heard i b := by
  have hmatch := matchAt_of_short (b := b) hcount
  have hnone : (s.heard i b).rx.candidate = none := hc
  simp [receiveBit_search h, searchBit, hmatch, hnone]

/-- The first bits of a round join the histories of their positions. -/
theorem receiveBits_gather (h : s.rx.state = .search) (hc : s.rx.candidate = none) (hlen : s.rx.hist.length = 121)
    (hcount : ∀ x ∈ s.rx.hist, x.count < 7) (bits : BitVec 121) (n : Nat) (hn : n ≤ 121) :
    (List.range n).foldl (fun u i => receiveBit i (bits.getLsbD i) u) s =
      { s with rx := { s.rx with
        hist := s.rx.hist.mapIdx fun i x => if i < n then x.push (bits.getLsbD i) else x } } := by
  induction n with
  | zero =>
    have hsame : s.rx.hist.mapIdx (fun _ x => x) = s.rx.hist := List.ext_getElem (by simp) (by simp)
    simp [hsame]
  | succ n ih =>
    rw [List.range_succ, List.foldl_append, ih (by omega), List.foldl_cons, List.foldl_nil]
    have hold : ((s.rx.hist.mapIdx fun i x => if i < n then x.push (bits.getLsbD i) else x).getD n Hist.init).count < 7 := by
      have hlt : n < s.rx.hist.length := by omega
      simpa [hlt] using hcount _ (List.getElem_mem hlt)
    rw [receiveBit_gathers (by exact h) (by exact hc) (by exact hold)]
    simp only [State.heard, State.mk.injEq, LoopRx.mk.injEq, true_and, and_true]
    refine List.ext_getElem (by simp) fun j hj _ => ?_
    rw [List.getElem_modify]
    simp only [List.getElem_mapIdx]
    rcases Nat.lt_trichotomy j n with hjn | hjn | hjn
    · simp [hjn, hjn.ne', Nat.lt_succ_of_lt hjn]
    · simp [hjn]
    · simp [hjn.ne, Nat.not_lt.mpr hjn.le, Nat.not_lt.mpr (Nat.succ_le_of_lt hjn)]

end Bit

/-- A part after SEARCH has looked at the history of position `i`: a first match is the candidate, a further one a mimic (R24, R25). -/
def State.noted (s : State) (i : Nat) : State :=
  match s.rx.matchAt i, s.rx.candidate with
  | some r, none => { s with rx := { s.rx with
      candidate := some { position := i, round := r, phase := (r + 8 - s.tx.round % 8) % 8 }, mimicSeen := false } }
  | some _, some c => if c.position = i then s else { s with rx := { s.rx with mimicSeen := true } }
  | none, _ => s

/-- A part at the end of a round in which SEARCH holds a candidate (R25, R26). -/
def State.searchEnds (s : State) : State :=
  if s.strict = true ∧ s.rx.mimicSeen = true then { s with rx := s.rx.toSearch }
  else { s with rx := { s.rx with state := .confirm, confirmed := 0 } }

theorem searchBit_eq (i : Nat) (s : State) :
    searchBit i s = if i = 120 ∧ (s.noted i).rx.candidate.isSome = true then (s.noted i).searchEnds else s.noted i := rfl

section Search
variable {s : State} {i r : Nat} {c : Candidate}

theorem noted_first (hm : s.rx.matchAt i = some r) (hc : s.rx.candidate = none) :
    s.noted i = { s with rx := { s.rx with
      candidate := some { position := i, round := r, phase := (r + 8 - s.tx.round % 8) % 8 }, mimicSeen := false } } := by
  simp only [State.noted, hm, hc]

theorem noted_further (hm : s.rx.matchAt i = some r) (hc : s.rx.candidate = some c) (hi : c.position ≠ i) :
    s.noted i = { s with rx := { s.rx with mimicSeen := true } } := by
  simp only [State.noted, hm, hc, if_neg hi]

theorem noted_unmatched (hm : s.rx.matchAt i = none) : s.noted i = s := by
  simp only [State.noted, hm]

theorem searchBit_early (hi : i ≠ 120) : searchBit i s = s.noted i := by
  rw [searchBit_eq, if_neg fun h => hi h.1]

theorem searchBit_last (hc : (s.noted 120).rx.candidate = some c) : searchBit 120 s = (s.noted 120).searchEnds := by
  rw [searchBit_eq, if_pos ⟨rfl, by simp [hc]⟩]

/-- The last bit of a round with the first match. -/
theorem searchBit_last_first (hm : s.rx.matchAt 120 = some r) (hc : s.rx.candidate = none) :
    searchBit 120 s = { s with rx := { s.rx with
      state := .confirm, confirmed := 0, mimicSeen := false
      candidate := some { position := 120, round := r, phase := (r + 8 - s.tx.round % 8) % 8 } } } := by
  have hnoted := noted_first hm hc
  rw [searchBit_last (by rw [hnoted]), hnoted]
  exact if_neg (by simp)

/-- The last bit of a round with a match beside the candidate. -/
theorem searchBit_last_further (hm : (s.rx.matchAt 120).isSome = true) (hc : s.rx.candidate = some c) (hi : c.position ≠ 120) :
    searchBit 120 s =
      if s.strict = true then { s with rx := s.rx.toSearch }
      else { s with rx := { s.rx with state := .confirm, confirmed := 0, mimicSeen := true } } := by
  obtain ⟨r, hr⟩ := Option.isSome_iff_exists.mp hm
  have hnoted := noted_further hr hc hi
  have hstrict : (s.strict = true ∧ true = true) = (s.strict = true) := by simp
  rw [searchBit_last (by rw [hnoted]; exact hc), hnoted, State.searchEnds]
  exact if_congr (iff_of_eq hstrict) rfl rfl

/-- The last bit of a round without a match, a candidate standing. -/
theorem searchBit_last_unmatched (hm : s.rx.matchAt 120 = none) (hc : s.rx.candidate = some c) :
    searchBit 120 s = s.searchEnds := by
  have hnoted := noted_unmatched hm
  rw [searchBit_last (by rw [hnoted]; exact hc), hnoted]

theorem searchBit_last_none (hm : s.rx.matchAt 120 = none) (hc : s.rx.candidate = none) : searchBit 120 s = s := by
  have hnoted := noted_unmatched hm
  rw [searchBit_eq, hnoted, if_neg (by simp [hc])]

end Search

/-! ### CONFIRM (R25, R26) -/

section Confirm
variable {s : State} {i : Nat} {b : Bool} {c : Candidate}

/-- Away from the candidate, a match is a mimic, and a mimic under MIMIC_STRICT searches again. -/
theorem confirmBit_elsewhere (hi : i ≠ c.position) :
    confirmBit i b c s =
      if (s.rx.matchAt i).isSome = true then
        if s.strict = true then { s with rx := s.rx.toSearch } else { s with rx := { s.rx with mimicSeen := true } }
      else if s.strict = true ∧ s.rx.mimicSeen = true then { s with rx := s.rx.toSearch } else s := by
  rw [confirmBit, if_neg hi]
  by_cases hm : (s.rx.matchAt i).isSome = true
  · have hstrict : (s.modRx fun x => { x with mimicSeen := true }).strict = s.strict := rfl
    simp only [if_pos hm, hstrict, State.modRx_rx, and_true]
    rfl
  · simp only [if_neg hm]
    rfl

theorem confirmBit_wrong (hi : i = c.position) (hb : b ≠ marker (c.round + 1 + s.rx.confirmed)) :
    confirmBit i b c s = { s with rx := s.rx.toSearch } := by
  rw [confirmBit, if_pos hi, if_neg hb]
  rfl

theorem confirmBit_right (hi : i = c.position) (hb : b = marker (c.round + 1 + s.rx.confirmed))
    (hok : ¬ (s.strict = true ∧ s.rx.mimicSeen = true)) :
    confirmBit i b c s =
      if s.rx.confirmed + 1 = 8 then enterInSync c s
      else { s with rx := { s.rx with confirmed := s.rx.confirmed + 1 } } := by
  have hok' : ¬ ((s.modRx fun x => { x with confirmed := x.confirmed + 1 }).strict = true ∧
      (s.modRx fun x => { x with confirmed := x.confirmed + 1 }).rx.mimicSeen = true) := hok
  rw [confirmBit, if_pos hi, if_pos hb]
  simp only [if_neg hok, if_neg hok']
  rfl

end Confirm

/-! ### Entry to IN_SYNC (R26, R29, R31) -/

/-- The receive side as IN_SYNC is entered with a candidate's alignment. -/
def LoopRx.synced (r : LoopRx) (c : Candidate) : LoopRx :=
  { r with
    state := .inSync, record := [], last := some { position := c.position, phase := c.phase }, round := c.round % 8,
    slotBits := [], slot := 0, assembling := false, parts := List.replicate 12 Assembly.init, candidate := none,
    confirmed := 0 }

/-- LOOP_REALIGNED as IN_SYNC is entered, if the last alignment was another (R29). -/
def State.realigned (s : State) (c : Candidate) : State :=
  match s.rx.last with
  | some a =>
    if a.position = c.position ∧ a.phase = c.phase then { s with rx := s.rx.synced c }
    else raise .loopRealigned [byte c.position, byte c.phase, byte a.position] { s with rx := s.rx.synced c }
  | none => { s with rx := s.rx.synced c }

/-- The watch's counts as IN_SYNC is entered, and the clearing edge of LOOP_FAILED (R31). -/
theorem enterInSync_eq (c : Candidate) (s : State) :
    enterInSync c s =
      let u := { s.realigned c with tx := { (s.realigned c).tx with outOfSync := 0, failed := false } }
      if (s.realigned c).tx.failed = true then raise .loopFailed [edgeByte false, byte (s.realigned c).rx.state.code] u else u :=
  rfl

@[simp] theorem realigned_frame (s : State) (c : Candidate) :
    (s.realigned c).rx = s.rx.synced c ∧ (s.realigned c).tx = s.tx := by
  unfold State.realigned
  repeat' split
  all_goals simp

theorem realigned_other {s : State} {c : Candidate} {a : Machine.Alignment} (h : s.rx.last = some a)
    (ha : a ≠ { position := c.position, phase := c.phase }) : (s.realigned c).notices.flags.getLsbD 11 = true := by
  have hne : ¬ (a.position = c.position ∧ a.phase = c.phase) := fun he => ha (by cases a; simp_all)
  simp only [State.realigned, h, if_neg hne]
  exact raise_flag_self .loopRealigned _ _

theorem realigned_same {s : State} {c : Candidate}
    (h : s.rx.last = none ∨ s.rx.last = some { position := c.position, phase := c.phase }) :
    s.realigned c = { s with rx := s.rx.synced c } := by
  rcases h with h | h <;> simp [State.realigned, h]

section EnterInSync
variable (c : Candidate) (s : State)

@[simp] theorem enterInSync_rx : (enterInSync c s).rx = s.rx.synced c := by
  rw [enterInSync_eq]
  dsimp only
  split <;> simp

theorem enterInSync_flag_realigned {a : Machine.Alignment} (h : s.rx.last = some a)
    (ha : a ≠ { position := c.position, phase := c.phase }) : (enterInSync c s).notices.flags.getLsbD 11 = true := by
  have hflag := realigned_other h ha
  rw [enterInSync_eq]
  dsimp only
  split
  · rw [raise_flag _ _ _ _ (by decide), hflag, Bool.true_or]
  · exact hflag

theorem enterInSync_flag_cleared (h : s.tx.failed = true) : (enterInSync c s).notices.flags.getLsbD 2 = true := by
  rw [enterInSync_eq]
  simp only [realigned_frame, h, if_true]
  exact raise_flag_self .loopFailed _ _

theorem enterInSync_quiet (h : s.rx.last = none ∨ s.rx.last = some { position := c.position, phase := c.phase })
    (hf : s.tx.failed = false) : (enterInSync c s).notices = s.notices ∧ (enterInSync c s).bus = s.bus := by
  rw [enterInSync_eq]
  simp [realigned_same h, hf]

theorem enterInSync_onlyIn : s.OnlyIn [.bus, .tx, .rx, .notices] (enterInSync c s) := by
  intro b hb
  cases b <;> simp_all [Block.Same]

end EnterInSync

/-! ### IN_SYNC (R27, R32, R33) -/

/-- The comparison record with one more comparison, the newest eight of them. -/
def LoopRx.compared (r : LoopRx) (b : Bool) : List Bool :=
  (r.record ++ [b != marker ((r.round + 1) % 8)]).drop (r.record.length + 1 - 8)

/-- The receive side as a new round begins. -/
def LoopRx.nextRound (r : LoopRx) (b : Bool) : LoopRx :=
  { r with
    round := (r.round + 1) % 8, record := r.compared b, slotBits := [], slot := 0,
    assembling := r.assembling || (r.round + 1) % 8 == 0
    parts := if (r.round + 1) % 8 = 0 then List.replicate 12 Assembly.init else r.parts }

theorem markerBit_eq (b : Bool) (s : State) :
    markerBit b s =
      let u := { s with rx := s.rx.nextRound b }
      if s.syncLost (s.rx.compared b) = true then loseSync s.autoReframe u else u := rfl

/-- A part after a slot's tenth bit: the error counted, the byte added (R32, R33). -/
def State.slotTaken (s : State) (bits : List Bool) : State :=
  { s with
    tx := if slotError bits = true then { s.tx with windowErrors := s.tx.windowErrors + 1 } else s.tx
    rx := { s.rx with
      slotBits := [], slot := s.rx.slot + 1
      parts := if s.rx.assembling = true then s.rx.parts.modify s.rx.slot fun p =>
          { p with bytes := p.bytes ++ [byte (bitsValue (bits.take 8))], bad := p.bad || slotError bits }
        else s.rx.parts } }

/-- The twelve messages of a counted cycle, complete (R33). -/
def LoopRx.completed (r : LoopRx) : LoopRx :=
  { r with
    ready := positions.map fun p =>
      { position := p, bytes := (r.parts.getD p Assembly.init).bytes, bad := (r.parts.getD p Assembly.init).bad
        dropped := (r.parts.getD p Assembly.init).dropped }
    endDue := true, parts := List.replicate 12 Assembly.init }

/-- The last slot of round 7 leaves the slot number at 12, past the last. -/
theorem completed_slot {r : LoopRx} (h : r.slot = 12) : r.completed = { r.completed with slot := 12 } := by
  rw [← h]
  rfl

theorem slotDone_eq (bits : List Bool) (s : State) :
    slotDone bits s =
      if s.rx.slot = 11 ∧ s.rx.round = 7 ∧ s.rx.assembling = true then
        { s.slotTaken bits with rx := (s.slotTaken bits).rx.completed }
      else s.slotTaken bits := by
  cases h : slotError bits <;> simp only [slotDone, State.slotTaken, h] <;> rfl

section Sync
variable {s : State} {i : Nat} {b : Bool} {a : Machine.Alignment}

theorem syncBit_marker (h : s.rx.last = some a) (hi : i = a.position) : syncBit i b s = markerBit b s := by
  rw [syncBit, if_pos (by simp [h, hi])]

theorem syncBit_slot (h : s.rx.last = some a) (hi : i ≠ a.position) :
    syncBit i b s =
      if s.rx.slot < 12 then
        if s.rx.slotBits.length = 9 then slotDone (s.rx.slotBits ++ [b]) s
        else { s with rx := { s.rx with slotBits := s.rx.slotBits ++ [b] } }
      else s := by
  rw [syncBit, if_neg (by simp [h, hi.symm])]
  rfl

end Sync

/-! ### STATUS_MESSAGE of a damaged message (R34, R37) -/

theorem exec_statusMessage {s : State} {m : ReadyMsg} {rest : List ReadyMsg} (hs : s.phase = .running)
    (h : s.rx.ready = m :: rest) :
    exec .statusMessage s = .next (qualify (testMessage m { s with rx := { s.rx with ready := rest } })) := by
  have he : exec .statusMessage s = .next (internal statusMessageStep s) := rfl
  rw [he, internal_running hs, statusMessageStep, takeMessage, h]
  exact congrArg Host.Outcome.next (qualify_qualify _)

theorem testMessage_damaged {m : ReadyMsg}
    (h : m.bad = true ∨ m.dropped = true ∨ (m.bytes.map BitVec.toNat).sum % 256 ≠ 0 ∨ bitAt (byteAt m.bytes 0) 0 = false)
    (s : State) : testMessage m s = s := by
  rw [testMessage]
  refine if_pos ?_
  rcases h with h | h | h | h <;> simp [h]

/-- A round in SEARCH that gives no position its eighth bit. -/
theorem receiveRound_gathers {s : State} (h : s.rx.state = .search) (hc : s.rx.candidate = none) (hlen : s.rx.hist.length = 121)
    (hcount : ∀ x ∈ s.rx.hist, x.count < 7) (bits : BitVec 121) :
    receiveRound bits s = { s with
      tx := { s.tx with round := (s.tx.round + 1) % 8 }
      rx := { s.rx with hist := (List.range 121).map fun i => (s.rx.hist.getD i Hist.init).push (bits.getLsbD i) } } := by
  have hhist : (s.rx.hist.mapIdx fun i x => if i < 121 then x.push (bits.getLsbD i) else x) =
      (List.range 121).map fun i => (s.rx.hist.getD i Hist.init).push (bits.getLsbD i) := by
    refine List.ext_getElem (by simp [hlen]) fun i hi _ => ?_
    have hlt : i < 121 := by simpa [hlen] using hi
    simp [hlen, hlt]
  rw [receiveRound_eq, receiveBits_gather h hc hlen hcount bits 121 le_rfl, hhist]

/-- MIMIC_STRICT with a mimic seen is not the case where either is not. -/
theorem not_strict_mimic {a b : Bool} (h : a = false ∨ b = false) : ¬ (a = true ∧ b = true) := by
  rintro ⟨rfl, rfl⟩
  simp at h

/-- Settles O42: the bits of a round one by one, and each state's bit by the lemma of its case. -/
theorem receivedBitsAreSifted : Obligations.ReceivedBitsAreSifted := by
  refine ⟨fun s bits hs => ⟨fun hhold => ?_, fun _ => ?_, fun hsearch hc hlen hcount => ?_⟩, fun s m rest hs hm hbad => ?_,
    fun s i b => ⟨fun hsearch hi => ?_, fun hsearch hi => ?_, fun c hconfirm hc => ?_⟩, fun s i b a hsync hlast => ?_⟩
  · rw [receivedRound_ready hs, receiveRound_eq, receiveBits_hold hhold]
  · rw [receivedRound_ready hs, receiveRound_eq]
  · rw [receivedRound_ready hs, receiveRound_gathers hsearch hc hlen hcount]
  · rw [exec_statusMessage hs hm, testMessage_damaged hbad]
  · rw [receiveBit_search hsearch, searchBit_early hi.ne]
    exact ⟨fun r hm => ⟨noted_first (s := s.heard i b) hm, fun c hc hne => noted_further (s := s.heard i b) hm hc hne⟩,
      noted_unmatched (s := s.heard i b)⟩
  · subst hi
    rw [receiveBit_search hsearch]
    exact ⟨fun r hm hc _ => searchBit_last_first (s := s.heard 120 b) hm hc,
      fun c hc hne hm => searchBit_last_further (s := s.heard 120 b) hm hc hne,
      fun c hc hm => searchBit_last_unmatched (s := s.heard 120 b) hm hc,
      fun hc hm => searchBit_last_none (s := s.heard 120 b) hm hc⟩
  · rw [receiveBit_confirm hconfirm hc]
    refine ⟨fun hi hm hstrict => ?_, fun hi hm hstrict => ?_, fun hi hm hok => ?_, fun hi hb => ?_, fun hi hb hok hn => ?_,
      fun hi hb hok hn => ?_⟩
    · exact (confirmBit_elsewhere (s := s.heard i b) hi).trans ((if_pos hm).trans (if_neg (ne_true_of_eq_false hstrict)))
    · exact (confirmBit_elsewhere (s := s.heard i b) hi).trans ((if_pos hm).trans (if_pos hstrict))
    · exact (confirmBit_elsewhere (s := s.heard i b) hi).trans
        ((if_neg (ne_true_of_eq_false (Option.isSome_eq_false_iff.mpr (Option.isNone_iff_eq_none.mpr hm)))).trans
          (if_neg (not_strict_mimic hok)))
    · exact confirmBit_wrong (s := s.heard i b) hi hb
    · exact (confirmBit_right (s := s.heard i b) hi hb (not_strict_mimic hok)).trans (if_neg hn.ne)
    · have hsynced : confirmBit i b c (s.heard i b) = enterInSync c (s.heard i b) :=
        (confirmBit_right (s := s.heard i b) hi hb (not_strict_mimic hok)).trans (if_pos hn)
      rw [hsynced]
      simp only [enterInSync_rx, enterInSync_tx]
      refine ⟨rfl, rfl, rfl, rfl, rfl, fun a ha hne => ?_, fun hf => ?_, fun hsame hf => ?_, ?_⟩
      · exact enterInSync_flag_realigned c (s.heard i b) ha hne
      · exact enterInSync_flag_cleared c (s.heard i b) hf
      · exact enterInSync_quiet c (s.heard i b) hsame hf
      · exact ((heard_onlyIn s i b).trans (enterInSync_onlyIn c _)).mono (by simp)
  · rw [receiveBit_inSync hsync]
    refine ⟨fun hi hok => ?_, fun hi hlost => ?_, fun hi hslot => ?_, fun hi hslot hbits => ?_,
      fun hi hslot hbits => ⟨fun hend => ?_, fun hmore => ?_⟩⟩
    · rw [syncBit_marker (s := s.heard i b) hlast hi, markerBit_eq]
      refine if_neg (ne_true_of_eq_false (decide_eq_false ?_))
      exact Nat.not_le.mpr hok
    · have hsync : (s.heard i b).syncLost ((s.heard i b).rx.compared b) = true := decide_eq_true hlost
      rw [syncBit_marker (s := s.heard i b) hlast hi, markerBit_eq]
      simp only [if_pos hsync]
      obtain ⟨hstate, halign, hstale, _⟩ := loseSync_left (s.heard i b).autoReframe
        { s.heard i b with rx := (s.heard i b).rx.nextRound b }
      exact ⟨hstate, halign.trans hlast, hstale⟩
    · exact (syncBit_slot (s := s.heard i b) hlast hi).trans (if_neg (Nat.not_lt.mpr hslot))
    · exact (syncBit_slot (s := s.heard i b) hlast hi).trans ((if_pos hslot).trans (if_neg hbits))
    · refine (syncBit_slot (s := s.heard i b) hlast hi).trans ((if_pos hslot).trans ((if_pos hbits).trans ?_))
      have hslot12 : ((s.heard i b).slotTaken (s.rx.slotBits ++ [b])).rx.slot = 12 := by
        simp [State.slotTaken, State.heard, hend.1]
      rw [slotDone_eq, completed_slot (by exact hslot12)]
      exact if_pos hend
    · refine (syncBit_slot (s := s.heard i b) hlast hi).trans ((if_pos hslot).trans ((if_pos hbits).trans ?_))
      exact (slotDone_eq _ _).trans (if_neg fun hend => by
        obtain ⟨hslot, hround, hassembling⟩ := hend
        rcases hmore with h | h | h
        · exact h hslot
        · exact h hround
        · exact Bool.false_ne_true (h.symm.trans hassembling))

end Sys2Proof.Machine
end

section
/-! PROOF. STATUS_MESSAGE of a well-formed message: the record and the echo, a message of another kind, and what the battery's, the lights'
and the outlets' owners do with an accepted one (O43). -/

namespace Sys2Proof.Machine

/-! ### The tests of a message (R34) -/

/-- A complete message that passes the tests of framing, check sum and direction (R34). -/
structure ReadyMsg.Framed (m : ReadyMsg) : Prop where
  good : m.bad = false
  kept : m.dropped = false
  sum : (m.bytes.map BitVec.toNat).sum % 256 = 0
  direction : bitAt (byteAt m.bytes 0) 0 = true

section Tested
variable {m : ReadyMsg} {s : State}

/-- A framed message is judged by its kind and its fields alone. -/
theorem testMessage_framed (h : m.Framed) :
    testMessage m s =
      if field (byteAt m.bytes 0) 1 3 ≠ (s.kindAt m.position).code then foreignMessage m.position s
      else ((decodeStatus (s.kindAt m.position) m.bytes).map fun d =>
        acceptMessage m.position (field (byteAt m.bytes 0) 4 4) d s).getD s := by
  have hframe : ¬ (m.dropped = true ∨ m.bad = true ∨ (m.bytes.map BitVec.toNat).sum % 256 ≠ 0 ∨
      ¬ bitAt (byteAt m.bytes 0) 0 = true) := by
    simp [h.good, h.kept, h.sum, h.direction]
  rw [testMessage]
  refine (if_neg hframe).trans (if_congr Iff.rfl rfl ?_)
  cases decodeStatus (s.kindAt m.position) m.bytes <;> rfl

theorem testMessage_foreign (h : m.Framed) (hk : field (byteAt m.bytes 0) 1 3 ≠ (s.kindAt m.position).code) :
    testMessage m s = foreignMessage m.position s := by
  rw [testMessage_framed h, if_pos hk]

theorem testMessage_outside (h : m.Framed) (hk : field (byteAt m.bytes 0) 1 3 = (s.kindAt m.position).code)
    (hd : decodeStatus (s.kindAt m.position) m.bytes = none) : testMessage m s = s := by
  rw [testMessage_framed h, if_neg (not_not.mpr hk), hd]
  rfl

theorem testMessage_accepted {d : Decoded} (h : m.Framed) (hk : field (byteAt m.bytes 0) 1 3 = (s.kindAt m.position).code)
    (hd : decodeStatus (s.kindAt m.position) m.bytes = some d) :
    testMessage m s = acceptMessage m.position (field (byteAt m.bytes 0) 4 4) d s := by
  rw [testMessage_framed h, if_neg (not_not.mpr hk), hd]
  rfl

end Tested

/-! ### A message of another kind (R39) -/

theorem foreignMessage_mismatch {s : State} {p : Nat} (h : (s.node p).presence = .mismatch) :
    foreignMessage p s = { s with nodes := s.nodes.modify p fun r => { r with result := .foreign } } := by
  have hp : p < s.nodes.length := State.node_lt (by simp [h])
  have hmis : ((s.modNode p fun r => { r with result := .foreign }).node p).presence = .mismatch := by
    rw [State.node_modNode, if_pos ⟨rfl, hp⟩]
    exact h
  rw [foreignMessage]
  exact if_pos hmis

theorem foreignMessage_loses {s : State} {p : Nat} (hp : p < s.nodes.length) (h : (s.node p).presence ≠ .mismatch) :
    foreignMessage p s = loseNode .mismatch p (s.modNode p fun r => { r with result := .foreign }) := by
  have hmis : ((s.modNode p fun r => { r with result := .foreign }).node p).presence ≠ .mismatch := by
    rw [State.node_modNode, if_pos ⟨rfl, hp⟩]
    exact h
  rw [foreignMessage]
  exact if_neg hmis

/-- A position turned MISMATCH: its record, the others', and the notice. -/
theorem foreignMessage_turns {s : State} {p : Nat} (hp : p < s.nodes.length) (h : (s.node p).presence ≠ .mismatch) :
    (foreignMessage p s).node p = { s.node p with presence := .mismatch, count := 0, stale := true, result := .foreign } ∧
      (∀ q, q ≠ p → (foreignMessage p s).node q = s.node q) ∧ (foreignMessage p s).notices.flags.getLsbD 12 = true := by
  rw [foreignMessage_loses hp h]
  refine ⟨?_, fun q hq => ?_, loseNode_flag _ _ _⟩
  · rw [State.node_congr (loseNode_nodes _ _ _), State.node_modNode, State.node_modNode, State.modNode_nodes_length,
      if_pos ⟨rfl, hp⟩, if_pos ⟨rfl, hp⟩]
    rfl
  · rw [State.node_congr (loseNode_nodes _ _ _), State.node_modNode, State.node_modNode, if_neg fun e => hq e.1.symm,
      if_neg fun e => hq e.1.symm]

theorem foreignMessage_onlyIn (p : Nat) (s : State) :
    s.OnlyIn [.bus, .rx, .nodes, .panel, .roster, .heater, .fridge, .lights, .rest, .notices, .power, .ret]
      (foreignMessage p s) := by
  intro b hb
  cases b <;> simp_all [Block.Same]

/-! ### The record and the echo of an accepted message (R35, R41 to R43) -/

theorem debounce_some (held cand : Option Nat) (x : Nat) :
    debounce held cand (some x) = if cand = some x then some x else held := rfl

/-- An echo of a listed sequence takes its item and every older one off the list (R35). -/
theorem LoopPos.echo_listed {y : LoopPos} {newer older : List Unechoed} {u : Unechoed} (h : y.unechoed = older ++ u :: newer)
    (holder : ∀ v ∈ older, v.seq ≠ u.seq) :
    y.echo u.seq = { y with
      unechoed := newer, lastEcho := some u.seq, stall := if newer = [] then false else y.stall } := by
  have hany : y.unechoed.any (fun v => v.seq == u.seq) = true := by simp [h]
  have hdrop : (y.unechoed.dropWhile fun v => v.seq != u.seq).drop 1 = newer := by
    have hpos : ∀ v ∈ older, (v.seq != u.seq) = true := fun v hv => by simpa using holder v hv
    simp [h, List.dropWhile_append_of_pos hpos]
  simp only [LoopPos.echo, hany, hdrop, if_true, List.isEmpty_iff]

/-- An echo of a sequence that is not listed leaves the list (R35). -/
theorem LoopPos.echo_unlisted {y : LoopPos} {q : Nat} (h : ∀ v ∈ y.unechoed, v.seq ≠ q) :
    y.echo q = { y with lastEcho := some q, stall := if y.unechoed = [] then false else y.stall } := by
  have hany : y.unechoed.any (fun v => v.seq == q) = false := by simpa using h
  simp only [LoopPos.echo, hany, Bool.false_eq_true, if_false, List.isEmpty_iff]

/-- A record after an accepted message, out of MISMATCH (R39, R41 to R43). -/
def NodeRec.accepted (d : Decoded) (r : NodeRec) : NodeRec :=
  if r.presence = .mismatch then { r.accept d with presence := .seeking, count := 0 } else r.accept d

/-- A part whose record and transmit side of a position have taken an accepted message, no owner told yet. -/
def State.recorded (s : State) (p seq : Nat) (d : Decoded) : State :=
  (s.modLoopPos p (LoopPos.echo seq)).modNode p (NodeRec.accepted d)

theorem acceptMessage_eq (p seq : Nat) (d : Decoded) (s : State) :
    acceptMessage p seq d s = tellAccepted p (s.node p) (s.recorded p seq d) := rfl

theorem NodeRec.accepted_eq (d : Decoded) (r : NodeRec) :
    r.accepted d = { r with
      presence := if r.presence = .mismatch then .seeking else r.presence
      count := if r.presence = .mismatch then 0 else r.count
      stale := false, measures := d.measures, result := .accepted
      heldA := debounce r.heldA r.candA d.fieldA, candA := d.fieldA
      heldB := debounce r.heldB r.candB d.fieldB, candB := d.fieldB } := by
  unfold NodeRec.accepted
  split <;> rfl

theorem State.loopPos_modLoopPos (s : State) (p q : Nat) (f : LoopPos → LoopPos) :
    (s.modLoopPos p f).loopPos q = if p = q ∧ q < s.tx.pos.length then f (s.loopPos q) else s.loopPos q := by
  by_cases hq : q < s.tx.pos.length
  · by_cases hp : p = q
    · simp [State.loopPos, State.modLoopPos, hq, hp]
    · simp [State.loopPos, State.modLoopPos, hq, hp]
  · simp [State.loopPos, State.modLoopPos, hq]

section Recorded
variable (s : State) (p seq : Nat) (d : Decoded)

theorem recorded_onlyIn : s.OnlyIn [.tx, .nodes] (s.recorded p seq d) := by
  intro b hb
  cases b <;> simp_all [Block.Same, State.recorded]

@[simp] theorem recorded_frame :
    (s.recorded p seq d).phase = s.phase ∧ (s.recorded p seq d).bus = s.bus ∧ (s.recorded p seq d).signals = s.signals ∧
    (s.recorded p seq d).rx = s.rx ∧ (s.recorded p seq d).panel = s.panel ∧ (s.recorded p seq d).roster = s.roster ∧
    (s.recorded p seq d).energy = s.energy ∧ (s.recorded p seq d).heater = s.heater ∧
    (s.recorded p seq d).fridge = s.fridge ∧ (s.recorded p seq d).lights = s.lights ∧ (s.recorded p seq d).rest = s.rest ∧
    (s.recorded p seq d).notices = s.notices ∧ (s.recorded p seq d).power = s.power ∧ (s.recorded p seq d).ret = s.ret ∧
    (s.recorded p seq d).tables = s.tables := by
  simp [State.recorded]

theorem recorded_node_self (hp : p < s.nodes.length) : (s.recorded p seq d).node p = (s.node p).accepted d := by
  rw [State.recorded, State.node_modNode, if_pos ⟨rfl, by simpa using hp⟩]
  exact congrArg _ (State.node_congr (by simp) p)

theorem recorded_node_ne {q : Nat} (hq : q ≠ p) : (s.recorded p seq d).node q = s.node q := by
  rw [State.recorded, State.node_modNode, if_neg fun e => hq e.1.symm]
  exact State.node_congr (by simp) q

theorem recorded_loopPos_self (hp : p < s.tx.pos.length) : (s.recorded p seq d).loopPos p = (s.loopPos p).echo seq := by
  have htx : (s.recorded p seq d).loopPos p = (s.modLoopPos p (LoopPos.echo seq)).loopPos p := by
    simp [State.recorded, State.loopPos]
  rw [htx, State.loopPos_modLoopPos, if_pos ⟨rfl, hp⟩]

theorem recorded_loopPos_ne {q : Nat} (hq : q ≠ p) : (s.recorded p seq d).loopPos q = s.loopPos q := by
  have htx : (s.recorded p seq d).loopPos q = (s.modLoopPos p (LoopPos.echo seq)).loopPos q := by
    simp [State.recorded, State.loopPos]
  rw [htx, State.loopPos_modLoopPos, if_neg fun e => hq e.1.symm]

end Recorded

/-! ### What every owner leaves -/

theorem tellAccepted_node (p q : Nat) (old : NodeRec) (s : State) : (tellAccepted p old s).node q = s.node q :=
  State.node_congr (by simp) q

theorem tellAccepted_loopPos (p q : Nat) (old : NodeRec) (s : State) : (tellAccepted p old s).loopPos q = s.loopPos q := by
  simp [State.loopPos]

theorem acceptMessage_onlyIn (p seq : Nat) (d : Decoded) (s : State) :
    s.OnlyIn [.bus, .tx, .nodes, .panel, .roster, .energy, .heater, .fridge, .lights, .rest, .notices, .power, .ret]
      (acceptMessage p seq d s) := by
  intro b hb
  cases b <;> simp_all [Block.Same]

/-! ### The battery (R83, R84) -/

theorem tellAccepted_battery {p : Nat} {old : NodeRec} {s : State} {i temp : Int} {v : Nat} (hk : s.kindAt p = .battery)
    (hm : (s.node p).measures = .battery i v temp) : tellAccepted p old s = batteryMessage i v s := by
  simp only [tellAccepted, hk, hm]

@[simp] theorem estimate_energy_held (i : Int) (v : Nat) (s : State) :
    (estimate i v s).energy.held = s.energy.held ∧ (estimate i v s).energy.holdCount = s.energy.holdCount ∧
      (estimate i v s).energy.blind = s.energy.blind ∧ (estimate i v s).energy.heard = s.energy.heard := by
  unfold estimate
  split <;> simp [setCharge]

/-- The accountant after a battery message: its current is held and blindness is over (R83, R84). -/
theorem batteryMessage_energy (i : Int) (v : Nat) (s : State) :
    (batteryMessage i v s).energy.held = some i ∧ (batteryMessage i v s).energy.holdCount = 0 ∧
      (batteryMessage i v s).energy.blind = false ∧ (batteryMessage i v s).energy.heard = true := by
  simp [batteryMessage, countFull, State.modLevel]

/-! ### Light faults (R159) -/

theorem tellAccepted_light {p : Nat} {old : NodeRec} {s : State} (hk : s.kindAt p = .light)
    (h : old.heldA ≠ (s.node p).heldA ∨ old.heldB ≠ (s.node p).heldB) : tellAccepted p old s = lightFaults p s := by
  simp only [tellAccepted, hk]
  exact if_pos h

theorem State.channel_modChannel (s : State) (c e : Nat) (f : Channel → Channel) :
    (s.modChannel c f).channel e =
      if c = e ∧ e < s.lights.channels.length then f (s.channel e) else s.channel e := by
  by_cases he : e < s.lights.channels.length
  · by_cases hc : c = e
    · simp [State.channel, State.modChannel, he, hc]
    · simp [State.channel, State.modChannel, he, hc]
  · simp [State.channel, State.modChannel, he]

@[simp] theorem State.modChannel_length (s : State) (c : Nat) (f : Channel → Channel) :
    (s.modChannel c f).lights.channels.length = s.lights.channels.length := by
  simp [State.modChannel]

/-- The held channel faults of a fresh LIGHT record reach its two channels (R159). -/
theorem lightFaults_channels {p : Nat} {s : State} (hstale : (s.node p).stale = false)
    (hlen : s.firstChannelAt p + 1 < s.lights.channels.length) :
    (∀ x, (s.node p).heldA = some x → ((lightFaults p s).channel (s.firstChannelAt p)).fault = x) ∧
      (∀ x, (s.node p).heldB = some x → ((lightFaults p s).channel (s.firstChannelAt p + 1)).fault = x) := by
  have hfirst : s.firstChannelAt p < s.lights.channels.length := by omega
  constructor
  · intro x hx
    simp only [lightFaults, hstale, hx]
    cases (s.node p).heldB <;> simp [State.channel_modChannel, hfirst]
  · intro x hx
    simp only [lightFaults, hstale, hx]
    cases (s.node p).heldA <;> simp [State.channel_modChannel, hlen]

/-! ### Output faults (R78, R79) -/

@[simp] theorem heaterDuty_outlets (s : State) : (heaterDuty s).roster.outlets = s.roster.outlets := by
  simp only [heaterDuty, onEntry, setDuty, State.modLive]
  repeat' split
  all_goals rfl

@[simp] theorem handOver_outlets (n : Nat) (s : State) : (handOver n s).roster.outlets = s.roster.outlets := by
  induction n generalizing s with
  | zero => rfl
  | succ n ih =>
    simp only [handOver, enterStarting, enterCooling]
    repeat' split
    all_goals simp [ih]

@[simp] theorem giveUpPlace_outlets (i : Nat) (s : State) : (giveUpPlace i s).roster.outlets = s.roster.outlets := by
  unfold giveUpPlace
  split <;> simp

@[simp] theorem outletApply_outlets (o : Nat) (s : State) : (outletApply o s).roster.outlets = s.roster.outlets := by
  simp only [outletApply, request, release]
  repeat' split
  all_goals simp [State.modLive]

/-- An output switched off is off, and the other outputs' settings are as they were (R78). -/
theorem setOutlet_off (o q : Nat) (s : State) :
    (setOutlet o false s).outletOn q = if q = o then false else s.outletOn q := by
  simp only [State.outletOn, setOutlet, outletApply_outlets, State.modRoster_roster]
  by_cases hq : q = o
  · subst hq
    by_cases hlen : q < s.roster.outlets.length <;> simp [hlen]
  · simp [hq, Ne.symm hq]

section Outlet
variable {p : Nat} {old : NodeRec} {s : State}

theorem tellAccepted_outlet (hk : s.kindAt p = .outlet) :
    tellAccepted p old s =
      (let u := if newFault old.heldA (s.node p).heldA = true then setOutlet (2 * s.moduleNumber p) false s else s
       if newFault old.heldB (s.node p).heldB = true then setOutlet (2 * s.moduleNumber p + 1) false u else u) := by
  simp only [tellAccepted, hk]

/-- A new fault of either output switches that output off (R79). -/
theorem tellAccepted_outlet_off (hk : s.kindAt p = .outlet) :
    (newFault old.heldA (s.node p).heldA = true → (tellAccepted p old s).outletOn (2 * s.moduleNumber p) = false) ∧
      (newFault old.heldB (s.node p).heldB = true → (tellAccepted p old s).outletOn (2 * s.moduleNumber p + 1) = false) := by
  rw [tellAccepted_outlet hk]
  refine ⟨fun h => ?_, fun h => ?_⟩
  · simp only [h, if_true]
    split <;> simp [setOutlet_off]
  · simp only [h, if_true]
    simp [setOutlet_off]

theorem tellAccepted_outlet_quiet (hk : s.kindAt p = .outlet) (hA : newFault old.heldA (s.node p).heldA = false)
    (hB : newFault old.heldB (s.node p).heldB = false) : tellAccepted p old s = s := by
  simp [tellAccepted_outlet hk, hA, hB]

end Outlet

end Sys2Proof.Machine
end

section
/-! PROOF. The panels' baselines: only the dispatcher's own takes and losses write them, and a PRESENT panel's message takes them
(R47; O43). -/

namespace Sys2Proof.Machine

/-! ### What leaves the baselines -/

@[simp] theorem ite_baselines (c : Prop) [Decidable c] (s t : State) :
    (if c then s else t).panel.baselines = if c then s.panel.baselines else t.panel.baselines := by
  split <;> rfl

@[simp] theorem refreshIdle_baselines (s : State) : (refreshIdle s).panel.baselines = s.panel.baselines := by
  simp [refreshIdle]

@[simp] theorem strike_baselines (s : State) : (strike s).panel.baselines = s.panel.baselines := rfl

@[simp] theorem endActive_baselines (s : State) : (endActive s).panel.baselines = s.panel.baselines := by
  unfold endActive
  split <;> simp

@[simp] theorem endKinds_baselines (ks : List WarnKind) (s : State) :
    (endKinds ks s).panel.baselines = s.panel.baselines := by
  unfold endKinds
  split <;> simp

@[simp] theorem displace_baselines (s : State) : (displace s).panel.baselines = s.panel.baselines := by
  unfold displace
  split <;> simp

@[simp] theorem activate_baselines (w : Warning) (s : State) : (activate w s).panel.baselines = s.panel.baselines := by
  simp [activate]

@[simp] theorem dealWith_baselines (w : Warning) (s : State) : (dealWith w s).panel.baselines = s.panel.baselines := by
  unfold dealWith
  split <;> simp

@[simp] theorem sweepN_baselines (n : Nat) (s : State) : (sweepN n s).panel.baselines = s.panel.baselines := by
  induction n generalizing s with
  | zero => rfl
  | succ n ih =>
    unfold sweepN
    split <;> simp [ih]

@[simp] theorem restEnd_baselines (s : State) : (restEnd s).panel.baselines = s.panel.baselines := by
  simp [restEnd]

@[simp] theorem checkComplete_baselines (s : State) : (checkComplete s).panel.baselines = s.panel.baselines := by
  simp only [checkComplete]
  repeat' split
  all_goals simp

@[simp] theorem windowClosed_baselines (s : State) : (windowClosed s).panel.baselines = s.panel.baselines := by
  simp [windowClosed]

@[simp] theorem heaterInputs_baselines (s : State) : (heaterInputs s).panel.baselines = s.panel.baselines := by
  simp [heaterInputs, preheatNews]

/-! ### Actions and presses (R48 to R54) -/

@[simp] theorem perform_baselines (code : Nat) (a : Int) (s : State) :
    (perform code a s).panel.baselines = s.panel.baselines := by
  unfold perform
  split <;> simp [heatModeAction, acknowledge, restProfile, alarmSet]

@[simp] theorem handAction_baselines (src : ActionSource) (code : Nat) (a : Int) (s : State) :
    (handAction src code a s).panel.baselines = s.panel.baselines := by
  unfold handAction
  split <;> simp [recordAction]

@[simp] theorem press_baselines (entry : Nat) (s : State) : (press entry s).panel.baselines = s.panel.baselines := by
  simp [press]

@[simp] theorem pressTimes_baselines (entry n : Nat) (s : State) :
    (pressTimes entry n s).panel.baselines = s.panel.baselines := by
  induction n generalizing s with
  | zero => rfl
  | succ n ih => simp [pressTimes, ih]

@[simp] theorem dispatch_baselines (n : Nat) (old new : List Nat) (s : State) :
    (dispatch n old new s).panel.baselines = s.panel.baselines :=
  State.forEach_read (·.panel.baselines) (fun k t => by simp) s [0, 1, 2, 3]

/-! ### The dispatcher told of an accepted message (R47) -/

@[simp] theorem setBaseline_baselines (n : Nat) (b : Option (List Nat)) (s : State) :
    (setBaseline n b s).panel.baselines = s.panel.baselines.set n b := rfl

/-- A PRESENT panel's counters become its baseline; another's message leaves the baselines (R47). -/
theorem panelMessage_baselines (p : Nat) (s : State) :
    (panelMessage p s).panel.baselines =
      if (s.node p).presence = .present then s.panel.baselines.set (s.panelNumber p) (s.node p).counters
      else s.panel.baselines := by
  simp only [panelMessage]
  repeat' split
  all_goals simp

theorem tellAccepted_panel_baselines {p : Nat} {old : NodeRec} {s : State} (hk : s.kindAt p = .panel) :
    (tellAccepted p old s).panel.baselines =
      if (s.node p).presence = .present then s.panel.baselines.set (s.panelNumber p) (s.node p).counters
      else s.panel.baselines := by
  simp only [tellAccepted, hk, ← panelMessage_baselines]
  split <;> simp

end Sys2Proof.Machine
end

section
/-! PROOF. The heater controller while demand stands: what a handling leaves of it that is no edge of the held phase (R107, R115 to
R126; O43). -/

namespace Sys2Proof.Machine

/-! ### The slot handed on (R74, R116, R118) -/

/-- A heater that is as it was, or has been given the slot in REQUESTING and starts (R116, R118). -/
def Heater.MayStart (h h' : Heater) : Prop :=
  h' = h ∨ h.state = .requesting ∧ ∃ l, h' = { h with
    state := .starting, level := l, levelHold := some 0, ignition := some 0, startSeen := false }

theorem enterStarting_heater (s : State) : ∃ l, (enterStarting s).heater = { s.heater with
    state := .starting, level := l, levelHold := some 0, ignition := some 0, startSeen := false } :=
  ⟨s.chosenLevel.getD s.heater.level, by simp [enterStarting]⟩

theorem handOver_heater (n : Nat) (s : State) : s.heater.MayStart (handOver n s).heater := by
  induction n generalizing s with
  | zero => exact .inl rfl
  | succ n ih =>
    rw [handOver]
    split
    · exact .inl rfl
    · dsimp only
      split
      · split
        next h => exact .inr ⟨h, enterStarting_heater _⟩
        next => exact ih _
      · split
        · exact .inl rfl
        · exact ih _
      · exact ih _

theorem giveUpPlace_heater (i : Nat) (s : State) : s.heater.MayStart (giveUpPlace i s).heater := by
  unfold giveUpPlace
  split
  · exact handOver_heater _ _
  · exact .inl rfl

theorem surgeDone_heater (i : Nat) (s : State) : s.heater.MayStart (surgeDone i s).heater := by
  unfold surgeDone
  split
  · exact handOver_heater _ _
  · exact .inl rfl

theorem askSlot_heater (i : Nat) (s : State) : s.heater.MayStart (askSlot i s).heater := by
  unfold askSlot
  split
  · exact .inl rfl
  · dsimp only
    split
    · exact handOver_heater _ _
    · exact .inl rfl

theorem release_heater (withStop : Bool) (i : Nat) (s : State) : s.heater.MayStart (release withStop i s).heater := by
  unfold release
  dsimp only
  split
  · exact giveUpPlace_heater _ _
  · exact .inl rfl

theorem onEntry_mayStart {k : LoadKind} {f : Nat → State → State} (h : ∀ i (t : State), t.heater.MayStart (f i t).heater)
    (s : State) : s.heater.MayStart (onEntry k f s).heater := by
  unfold onEntry
  split
  · exact h _ _
  · exact .inl rfl

/-- Out of REQUESTING the slot handed on leaves the heater. -/
theorem Heater.MayStart.eq {h h' : Heater} (hs : h.MayStart h') (hr : h.state ≠ .requesting) : h' = h :=
  hs.resolve_right fun hn => hr hn.1

/-! ### The inputs of demand (R113 to R115) -/

/-- What demand is worked out from, and demand as last worked out. -/
structure Heater.Inputs where
  mode : HeatMode
  setPoint : Int
  thermo : Bool
  window : Option Nat
  preheat : Bool
  demand : Bool

/-- The inputs of demand that a heater holds. -/
def Heater.inputs (h : Heater) : Heater.Inputs where
  mode := h.mode
  setPoint := h.setPoint
  thermo := h.thermo
  window := h.window
  preheat := h.preheat
  demand := h.demand

theorem Heater.inputs_mode (h : Heater) : h.inputs.mode = h.mode := rfl

theorem Heater.inputs_demand (h : Heater) : h.inputs.demand = h.demand := rfl

theorem Heater.MayStart.inputs {h h' : Heater} (hs : h.MayStart h') : h'.inputs = h.inputs := by
  rcases hs with rfl | ⟨_, l, rfl⟩ <;> rfl

@[simp] theorem ite_inputs (c : Prop) [Decidable c] (s t : State) :
    (if c then s else t).heater.inputs = if c then s.heater.inputs else t.heater.inputs := by
  split <;> rfl

@[simp] theorem onEntry_request_inputs (s : State) : (onEntry .heater request s).heater.inputs = s.heater.inputs :=
  (onEntry_mayStart (fun i t => .inl (by simp)) s).inputs

@[simp] theorem onEntry_stopComplete_inputs (s : State) :
    (onEntry .heater stopComplete s).heater.inputs = s.heater.inputs :=
  (onEntry_mayStart (fun i t => .inl (by simp)) s).inputs

@[simp] theorem onEntry_release_inputs (withStop : Bool) (s : State) :
    (onEntry .heater (release withStop) s).heater.inputs = s.heater.inputs :=
  (onEntry_mayStart (release_heater withStop) s).inputs

@[simp] theorem onEntry_askSlot_inputs (s : State) : (onEntry .heater askSlot s).heater.inputs = s.heater.inputs :=
  (onEntry_mayStart askSlot_heater s).inputs

@[simp] theorem heaterAsk_inputs (s : State) : (heaterAsk s).heater.inputs = s.heater.inputs := by
  simp [heaterAsk]

@[simp] theorem heaterStart_inputs (s : State) : (heaterStart s).heater.inputs = s.heater.inputs := by
  unfold heaterStart
  split
  · exact onEntry_request_inputs s
  · rfl

@[simp] theorem endStopping_inputs (s : State) : (endStopping s).heater.inputs = s.heater.inputs := by
  simp only [endStopping]
  split
  · exact onEntry_request_inputs _
  · exact onEntry_stopComplete_inputs _
  · split
    · exact onEntry_stopComplete_inputs _
    · exact (onEntry_request_inputs _).trans (onEntry_stopComplete_inputs _)
  · exact onEntry_release_inputs false _
  · rfl

@[simp] theorem endRetry_inputs (s : State) : (endRetry s).heater.inputs = s.heater.inputs := by
  simp only [endRetry]
  split
  · rfl
  · exact onEntry_release_inputs false _

@[simp] theorem endLockoutPurge_inputs (s : State) : (endLockoutPurge s).heater.inputs = s.heater.inputs :=
  onEntry_stopComplete_inputs s

@[simp] theorem heaterAtIdle_inputs (s : State) : (heaterAtIdle s).heater.inputs = s.heater.inputs := by
  unfold heaterAtIdle
  repeat' split
  all_goals simp

@[simp] theorem heaterTests_inputs (s : State) : (heaterTests s).heater.inputs = s.heater.inputs := by
  simp [heaterTests]

@[simp] theorem takeLevel_inputs (s : State) : (takeLevel s).heater.inputs = s.heater.inputs := by
  unfold takeLevel
  repeat' split
  all_goals rfl

@[simp] theorem demandEnds_inputs (s : State) : (demandEnds s).heater.inputs = s.heater.inputs := by
  unfold demandEnds
  split
  · exact onEntry_release_inputs false _
  · exact onEntry_release_inputs true (commandStop .stopping s)
  · exact onEntry_release_inputs true (commandStop .stopping s)
  · refine (onEntry_mayStart (fun i t => ?_) s).inputs
    split
    · exact release_heater true i t
    · exact .inl rfl
  · rfl

/-- A part whose marks have been worked out again, and demand from them (R113 to R115). -/
def State.remarked (s : State) : State :=
  (heaterMarks s).modHeater fun h => { h with demand := (heaterMarks s).demandNow }

/-- A refresh leaves the inputs as the marks and demand worked out again have them. -/
theorem heaterRefresh_inputs (s : State) : (heaterRefresh s).heater.inputs = s.remarked.heater.inputs := by
  have h : (heaterRefresh s).heater.inputs =
      (if ((heaterMarks s).heater.demand && !(heaterMarks s).demandNow) = true then demandEnds s.remarked
        else s.remarked).heater.inputs := by
    simp only [heaterRefresh, heaterDuty_frame, heaterTests_inputs, takeLevel_inputs]
    rfl
  rw [h]
  split
  · exact demandEnds_inputs _
  · rfl

/-! ### The course of a start, a run or a stop (R116 to R126) -/

/-- The controller's state with the timers and marks of a start and a stop, without the level and its hold. -/
structure Heater.Course where
  state : HeaterState
  ignition : Option Nat
  purge : Option Nat
  startSeen : Bool
  ignitionTime : Option Nat
  purgeOutstanding : Bool

/-- The course of a heater. -/
def Heater.course (h : Heater) : Heater.Course where
  state := h.state
  ignition := h.ignition
  purge := h.purge
  startSeen := h.startSeen
  ignitionTime := h.ignitionTime
  purgeOutstanding := h.purgeOutstanding

/-- The controller waits for nothing that the held phase or the slot could end while demand stands. -/
def State.HeaterCalm (s : State) : Prop :=
  s.heater.state = .starting ∨ s.heater.state = .running ∨ (s.heater.state = .retryWait ∧ s.heaterIdle = false) ∨
    (s.heater.state = .lockout ∧ (s.heaterIdle = false ∨ s.heater.purgeOutstanding = false))

/-- The controller asks for the slot or has been given it, its purge over. -/
def Heater.Waits (h : Heater) : Prop := (h.state = .requesting ∨ h.state = .starting) ∧ h.purge = none

/-- The failed starts and the lockout, which no refresh touches. -/
def Retention.starts (r : Retention) : Nat × Bool := (r.failedStarts, r.lockout)

/-- What a handling that is no edge of the held phase leaves of the heater while demand stands. -/
structure State.HeaterGoesOn (s t : State) : Prop where
  nodes : t.nodes = s.nodes
  tables : t.tables = s.tables
  mode : t.heater.mode = s.heater.mode
  starts : t.ret.starts = s.ret.starts
  calm : s.HeaterCalm → t.heater.course = s.heater.course
  waits : s.heater.Waits → t.heater.Waits

theorem State.nodeOf_congr {s t : State} (hn : t.nodes = s.nodes) (ht : t.tables = s.tables) (k : NodeKind) :
    t.nodeOf k = s.nodeOf k := by
  have hnode : t.node = s.node := funext (State.node_congr hn)
  have hkind : t.positionsOf k = s.positionsOf k := by
    simp only [State.positionsOf, State.kindAt_congr ht]
  simp only [State.nodeOf, hnode, hkind]

theorem State.heaterIdle_congr {s t : State} (hn : t.nodes = s.nodes) (ht : t.tables = s.tables) :
    t.heaterIdle = s.heaterIdle := by
  simp only [State.heaterIdle, State.heaterNode, State.nodeOf_congr hn ht]

theorem State.HeaterCalm.congr {s t : State} (h : s.HeaterCalm) (hc : t.heater.course = s.heater.course)
    (hi : t.heaterIdle = s.heaterIdle) : t.HeaterCalm := by
  have hstate : t.heater.state = s.heater.state := congrArg Heater.Course.state hc
  have hpurge : t.heater.purgeOutstanding = s.heater.purgeOutstanding := congrArg Heater.Course.purgeOutstanding hc
  simpa only [State.HeaterCalm, hstate, hpurge, hi] using h

theorem Heater.Waits.congr {h h' : Heater} (hw : h.Waits) (hc : h'.course = h.course) : h'.Waits := by
  have hstate : h'.state = h.state := congrArg Heater.Course.state hc
  have hpurge : h'.purge = h.purge := congrArg Heater.Course.purge hc
  simpa only [Heater.Waits, hstate, hpurge] using hw

theorem State.HeaterCalm.not_requesting {s : State} (h : s.HeaterCalm) : s.heater.state ≠ .requesting := by
  rcases h with h | h | ⟨h, _⟩ | ⟨h, _⟩ <;> simp [h]

theorem Heater.MayStart.waits {h h' : Heater} (hs : h.MayStart h') (hw : h.Waits) : h'.Waits := by
  rcases hs with rfl | ⟨_, l, rfl⟩
  · exact hw
  · exact ⟨.inr rfl, hw.2⟩

namespace State.HeaterGoesOn
variable {s t u : State}

theorem refl (s : State) : s.HeaterGoesOn s := ⟨rfl, rfl, rfl, rfl, fun _ => rfl, id⟩

theorem trans (h : s.HeaterGoesOn t) (k : t.HeaterGoesOn u) : s.HeaterGoesOn u where
  nodes := k.nodes.trans h.nodes
  tables := k.tables.trans h.tables
  mode := k.mode.trans h.mode
  starts := k.starts.trans h.starts
  calm hs := (k.calm (hs.congr (h.calm hs) (State.heaterIdle_congr h.nodes h.tables))).trans (h.calm hs)
  waits hs := k.waits (h.waits hs)

/-- A step that writes neither the mode nor the course. -/
theorem of_course (hn : t.nodes = s.nodes) (ht : t.tables = s.tables) (hm : t.heater.mode = s.heater.mode)
    (hr : t.ret.starts = s.ret.starts) (hc : t.heater.course = s.heater.course) : s.HeaterGoesOn t :=
  ⟨hn, ht, hm, hr, fun _ => hc, fun hw => hw.congr hc⟩

/-- A step that hands the slot on at most. -/
theorem of_mayStart (hn : t.nodes = s.nodes) (ht : t.tables = s.tables) (hr : t.ret.starts = s.ret.starts)
    (h : s.heater.MayStart t.heater) : s.HeaterGoesOn t where
  nodes := hn
  tables := ht
  mode := congrArg Heater.Inputs.mode h.inputs
  starts := hr
  calm hs := congrArg Heater.course (h.eq hs.not_requesting)
  waits := h.waits

end State.HeaterGoesOn

/-! ### The tests that follow a refresh (R118, R120, R126) -/

section Tests
variable {s : State}

theorem heaterAsk_other (h : s.heater.state ≠ .requesting) : heaterAsk s = s := by
  rw [heaterAsk, if_neg fun hn => h hn.1]

theorem heaterStart_other (h : s.heater.state ≠ .off) : heaterStart s = s := by
  rw [heaterStart, if_neg fun hn => h hn.1]

theorem heaterAsk_waits (h : s.heater.Waits) : (heaterAsk s).heater.Waits := by
  unfold heaterAsk
  split
  · exact (onEntry_mayStart askSlot_heater s).waits h
  · exact h

theorem heaterStart_waits (h : s.heater.Waits) : heaterStart s = s :=
  heaterStart_other (by rcases h.1 with h | h <;> simp [h])

theorem heaterTests_calm (h : s.HeaterCalm) : heaterTests s = s := by
  have hidle : heaterAtIdle s = s := by
    unfold heaterAtIdle
    rcases h with h | h | ⟨h, hi⟩ | ⟨h, hi | hp⟩
    · simp [h]
    · simp [h]
    · simp [hi]
    · simp [hi]
    · simp [h, hp]
  have hoff : s.heater.state ≠ .off := by rcases h with h | h | ⟨h, _⟩ | ⟨h, _⟩ <;> simp [h]
  rw [heaterTests, hidle, heaterStart_other hoff, heaterAsk_other h.not_requesting]

theorem heaterTests_waits (h : s.heater.Waits) : (heaterTests s).heater.Waits := by
  have hidle : heaterAtIdle s = s := by
    unfold heaterAtIdle
    rcases h.1 with h | h <;> simp [h]
  rw [heaterTests, hidle, heaterStart_waits h]
  exact heaterAsk_waits h

/-- The purge of a failed start ends at IDLE: the slot is asked for again while demand stands (R120). -/
theorem heaterTests_retry (h : s.heater.state = .retryWait) (hi : s.heaterIdle = true) (hd : s.heater.demand = true) :
    (heaterTests s).heater.Waits := by
  have hend : heaterAtIdle s = s.modHeater fun x => { x with purge := none, state := .requesting } := by
    simp only [heaterAtIdle, hi, h, endRetry, if_true, State.modHeater_heater, hd]
    rfl
  have hwaits : (heaterAtIdle s).heater.Waits := by
    rw [hend]
    exact ⟨.inl rfl, rfl⟩
  rw [heaterTests, heaterStart_waits hwaits]
  exact heaterAsk_waits hwaits

/-- The purge outstanding in LOCKOUT ends at IDLE (R126). -/
theorem heaterTests_lockout (h : s.heater.state = .lockout) (hi : s.heaterIdle = true) (hp : s.heater.purgeOutstanding = true) :
    (heaterTests s).heater = { s.heater with purge := none, purgeOutstanding := false } := by
  have hend : (heaterAtIdle s).heater = { s.heater with purge := none, purgeOutstanding := false } := by
    have hstop := (onEntry_mayStart (k := .heater) (f := stopComplete) (fun i t => .inl (by simp)) s).eq (by simp [h])
    simp only [heaterAtIdle, hi, h, hp, if_true, endLockoutPurge, State.modHeater_heater, hstop]
  have hstate : (heaterAtIdle s).heater.state = .lockout := by rw [hend]; exact h
  rw [heaterTests, heaterStart_other (by simp [hstate]), heaterAsk_other (by simp [hstate]), hend]

end Tests

/-! ### A refresh while demand stands (R115) -/

theorem remarked_course (s : State) : s.remarked.heater.course = s.heater.course := by
  simp [State.remarked, heaterMarks, Heater.course]

theorem takeLevel_course (s : State) : (takeLevel s).heater.course = s.heater.course := by
  unfold takeLevel
  repeat' split
  all_goals rfl

/-- A part whose marks, demand and level have been brought up to date, before the tests that follow. -/
def State.leveled (s : State) : State := takeLevel s.remarked

theorem leveled_course (s : State) : s.leveled.heater.course = s.heater.course :=
  (takeLevel_course _).trans (remarked_course s)

@[simp] theorem leveled_frame (s : State) :
    s.leveled.nodes = s.nodes ∧ s.leveled.tables = s.tables ∧ s.leveled.ret = s.ret ∧ s.leveled.roster = s.roster := by
  simp [State.leveled, State.remarked]

theorem leveled_demand (s : State) : s.leveled.heater.demand = (heaterMarks s).demandNow :=
  congrArg Heater.Inputs.demand (takeLevel_inputs s.remarked)

/-- Demand that stands goes on to the level and the tests (R115). -/
theorem heaterRefresh_heater {s : State} (hd : (heaterMarks s).demandNow = true) :
    (heaterRefresh s).heater = (heaterTests s.leveled).heater := by
  have hended : ((heaterMarks s).heater.demand && !(heaterMarks s).demandNow) = false := by simp [hd]
  simp only [heaterRefresh, heaterDuty_frame, hended, Bool.false_eq_true, if_false]
  rfl

theorem heaterRefresh_mode (s : State) : (heaterRefresh s).heater.mode = s.heater.mode := by
  rw [← Heater.inputs_mode, heaterRefresh_inputs]
  rfl

theorem heaterRefresh_calm {s : State} (hd : (heaterMarks s).demandNow = true) (hs : s.HeaterCalm) :
    (heaterRefresh s).heater.course = s.heater.course := by
  have hcalm : s.leveled.HeaterCalm := hs.congr (leveled_course s) (State.heaterIdle_congr (by simp) (by simp))
  rw [heaterRefresh_heater hd, heaterTests_calm hcalm, leveled_course]

theorem heaterRefresh_goesOn {s : State} (hd : (heaterMarks s).demandNow = true) : s.HeaterGoesOn (heaterRefresh s) := by
  refine ⟨by simp, by simp, heaterRefresh_mode s, by simp, heaterRefresh_calm hd, fun hw => ?_⟩
  rw [heaterRefresh_heater hd]
  exact heaterTests_waits (hw.congr (leveled_course s))

/-- A failed start or run that waits for IDLE: at IDLE the slot is asked for again (R120). -/
theorem heaterRefresh_retry {s : State} (hd : (heaterMarks s).demandNow = true) (h : s.heater.state = .retryWait)
    (hi : s.heaterIdle = true) : (heaterRefresh s).heater.Waits := by
  rw [heaterRefresh_heater hd]
  exact heaterTests_retry ((congrArg Heater.Course.state (leveled_course s)).trans h)
    ((State.heaterIdle_congr (by simp) (by simp)).trans hi) ((leveled_demand s).trans hd)

/-- A purge outstanding in LOCKOUT ends at IDLE (R126). -/
theorem heaterRefresh_lockout {s : State} (hd : (heaterMarks s).demandNow = true) (h : s.heater.state = .lockout)
    (hi : s.heaterIdle = true) (hp : s.heater.purgeOutstanding = true) :
    (heaterRefresh s).heater.course = { s.heater.course with purge := none, purgeOutstanding := false } := by
  have hc := leveled_course s
  rw [heaterRefresh_heater hd, heaterTests_lockout ((congrArg Heater.Course.state hc).trans h)
    ((State.heaterIdle_congr (by simp) (by simp)).trans hi) ((congrArg Heater.Course.purgeOutstanding hc).trans hp), ← hc]
  rfl

end Sys2Proof.Machine
end

section
/-! PROOF. The heater's inputs while demand stands: in MANUAL through whatever the rest clock does, else where no warning is due (R112 to
R115, R171 to R178; O43). -/

namespace Sys2Proof.Machine

/-! ### The failed starts and the lockout, which the rest clock leaves -/

@[simp] theorem ite_starts (c : Prop) [Decidable c] (s t : State) :
    (if c then s else t).ret.starts = if c then s.ret.starts else t.ret.starts := by
  split <;> rfl

@[simp] theorem enqueue_starts (w : Warning) (s : State) : (enqueue w s).ret.starts = s.ret.starts := by
  simp only [enqueue]
  split <;> rfl

@[simp] theorem removeKind_starts (k : WarnKind) (s : State) : (removeKind k s).ret.starts = s.ret.starts := rfl

@[simp] theorem endActive_starts (s : State) : (endActive s).ret.starts = s.ret.starts := by
  unfold endActive
  split
  · simp [Retention.starts]
  · rfl

@[simp] theorem displace_starts (s : State) : (displace s).ret.starts = s.ret.starts := by
  unfold displace
  split <;> simp

@[simp] theorem formPreheat_starts (s : State) : (formPreheat s).ret.starts = s.ret.starts := by
  simp only [formPreheat]
  repeat' split
  all_goals simp

@[simp] theorem formWake_starts (s : State) : (formWake s).ret.starts = s.ret.starts := by
  simp only [formWake]
  repeat' split
  all_goals simp

@[simp] theorem formSunrise_starts (s : State) : (formSunrise s).ret.starts = s.ret.starts := by
  simp only [formSunrise]
  repeat' split
  all_goals simp

/-! ### MANUAL (R109, R115) -/

theorem demandNow_of_manual {s : State} (h : s.heater.mode.isManual = true) : (heaterMarks s).demandNow = true := by
  simp [State.demandNow, heaterMarks, h]

namespace State.HeaterGoesOn
variable {s t u : State}

/-- A step that leaves the heater. -/
theorem of_heater (hn : t.nodes = s.nodes) (ht : t.tables = s.tables) (hr : t.ret.starts = s.ret.starts)
    (hh : t.heater = s.heater) : s.HeaterGoesOn t :=
  .of_mayStart hn ht hr (.inl hh)

/-- A step that is taken in MANUAL, after one that leaves the mode. -/
theorem after (k : t.heater.mode.isManual = true → t.HeaterGoesOn u) (hm : s.heater.mode.isManual = true)
    (h : s.HeaterGoesOn t) : s.HeaterGoesOn u :=
  h.trans (k (by rw [h.mode]; exact hm))

theorem forEach {f : Nat → State → State}
    (h : ∀ i (t : State), t.heater.mode.isManual = true → t.HeaterGoesOn (f i t)) (is : List Nat)
    (hm : s.heater.mode.isManual = true) : s.HeaterGoesOn (s.forEach is f) := by
  unfold State.forEach
  induction is generalizing s with
  | nil => exact .refl s
  | cons i is ih => exact .after ih hm (h i s hm)

end State.HeaterGoesOn

theorem heaterRefresh_goesOn_of_manual {s : State} (hm : s.heater.mode.isManual = true) : s.HeaterGoesOn (heaterRefresh s) :=
  heaterRefresh_goesOn (demandNow_of_manual hm)

/-- A step that writes only the retention area's facts other than the failed starts and the lockout. -/
theorem modRet_goesOn {f : Retention → Retention} (s : State) (hf : (f s.ret).starts = s.ret.starts) :
    s.HeaterGoesOn (s.modRet f) :=
  .of_heater rfl rfl hf rfl

theorem formWake_goesOn (s : State) : s.HeaterGoesOn (formWake s) :=
  .of_heater (by simp) (by simp) (by simp) (by simp)

theorem formPreheat_goesOn (s : State) : s.HeaterGoesOn (formPreheat s) :=
  .of_heater (by simp) (by simp) (by simp) (by simp)

theorem formSunrise_goesOn (s : State) : s.HeaterGoesOn (formSunrise s) :=
  .of_heater (by simp) (by simp) (by simp) (by simp)

theorem refreshIdle_goesOn (s : State) : s.HeaterGoesOn (refreshIdle s) :=
  .of_heater (by simp) (by simp) (by simp) (by simp)

section Manual
variable {s : State}

theorem openWindow_goesOn (endMinute : Nat) (hm : s.heater.mode.isManual = true) : s.HeaterGoesOn (openWindow endMinute s) := by
  unfold openWindow
  exact .after heaterRefresh_goesOn_of_manual hm (.of_course rfl rfl rfl rfl rfl)

theorem closeWindow_goesOn (hm : s.heater.mode.isManual = true) : s.HeaterGoesOn (closeWindow s) := by
  unfold closeWindow
  exact .after heaterRefresh_goesOn_of_manual hm (.of_course rfl rfl rfl rfl rfl)

theorem movePreheat_goesOn (w : Option Nat) (hm : s.heater.mode.isManual = true) : s.HeaterGoesOn (movePreheat w s) := by
  unfold movePreheat
  split
  · split
    · split
      · exact .after closeWindow_goesOn hm (modRet_goesOn s rfl)
      · exact .after (openWindow_goesOn _) hm (modRet_goesOn s rfl)
    · exact modRet_goesOn s rfl
  · split
    · exact .refl s
    · exact modRet_goesOn s rfl
  · exact .refl s

theorem workOutWake_goesOn (hm : s.heater.mode.isManual = true) : s.HeaterGoesOn (workOutWake s) := by
  unfold workOutWake
  dsimp only
  split
  · exact .refl s
  · refine .trans (.trans (.trans ?_ (formWake_goesOn _)) (formPreheat_goesOn _)) (formSunrise_goesOn _)
    exact .after (movePreheat_goesOn _) hm (.of_heater rfl rfl rfl rfl)

theorem markServed_goesOn (w : Warning) (hm : s.heater.mode.isManual = true) : s.HeaterGoesOn (markServed w s) := by
  unfold markServed
  split
  · exact .of_heater rfl rfl rfl rfl
  · exact .of_heater rfl rfl rfl rfl
  · exact .after workOutWake_goesOn hm (.of_heater rfl rfl rfl rfl)
  · exact .refl s

theorem activate_goesOn (w : Warning) (hm : s.heater.mode.isManual = true) : s.HeaterGoesOn (activate w s) := by
  unfold activate
  refine .after (markServed_goesOn w) hm (.of_heater ?_ ?_ ?_ ?_) <;> simp [Retention.starts]

theorem lightTest_goesOn (i : Nat) (s : State) : s.HeaterGoesOn (lightTest i s) := by
  refine .of_mayStart (by simp) (by simp) (by simp) ?_
  simp only [lightTest]
  split
  · split
    · exact .inl (by simp)
    · exact .inl (by simp)
  · split
    · have h := release_heater false i (setDuty i (s.lightDuty i) s)
      simpa using h
    · exact .inl (by simp)

theorem lightTests_goesOn (hm : s.heater.mode.isManual = true) : s.HeaterGoesOn (lightTests s) :=
  .forEach (fun i t _ => lightTest_goesOn i t) _ hm

theorem sunriseStart_goesOn (lead : Nat) (hm : s.heater.mode.isManual = true) : s.HeaterGoesOn (sunriseStart lead s) := by
  unfold sunriseStart
  refine .after lightTests_goesOn hm (.of_heater ?_ ?_ ?_ ?_) <;> simp [State.ite_frame]

theorem dealWith_goesOn (w : Warning) (hm : s.heater.mode.isManual = true) : s.HeaterGoesOn (dealWith w s) := by
  unfold dealWith
  split
  · exact .after (openWindow_goesOn _) hm (modRet_goesOn s rfl)
  · exact .after (sunriseStart_goesOn _) hm (.of_heater rfl rfl rfl rfl)
  · refine .after (activate_goesOn w) hm (.of_heater ?_ ?_ ?_ ?_) <;> simp

theorem sweepN_goesOn (n : Nat) (hm : s.heater.mode.isManual = true) : s.HeaterGoesOn (sweepN n s) := by
  induction n generalizing s with
  | zero => exact .refl s
  | succ n ih =>
    unfold sweepN
    split
    next w _ => exact .after ih hm (.after (dealWith_goesOn w) hm (modRet_goesOn s rfl))
    next => exact .refl s

theorem restEnd_goesOn (hm : s.heater.mode.isManual = true) : s.HeaterGoesOn (restEnd s) := by
  unfold restEnd
  refine .trans ?_ (refreshIdle_goesOn _)
  split
  · exact sweepN_goesOn 32 hm
  · exact .refl s

/-- In MANUAL the heater goes on through a change of its inputs, whatever the rest clock makes of it. -/
theorem heaterInputs_goesOn_of_manual (hm : s.heater.mode.isManual = true) : s.HeaterGoesOn (heaterInputs s) := by
  unfold heaterInputs
  dsimp only
  refine .after heaterRefresh_goesOn_of_manual hm ?_
  split
  · exact .refl s
  · unfold preheatNews
    refine .after restEnd_goesOn hm (.trans ?_ (formPreheat_goesOn _))
    exact .of_course rfl rfl rfl rfl rfl

end Manual

/-! ### No window to open (R171, R174 to R176) -/

theorem hysteresis_twice (t r : Int) (was : Bool) : hysteresis t r (hysteresis t r was) = hysteresis t r was := by
  unfold hysteresis
  split
  · rfl
  · split <;> rfl

theorem State.cabReading_congr {s t : State} (hn : t.nodes = s.nodes) (ht : t.tables = s.tables)
    (hs : t.signals = s.signals) : t.cabReading = s.cabReading := by
  have hnode : t.node = s.node := funext (State.node_congr hn)
  have hpos : t.panelPos 0 = s.panelPos 0 := by
    simp only [State.panelPos, State.positionsOf, State.kindAt_congr ht]
  simp only [State.cabReading, State.cabSource, State.signal, hnode, hpos, hs]
  rfl

/-- Marks worked out again from the same inputs give the same demand. -/
theorem heaterMarks_again {s t : State} (hi : t.heater.inputs = s.remarked.heater.inputs)
    (hc : t.cabReading = s.cabReading) (ht : t.tables = s.tables) : (heaterMarks t).demandNow = (heaterMarks s).demandNow := by
  have hmode : t.heater.mode = s.heater.mode := congrArg Heater.Inputs.mode hi
  have hset : t.heater.setPoint = s.heater.setPoint := congrArg Heater.Inputs.setPoint hi
  have hwindow : t.heater.window = s.heater.window := congrArg Heater.Inputs.window hi
  have hthermo : t.heater.thermo = (heaterMarks s).heater.thermo := congrArg Heater.Inputs.thermo hi
  have hpreheat : t.heater.preheat = (heaterMarks s).heater.preheat := congrArg Heater.Inputs.preheat hi
  have hclimate : t.climate = s.climate := by simp only [State.climate, ht]
  simp only [State.demandNow, heaterMarks, State.modHeater_heater, hmode, hset, hwindow, hthermo, hpreheat, hclimate, hc]
  cases s.heater.mode <;> cases s.cabReading <;> cases s.heater.window <;> simp [hysteresis_twice]

theorem heaterRefresh_demand (s : State) : (heaterRefresh s).heater.demand = (heaterMarks s).demandNow := by
  rw [← Heater.inputs_demand, heaterRefresh_inputs]
  rfl

/-- With no warning due the sweep deals with none (R171). -/
theorem sweepN_quiet {s : State} (h : ∀ w ∈ s.ret.queue, s.ret.clock < w.due) (n : Nat) : sweepN n s = s := by
  cases n with
  | zero => rfl
  | succ n =>
    have hnone : s.ret.queue.find? s.actionable = none := List.find?_eq_none.mpr fun w hw => by
      simp [State.actionable, Nat.not_le.mpr (h w hw)]
    simp only [sweepN, hnone]

/-- A part that reads as another in everything a refresh of the heater works from and keeps. -/
structure State.HeaterSame (s t : State) : Prop where
  nodes : t.nodes = s.nodes
  tables : t.tables = s.tables
  signals : t.signals = s.signals
  starts : t.ret.starts = s.ret.starts
  inputs : t.heater.inputs = s.heater.inputs
  course : t.heater.course = s.heater.course

theorem State.HeaterSame.goesOn {s t : State} (h : s.HeaterSame t) : s.HeaterGoesOn t :=
  .of_course h.nodes h.tables (congrArg Heater.Inputs.mode h.inputs) h.starts h.course

/-- With no wake minute and no warning due, news of the outdoor reading opens nothing (R171, R175). -/
theorem preheatNews_quiet {s : State} (hw : s.rest.wake = none) (hq : ∀ w ∈ s.ret.queue, s.ret.clock < w.due) :
    preheatNews s = refreshIdle (removeKind .preheat s) := by
  have hform : formPreheat s = removeKind .preheat s := by simp only [formPreheat, hw]
  have hlater : ∀ w ∈ (removeKind .preheat s).ret.queue, (removeKind .preheat s).ret.clock < w.due :=
    fun w hmem => hq w (List.mem_filter.mp hmem).1
  simp only [preheatNews, hform, restEnd, sweepN_quiet hlater, ite_self]

/-- With no wake minute and no warning due, news of the heater's inputs opens and closes no window: it is a refresh. -/
theorem heaterInputs_quiet {s : State} (hw : s.rest.wake = none) (hq : ∀ w ∈ s.ret.queue, s.ret.clock < w.due) :
    ∃ v, heaterInputs s = heaterRefresh v ∧ s.HeaterSame v := by
  by_cases ho : s.outdoorNow = s.heater.outdoor
  · exact ⟨s, by simp only [heaterInputs, if_pos ho], ⟨rfl, rfl, rfl, rfl, rfl, rfl⟩⟩
  · refine ⟨preheatNews (s.modHeater fun h => { h with outdoor := s.outdoorNow }), by simp only [heaterInputs, if_neg ho], ?_⟩
    rw [preheatNews_quiet (s := s.modHeater _) hw hq]
    exact ⟨by simp, by simp, by simp, by simp, by simp [Heater.inputs], by simp [Heater.course]⟩

/-- Where no window can open, demand at the end of a handling is demand at its refresh, and the heater has gone on from there. -/
theorem heaterInputs_goesOn_of_quiet {s : State} (hw : s.rest.wake = none) (hq : ∀ w ∈ s.ret.queue, s.ret.clock < w.due)
    (hd : (heaterInputs (heaterRefresh s)).heater.demand = true) :
    (heaterMarks s).demandNow = true ∧ (heaterRefresh s).HeaterGoesOn (heaterInputs (heaterRefresh s)) := by
  obtain ⟨v, hv, hsame⟩ := heaterInputs_quiet (s := heaterRefresh s) (by simpa using hw) (by simpa using hq)
  have hcab : v.cabReading = s.cabReading :=
    State.cabReading_congr (hsame.nodes.trans (by simp)) (hsame.tables.trans (by simp)) (hsame.signals.trans (by simp))
  have hagain : (heaterMarks v).demandNow = (heaterMarks s).demandNow :=
    heaterMarks_again (hsame.inputs.trans (heaterRefresh_inputs s)) hcab (hsame.tables.trans (by simp))
  have hdv : (heaterMarks v).demandNow = true := by
    rw [← heaterRefresh_demand, ← hv]
    exact hd
  exact ⟨hagain.symm.trans hdv, by rw [hv]; exact hsame.goesOn.trans (heaterRefresh_goesOn hdv)⟩

end Sys2Proof.Machine
end

section
/-! PROOF. The edges of the heater's held phase: a start that is seen, succeeds or fails, and a run that fails (R107, R119, R120,
R126; O43). -/

namespace Sys2Proof.Machine

/-! ### An edge, then a refresh (R119) -/

/-- The held phase of the heater's record. -/
def State.heldPhase (s : State) : Option Nat := s.heaterNode.bind NodeRec.heldA

/-- What an edge of the held phase does before the refresh (R119). -/
def heaterEdge (s : State) : State :=
  match s.heater.state, s.heldPhase with
  | .starting, some 1 => s.modHeater fun h => { h with startSeen := true }
  | .starting, some 2 => s.modHeater fun h => { h with startSeen := true }
  | .starting, some 3 => startSucceeds s
  | .starting, some 4 => heaterFails false s
  | .starting, some 5 => heaterFails true s
  | .starting, some 0 => if s.heater.startSeen then heaterFails false s else s
  | .running, some 3 => s
  | .running, some 5 => heaterFails true s
  | .running, some _ => heaterFails false s
  | _, _ => s

theorem heaterPhase_eq (s : State) : heaterPhase s = heaterRefresh (heaterEdge s) := by
  unfold heaterPhase heaterEdge State.heldPhase
  cases s.heaterNode <;> rfl

/-! ### A failure (R119) -/

/-- The fault code held in the heater's record, for the notices' details. -/
def State.heldCode (s : State) : List Byte :=
  match s.heaterNode with
  | some r => leOpt 1 r.heldB
  | none => allOnes 1

/-- A part whose heater stops after a failure, the failure counted. -/
def State.stopped (s : State) : State :=
  (commandStop .retryWait s).modRet fun r => { r with failedStarts := min 3 (s.ret.failedStarts + 1) }

/-- A stopped part whose start has given its surge place back. -/
def State.givenBack (s : State) : State :=
  if s.heater.state = .starting then onEntry .heater surgeDone s.stopped else s.stopped

/-- A part whose heater has failed a start or a run, before the third failure is looked at. -/
def State.failing (s : State) (nodeFault : Bool) : State :=
  if nodeFault then raise .heaterFault (byte 0 :: s.heldCode ++ [byte (min 3 (s.ret.failedStarts + 1))]) s.givenBack
  else s.givenBack

theorem heaterFails_eq (nodeFault : Bool) (s : State) :
    heaterFails nodeFault s =
      if min 3 (s.ret.failedStarts + 1) = 3 then
        ((raise .heaterLockout (byte (min 3 (s.ret.failedStarts + 1)) :: s.heldCode ++ [byte 0])
          (onEntry .heater (release true) (s.failing nodeFault))).modHeater
            fun h => { h with state := .lockout, purgeOutstanding := true }).modRet fun r => { r with lockout := true }
      else s.failing nodeFault := rfl

section Fails
variable (s : State) (nodeFault : Bool)

theorem stopped_heater : s.stopped.heater = { leaveRun .retryWait s.heater with purge := some 0 } := rfl

theorem givenBack_heater : s.givenBack.heater = { leaveRun .retryWait s.heater with purge := some 0 } := by
  have hgiven := (onEntry_mayStart (k := .heater) surgeDone_heater s.stopped).eq (by simp [stopped_heater, leaveRun])
  unfold State.givenBack
  split
  · rw [hgiven, stopped_heater]
  · exact stopped_heater s

@[simp] theorem givenBack_frame :
    s.givenBack.ret = { s.ret with failedStarts := min 3 (s.ret.failedStarts + 1) } ∧ s.givenBack.rest = s.rest := by
  unfold State.givenBack
  split <;> simp [State.stopped]

theorem failing_heater : (s.failing nodeFault).heater = { leaveRun .retryWait s.heater with purge := some 0 } := by
  unfold State.failing
  split
  · simp [givenBack_heater]
  · exact givenBack_heater s

@[simp] theorem failing_frame :
    (s.failing nodeFault).ret = { s.ret with failedStarts := min 3 (s.ret.failedStarts + 1) } ∧
      (s.failing nodeFault).rest = s.rest := by
  unfold State.failing
  split <;> simp

theorem failing_flag : (s.failing true).notices.flags.getLsbD 4 = true :=
  raise_flag_self .heaterFault _ _

/-- The heater as the third failure in a row leaves it. -/
theorem failing_released_heater :
    (onEntry .heater (release true) (s.failing nodeFault)).heater = { leaveRun .retryWait s.heater with purge := some 0 } := by
  have h := (onEntry_mayStart (k := .heater) (release_heater true) (s.failing nodeFault)).eq
    (by simp [failing_heater, leaveRun])
  rw [h, failing_heater]

theorem heaterFails_early (h : s.ret.failedStarts < 2) : heaterFails nodeFault s = s.failing nodeFault := by
  rw [heaterFails_eq, if_neg (by omega)]

theorem heaterFails_third (h : 2 ≤ s.ret.failedStarts) :
    (heaterFails nodeFault s).heater = { leaveRun .lockout s.heater with purge := some 0, purgeOutstanding := true } ∧
      (heaterFails nodeFault s).ret = { s.ret with failedStarts := 3, lockout := true } ∧
      (heaterFails nodeFault s).notices.flags.getLsbD 1 = true := by
  have hcount : min 3 (s.ret.failedStarts + 1) = 3 := by omega
  rw [heaterFails_eq, if_pos hcount]
  refine ⟨?_, ?_, raise_flag_self .heaterLockout _ _⟩
  · simp [failing_released_heater, leaveRun]
  · simp [hcount]

theorem heaterFails_flag : (heaterFails true s).notices.flags.getLsbD 4 = true := by
  have hflag := failing_flag s
  rw [heaterFails_eq]
  split
  · rw [State.modRet_notices, State.modHeater_notices, raise_flag _ _ _ _ (by decide), onEntry_notices _ _ _ (by simp), hflag,
      Bool.true_or]
  · exact hflag

/-- A failure leaves the mode, the rest clock and its queue. -/
theorem heaterFails_leaves :
    (heaterFails nodeFault s).heater.mode = s.heater.mode ∧ (heaterFails nodeFault s).rest = s.rest ∧
      (heaterFails nodeFault s).ret.queue = s.ret.queue ∧ (heaterFails nodeFault s).ret.clock = s.ret.clock := by
  rcases Nat.lt_or_ge s.ret.failedStarts 2 with h | h
  · rw [heaterFails_early s nodeFault h]
    simp [failing_heater, leaveRun]
  · obtain ⟨hheater, hret, _⟩ := heaterFails_third s nodeFault h
    refine ⟨?_, by simp, ?_, ?_⟩
    · rw [hheater]
      rfl
    · rw [hret]
    · rw [hret]

end Fails

/-! ### A start that succeeds (R119) -/

theorem startSucceeds_heater {s : State} (h : s.heater.state = .starting) :
    (startSucceeds s).heater = { s.heater with state := .running, ignition := none, ignitionTime := s.heater.ignition } := by
  have hgiven := (onEntry_mayStart (k := .heater) surgeDone_heater (s.modHeater fun h => { h with ignitionTime := h.ignition })).eq
    (by simp [h])
  simp [startSucceeds, hgiven]

theorem startSucceeds_ret (s : State) : (startSucceeds s).ret = { s.ret with failedStarts := 0 } := by
  simp [startSucceeds]

/-! ### The edges, state by state -/

/-- An edge leaves the mode, the rest clock and its queue. -/
theorem heaterEdge_leaves (s : State) :
    (heaterEdge s).heater.mode = s.heater.mode ∧ (heaterEdge s).rest = s.rest ∧
      (heaterEdge s).ret.queue = s.ret.queue ∧ (heaterEdge s).ret.clock = s.ret.clock := by
  unfold heaterEdge
  split
  case h_3 h _ => simp [startSucceeds_heater h, startSucceeds_ret]
  case h_6 => split <;> simp [heaterFails_leaves]
  all_goals simp [heaterFails_leaves]

@[simp] theorem heaterEdge_frame (s : State) :
    (heaterEdge s).nodes = s.nodes ∧ (heaterEdge s).tables = s.tables ∧ (heaterEdge s).signals = s.signals := by
  unfold heaterEdge
  repeat' split
  all_goals simp

section Edge
variable {s : State}

theorem heaterEdge_seen (hs : s.heater.state = .starting) (hp : s.heldPhase = some 1 ∨ s.heldPhase = some 2) :
    heaterEdge s = s.modHeater fun h => { h with startSeen := true } := by
  rcases hp with hp | hp <;> simp only [heaterEdge, hs, hp]

theorem heaterEdge_flame (hs : s.heater.state = .starting) (hp : s.heldPhase = some 3) : heaterEdge s = startSucceeds s := by
  simp only [heaterEdge, hs, hp]

theorem heaterEdge_purge (hs : s.heater.state = .starting) (hp : s.heldPhase = some 4) : heaterEdge s = heaterFails false s := by
  simp only [heaterEdge, hs, hp]

theorem heaterEdge_fault (hs : s.heater.state = .starting ∨ s.heater.state = .running) (hp : s.heldPhase = some 5) :
    heaterEdge s = heaterFails true s := by
  rcases hs with hs | hs <;> simp only [heaterEdge, hs, hp]

theorem heaterEdge_idle (hs : s.heater.state = .starting) (hp : s.heldPhase = some 0) :
    heaterEdge s = if s.heater.startSeen = true then heaterFails false s else s := by
  simp only [heaterEdge, hs, hp]

theorem heaterEdge_running_flame (hs : s.heater.state = .running) (hp : s.heldPhase = some 3) : heaterEdge s = s := by
  simp only [heaterEdge, hs, hp]

theorem heaterEdge_running_fails {x : Nat} (hs : s.heater.state = .running) (hp : s.heldPhase = some x) (hx : x ≠ 3) :
    ∃ nodeFault, heaterEdge s = heaterFails nodeFault s := by
  by_cases h5 : x = 5
  · exact ⟨true, heaterEdge_fault (.inr hs) (h5 ▸ hp)⟩
  · refine ⟨false, ?_⟩
    simp only [heaterEdge, hs, hp]

theorem heaterEdge_other (hs : s.heater.state ≠ .starting) (hr : s.heater.state ≠ .running) : heaterEdge s = s := by
  unfold heaterEdge
  split <;> simp_all

end Edge

/-! ### What a handling in which demand stands makes of an edge -/

section Stands
variable {s e t : State}

/-- Demand that stands stands at the refresh, and the heater goes on from there to the end of the handling. -/
theorem edge_goesOn (hh : e.heater.mode = s.heater.mode) (hq : e.ret.queue = s.ret.queue) (hc : e.ret.clock = s.ret.clock)
    (hr : e.rest = s.rest) (hs : s.DemandStands (heaterInputs (heaterPhase e))) :
    (heaterMarks (heaterEdge e)).demandNow = true ∧
      (heaterRefresh (heaterEdge e)).HeaterGoesOn (heaterInputs (heaterPhase e)) := by
  obtain ⟨hmode, hrest, hqueue, hclock⟩ := heaterEdge_leaves e
  rw [heaterPhase_eq] at hs ⊢
  rcases hs with hm | ⟨hd, hw, hlater⟩
  · have hmanual : (heaterEdge e).heater.mode.isManual = true := by rw [hmode, hh, hm]
    have hmanual' : (heaterRefresh (heaterEdge e)).heater.mode.isManual = true := by rw [heaterRefresh_mode, hmanual]
    exact ⟨demandNow_of_manual hmanual, heaterInputs_goesOn_of_manual hmanual'⟩
  · refine heaterInputs_goesOn_of_quiet ?_ ?_ hd
    · rw [hrest, hr, hw]
    · rw [hqueue, hclock, hq, hc]
      exact hlater

variable {u : State}

/-- A start or a run that goes on keeps its course. -/
theorem course_of_goesOn (hd : (heaterMarks u).demandNow = true) (hg : (heaterRefresh u).HeaterGoesOn t) (hc : u.HeaterCalm) :
    t.heater.course = u.heater.course :=
  ((heaterRefresh_goesOn hd).trans hg).calm hc

theorem idle_of_goesOn (hd : (heaterMarks u).demandNow = true) (hg : (heaterRefresh u).HeaterGoesOn t) :
    t.heaterIdle = u.heaterIdle :=
  have h := (heaterRefresh_goesOn hd).trans hg
  State.heaterIdle_congr h.nodes h.tables

theorem starts_of_goesOn (hd : (heaterMarks u).demandNow = true) (hg : (heaterRefresh u).HeaterGoesOn t) :
    t.ret.starts = u.ret.starts :=
  ((heaterRefresh_goesOn hd).trans hg).starts

theorem calm_of_purged (hs : u.heater.state = .lockout)
    (h : t.heater.course = { u.heater.course with purge := none, purgeOutstanding := false }) : t.HeaterCalm := by
  have hstate : t.heater.state = .lockout := (congrArg Heater.Course.state h).trans hs
  have hover : t.heater.purgeOutstanding = false := congrArg Heater.Course.purgeOutstanding h
  exact .inr (.inr (.inr ⟨hstate, .inr hover⟩))

/-- A purge outstanding in LOCKOUT is over at IDLE and stands otherwise. -/
theorem lockout_of_goesOn (hd : (heaterMarks u).demandNow = true) (hg : (heaterRefresh u).HeaterGoesOn t)
    (hs : u.heater.state = .lockout) (hp : u.heater.purgeOutstanding = true) :
    t.heater.course = if u.heaterIdle = true then { u.heater.course with purge := none, purgeOutstanding := false }
      else u.heater.course := by
  split
  next hi =>
    have hended := heaterRefresh_lockout hd hs hi hp
    exact (hg.calm (calm_of_purged hs hended)).trans hended
  next hi => exact course_of_goesOn hd hg (.inr (.inr (.inr ⟨hs, .inl (by simpa using hi)⟩)))

/-- A failure of a start or a run, at the end of its handling. -/
theorem heaterFailed_of_goesOn {nodeFault : Bool} (hr : e.ret = s.ret) (hu : u = heaterFails nodeFault e)
    (hd : (heaterMarks u).demandNow = true) (hg : (heaterRefresh u).HeaterGoesOn t) (hn : t.notices = u.notices) :
    s.HeaterFailed t := by
  have hidle := idle_of_goesOn hd hg
  have hstarts := starts_of_goesOn hd hg
  have hfailed : t.ret.failedStarts = u.ret.failedStarts := congrArg Prod.fst hstarts
  have hlock : t.ret.lockout = u.ret.lockout := congrArg Prod.snd hstarts
  rcases Nat.lt_or_ge s.ret.failedStarts 2 with hcount | hcount
  · have hearly : u = e.failing nodeFault := hu.trans (heaterFails_early e nodeFault (by rwa [hr]))
    have hheater := hearly ▸ failing_heater e nodeFault
    have hret := hearly ▸ (failing_frame e nodeFault).1
    have hstate : u.heater.state = .retryWait := by rw [hheater]; rfl
    refine ⟨?_, fun h => absurd h (by omega), fun hi => ?_, fun hi => ?_⟩
    · rw [hfailed, hret, hr]
    · have hcourse := course_of_goesOn hd hg (.inr (.inr (.inl ⟨hstate, hidle ▸ hi⟩)))
      refine ⟨(congrArg Heater.Course.purge hcourse).trans (by rw [hheater]; rfl), fun _ => ⟨?_, ?_⟩, fun h => absurd h (by omega)⟩
      · exact (congrArg Heater.Course.state hcourse).trans hstate
      · rw [hlock, hret, hr]
    · have hwaits := hg.waits (heaterRefresh_retry hd hstate (hidle ▸ hi))
      exact ⟨hwaits.2, fun _ => hwaits.1, fun h => absurd h (by omega)⟩
  · obtain ⟨hheater, hret, hflag⟩ := hu ▸ heaterFails_third e nodeFault (by rwa [hr])
    have hstate : u.heater.state = .lockout := by rw [hheater]; rfl
    have hout : u.heater.purgeOutstanding = true := by rw [hheater]
    have hcourse := lockout_of_goesOn hd hg hstate hout
    rw [← hidle] at hcourse
    have hlocked : t.heater.state = .lockout := by
      have := congrArg Heater.Course.state hcourse
      split at this <;> exact this.trans hstate
    refine ⟨?_, fun _ => ⟨hlocked, ?_, ?_⟩, fun hi => ?_, fun hi => ?_⟩
    · rw [hfailed, hret]
      have hthree : 3 = min 3 (s.ret.failedStarts + 1) := by omega
      exact hthree
    · rw [hlock, hret]
    · rw [hn, hflag]
    · rw [if_neg (by simp [hi])] at hcourse
      refine ⟨(congrArg Heater.Course.purge hcourse).trans (by rw [hheater]; rfl), fun h => absurd h (by omega), fun _ => ?_⟩
      exact (congrArg Heater.Course.purgeOutstanding hcourse).trans hout
    · rw [if_pos hi] at hcourse
      exact ⟨congrArg Heater.Course.purge hcourse, fun h => absurd h (by omega), fun _ =>
        congrArg Heater.Course.purgeOutstanding hcourse⟩

end Stands

/-! ### An accepted heater message (R42, R119, R120, R126) -/

theorem tellAccepted_heater {p : Nat} {old : NodeRec} {s : State} (hk : s.kindAt p = .heater)
    (h : old.heldA ≠ (s.node p).heldA) : tellAccepted p old s = heaterInputs (heaterPhase s) := by
  simp only [tellAccepted, hk, if_pos h]

theorem heldPhase_eq {p : Nat} {s : State} (h : s.positionsOf .heater = [p]) : s.heldPhase = (s.node p).heldA := by
  simp [State.heldPhase, State.heaterNode, State.nodeOf, h]

theorem heaterIdle_eq {p : Nat} {s : State} (h : s.positionsOf .heater = [p]) :
    s.heaterIdle = ((s.node p).presence == .present && (s.node p).heldA == some 0) := by
  simp [State.heaterIdle, State.heaterNode, State.nodeOf, h]

/-- A handling, from `s` to `t`, in which the heater is told of a change of its held phase in `e` and demand stands. -/
structure State.HeaterTold (s e t : State) : Prop where
  heater : e.heater = s.heater
  ret : e.ret = s.ret
  rest : e.rest = s.rest
  notices : e.notices = s.notices
  told : t = heaterInputs (heaterPhase e)
  stands : s.DemandStands t

namespace State.HeaterTold
variable {s e t : State}

theorem goesOn (h : s.HeaterTold e t) :
    (heaterMarks (heaterEdge e)).demandNow = true ∧ (heaterRefresh (heaterEdge e)).HeaterGoesOn t := by
  have hstands := h.stands
  rw [h.told] at hstands ⊢
  exact edge_goesOn (congrArg Heater.mode h.heater) (congrArg Retention.queue h.ret) (congrArg Retention.clock h.ret) h.rest hstands

theorem notices_eq (h : s.HeaterTold e t) : t.notices = (heaterEdge e).notices := by
  rw [h.told, heaterPhase_eq]
  simp

/-- An edge that fails the start or the run (R119). -/
theorem failed (h : s.HeaterTold e t) {nodeFault : Bool} (hu : heaterEdge e = heaterFails nodeFault e) : s.HeaterFailed t := by
  obtain ⟨hd, hg⟩ := h.goesOn
  exact heaterFailed_of_goesOn h.ret hu hd hg h.notices_eq

/-- FAULT in STARTING or RUNNING latches HEATER_FAULT (R119). -/
theorem fault (h : s.HeaterTold e t) (hst : s.heater.state = .starting ∨ s.heater.state = .running)
    (hp : e.heldPhase = some 5) : t.notices.flags.getLsbD 4 = true := by
  rw [h.notices_eq, heaterEdge_fault (by rwa [h.heater]) hp]
  exact heaterFails_flag e

/-- Without an edge that acts, a start or a run goes on. -/
theorem stays (h : s.HeaterTold e t) (hst : s.heater.state = .starting ∨ s.heater.state = .running) (hu : heaterEdge e = e) :
    t.heater.course = s.heater.course ∧ t.ret.starts = s.ret.starts ∧ t.notices = s.notices := by
  obtain ⟨hd, hg⟩ := h.goesOn
  have hnotices := h.notices_eq
  rw [hu] at hd hg hnotices
  have hcalm : e.HeaterCalm := by
    rcases hst with hst | hst
    · exact .inl (by rwa [h.heater])
    · exact .inr (.inl (by rwa [h.heater]))
  refine ⟨(course_of_goesOn hd hg hcalm).trans ?_, (starts_of_goesOn hd hg).trans ?_, hnotices.trans h.notices⟩
  · rw [h.heater]
  · rw [h.ret]

end State.HeaterTold

end Sys2Proof.Machine
end

section
/-! PROOF. What the heater's owner makes of each held phase (R119, R120, R126; O43). -/

namespace Sys2Proof.Machine

/-- The heater goes on in its state: its ignition timer, its failed starts and HEATER_FAULT are as they were. -/
def State.HeaterStays (s t : State) : Prop :=
  t.heater.state = s.heater.state ∧ t.heater.ignition = s.heater.ignition ∧
    t.ret.failedStarts = s.ret.failedStarts ∧ t.notices.flags.getLsbD 4 = s.notices.flags.getLsbD 4

theorem State.HeaterFailed.qualify {s t : State} (h : s.HeaterFailed t) : s.HeaterFailed (qualify t) :=
  ⟨h.count, h.lockout, h.purging, h.ended⟩

namespace State.HeaterTold
variable {s e t : State}

/-- The controller's state as the edge finds it. -/
theorem state (h : s.HeaterTold e t) {st : HeaterState} (hs : s.heater.state = st) : e.heater.state = st := by
  rw [h.heater, hs]

/-- Without an edge that acts, a start or a run stays as it is. -/
theorem goes (h : s.HeaterTold e t) (hst : s.heater.state = .starting ∨ s.heater.state = .running) (hu : heaterEdge e = e) :
    s.HeaterStays t ∧ t.heater.startSeen = s.heater.startSeen := by
  obtain ⟨hcourse, hstarts, hnotices⟩ := h.stays hst hu
  refine ⟨⟨congrArg Heater.Course.state hcourse, congrArg Heater.Course.ignition hcourse, congrArg Prod.fst hstarts, ?_⟩,
    congrArg Heater.Course.startSeen hcourse⟩
  rw [hnotices]

/-- GLOW and IGNITE in STARTING: the start is seen. -/
theorem seen (h : s.HeaterTold e t) (hst : s.heater.state = .starting) (hp : e.heldPhase = some 1 ∨ e.heldPhase = some 2) :
    s.HeaterStays t ∧ t.heater.startSeen = true := by
  obtain ⟨hd, hg⟩ := h.goesOn
  have hnotices := h.notices_eq
  rw [heaterEdge_seen (h.state hst) hp] at hd hg hnotices
  have hcourse := course_of_goesOn hd hg (.inl (h.state hst))
  have hstarts := starts_of_goesOn hd hg
  rw [State.modHeater_heater, h.heater] at hcourse
  rw [State.modHeater_ret, h.ret] at hstarts
  refine ⟨⟨congrArg Heater.Course.state hcourse, congrArg Heater.Course.ignition hcourse, congrArg Prod.fst hstarts, ?_⟩,
    congrArg Heater.Course.startSeen hcourse⟩
  rw [hnotices, State.modHeater_notices, h.notices]

/-- FLAME in STARTING ends the start well. -/
theorem flame (h : s.HeaterTold e t) (hst : s.heater.state = .starting) (hp : e.heldPhase = some 3) :
    t.heater.state = .running ∧ t.heater.ignition = none ∧ t.heater.ignitionTime = s.heater.ignition ∧
      t.ret.failedStarts = 0 := by
  obtain ⟨hd, hg⟩ := h.goesOn
  rw [heaterEdge_flame (h.state hst) hp] at hd hg
  have hheater := startSucceeds_heater (h.state hst)
  have hcourse := course_of_goesOn hd hg (.inr (.inl (by rw [hheater])))
  have hstarts := starts_of_goesOn hd hg
  rw [hheater, h.heater] at hcourse
  rw [startSucceeds_ret] at hstarts
  exact ⟨congrArg Heater.Course.state hcourse, congrArg Heater.Course.ignition hcourse,
    congrArg Heater.Course.ignitionTime hcourse, congrArg Prod.fst hstarts⟩

/-- IDLE in STARTING before the start is seen does nothing. -/
theorem unseen (h : s.HeaterTold e t) (hst : s.heater.state = .starting) (hp : e.heldPhase = some 0)
    (hseen : s.heater.startSeen = false) : s.HeaterStays t ∧ t.heater.startSeen = false := by
  have hedge : heaterEdge e = e := by
    rw [heaterEdge_idle (h.state hst) hp, h.heater, hseen, if_neg Bool.false_ne_true]
  obtain ⟨hstays, hsame⟩ := h.goes (.inl hst) hedge
  exact ⟨hstays, hsame.trans hseen⟩

/-- IDLE in STARTING once the start is seen fails it. -/
theorem idle (h : s.HeaterTold e t) (hst : s.heater.state = .starting) (hp : e.heldPhase = some 0)
    (hseen : s.heater.startSeen = true) : s.HeaterFailed t :=
  h.failed (nodeFault := false) (by rw [heaterEdge_idle (h.state hst) hp, h.heater, hseen, if_pos rfl])

/-- PURGE and FAULT in STARTING fail the start. -/
theorem broken (h : s.HeaterTold e t) (hst : s.heater.state = .starting) (hp : e.heldPhase = some 4 ∨ e.heldPhase = some 5) :
    s.HeaterFailed t := by
  rcases hp with hp | hp
  · exact h.failed (heaterEdge_purge (h.state hst) hp)
  · exact h.failed (heaterEdge_fault (.inl (h.state hst)) hp)

/-- FLAME in RUNNING does nothing. -/
theorem burning (h : s.HeaterTold e t) (hst : s.heater.state = .running) (hp : e.heldPhase = some 3) : s.HeaterStays t :=
  (h.goes (.inr hst) (heaterEdge_running_flame (h.state hst) hp)).1

/-- Any phase but FLAME in RUNNING fails the run. -/
theorem out (h : s.HeaterTold e t) (hst : s.heater.state = .running) {x : Nat} (hp : e.heldPhase = some x) (hx : x ≠ 3) :
    s.HeaterFailed t := by
  obtain ⟨nodeFault, hedge⟩ := heaterEdge_running_fails (h.state hst) hp hx
  exact h.failed hedge

/-- A failed start in RETRY_WAIT ends at IDLE: the slot is asked for again (R120). -/
theorem retried (h : s.HeaterTold e t) (hst : s.heater.state = .retryWait) (hi : e.heaterIdle = true) : t.heater.Waits := by
  obtain ⟨hd, hg⟩ := h.goesOn
  have hstate := h.state hst
  rw [heaterEdge_other (by simp [hstate]) (by simp [hstate])] at hd hg
  exact hg.waits (heaterRefresh_retry hd hstate hi)

/-- A purge outstanding in LOCKOUT ends at IDLE (R126). -/
theorem purged (h : s.HeaterTold e t) (hst : s.heater.state = .lockout) (hp : s.heater.purgeOutstanding = true)
    (hi : e.heaterIdle = true) :
    t.heater.state = .lockout ∧ t.heater.purge = none ∧ t.heater.purgeOutstanding = false := by
  obtain ⟨hd, hg⟩ := h.goesOn
  have hstate := h.state hst
  rw [heaterEdge_other (by simp [hstate]) (by simp [hstate])] at hd hg
  have hcourse := lockout_of_goesOn hd hg hstate (by rw [h.heater, hp])
  rw [if_pos hi] at hcourse
  exact ⟨(congrArg Heater.Course.state hcourse).trans hstate, congrArg Heater.Course.purge hcourse,
    congrArg Heater.Course.purgeOutstanding hcourse⟩

end State.HeaterTold

end Sys2Proof.Machine
end

section
/-! PROOF. The fridge controller told of an accepted message: a start from HELD, HELD ended by its reading, and the protect timer (R129,
R133 to R135, R139; O43). -/

namespace Sys2Proof.Machine

/-! ### The slot handed on (R74, R134) -/

/-- A fridge in COOLING, its compressor just switched on (R135). -/
def Fridge.cooled (f : Fridge) : Fridge := { f with state := .cooling, minOn := some 0, surgeHold := some 0 }

/-- A fridge that is as it was, or has been given the slot in HELD or WANT and cools (R134, R135). -/
def Fridge.MayCool (f f' : Fridge) : Prop := f' = f ∨ (f.state = .held ∨ f.state = .want) ∧ f' = f.cooled

theorem handOver_fridge (n : Nat) (s : State) : s.fridge.MayCool (handOver n s).fridge := by
  induction n generalizing s with
  | zero => exact .inl rfl
  | succ n ih =>
    rw [handOver]
    split
    · exact .inl rfl
    · dsimp only
      split
      · split
        · exact .inl (by simp [enterStarting])
        · exact ih _
      · split
        next h => exact .inr ⟨h.1, rfl⟩
        next => exact ih _
      · exact ih _

theorem giveUpPlace_fridge (i : Nat) (s : State) : s.fridge.MayCool (giveUpPlace i s).fridge := by
  unfold giveUpPlace
  split
  · exact handOver_fridge _ _
  · exact .inl rfl

theorem askSlot_fridge (i : Nat) (s : State) : s.fridge.MayCool (askSlot i s).fridge := by
  unfold askSlot
  split
  · exact .inl rfl
  · dsimp only
    split
    · exact handOver_fridge _ _
    · exact .inl rfl

theorem onEntry_mayCool {k : LoadKind} {f : Nat → State → State} (h : ∀ i (t : State), t.fridge.MayCool (f i t).fridge)
    (s : State) : s.fridge.MayCool (onEntry k f s).fridge := by
  unfold onEntry
  split
  · exact h _ _
  · exact .inl rfl

/-! ### What the tests and the checks keep (R133 to R135) -/

/-- What no temperature test and no check changes: the set point, the mode last told, the protect timer and request, and that the
controller is in one of the states between OFF and FAULT. -/
structure Fridge.Keeps (f f' : Fridge) : Prop where
  setPoint : f'.setPoint = f.setPoint
  surplus : f'.surplus = f.surplus
  timer : f'.protectTimer = f.protectTimer
  request : f'.protectRequest = f.protectRequest
  cycling : f.state.cycling = true → f'.state.cycling = true

namespace Fridge.Keeps
variable {f g h : Fridge}

theorem refl (f : Fridge) : f.Keeps f := ⟨rfl, rfl, rfl, rfl, id⟩

theorem trans (k : f.Keeps g) (l : g.Keeps h) : f.Keeps h :=
  ⟨l.setPoint.trans k.setPoint, l.surplus.trans k.surplus, l.timer.trans k.timer, l.request.trans k.request,
    fun hc => l.cycling (k.cycling hc)⟩

end Fridge.Keeps

theorem Fridge.MayCool.keeps {f f' : Fridge} (h : f.MayCool f') : f.Keeps f' := by
  rcases h with rfl | ⟨_, rfl⟩
  · exact .refl _
  · exact ⟨rfl, rfl, rfl, rfl, fun _ => rfl⟩

/-- The fridge after `fridgeTo` IDLE_COLD. -/
theorem fridgeTo_idleCold_keeps (s : State) : s.fridge.Keeps (fridgeTo .idleCold s).fridge := ⟨rfl, rfl, rfl, rfl, fun _ => rfl⟩

theorem fridgeWant_keeps (s : State) : s.fridge.Keeps (fridgeWant s).fridge := by
  have hwant : s.fridge.Keeps (s.modFridge fun f => { f with state := .want }).fridge := ⟨rfl, rfl, rfl, rfl, fun _ => rfl⟩
  have hheld (t : State) :
      t.fridge.Keeps (if t.fridge.state = .want then t.modFridge fun f => { f with state := .held } else t).fridge := by
    split
    · exact ⟨rfl, rfl, rfl, rfl, fun _ => rfl⟩
    · exact .refl _
  have hask (t : State) : t.fridge.Keeps (if t.fridgeMayAsk = true then onEntry .fridge askSlot t else t).fridge := by
    split
    · exact (onEntry_mayCool askSlot_fridge t).keeps
    · exact .refl _
  exact (hwant.trans (hask _)).trans (hheld _)

theorem fridgeChecks_keeps (s : State) : s.fridge.Keeps (fridgeChecks s).fridge := by
  unfold fridgeChecks
  split
  · exact fridgeWant_keeps s
  · exact .refl _

theorem fridgeTests_keeps (s : State) : s.fridge.Keeps (fridgeTests s).fridge := by
  unfold fridgeTests
  split
  · unfold fridgeCutIn
    split
    · split
      · exact fridgeWant_keeps s
      · exact .refl _
    · exact .refl _
  · unfold fridgeHeld
    split
    · exact (fridgeTo_idleCold_keeps s).trans (onEntry_mayCool giveUpPlace_fridge _).keeps
    · exact .refl _
  · unfold fridgeCutOut
    split
    · exact fridgeTo_idleCold_keeps s
    · exact .refl _
  · exact .refl _

/-! ### A fridge that is read and is in no fault (R129, R138) -/

/-- The fridge's record holds a reading and no FAULT. -/
structure State.FridgeRead (s : State) (r : NodeRec) (c : Int) : Prop where
  node : s.fridgeNode = some r
  sound : r.heldA ≠ some 2
  measures : r.measures = .fridge c

theorem State.climate_congr {s t : State} (h : t.tables = s.tables) : t.climate = s.climate := by
  simp only [State.climate, h]

theorem State.entryOfKind_congr {s t : State} (h : t.tables = s.tables) (k : LoadKind) : t.entryOfKind k = s.entryOfKind k := by
  have hcfg : t.cfg = s.cfg := funext fun i => by simp only [State.cfg, h]
  simp only [State.entryOfKind, State.validEntries, hcfg]

/-- The kind of a kind's entry. -/
theorem State.cfg_kind_of_entryOfKind {s : State} {k : LoadKind} {i : Nat} (h : s.entryOfKind k = some i) :
    (s.cfg i).kind = k := by
  simpa using List.find?_some h

section Read
variable {s t : State} {r : NodeRec} {c : Int}

theorem State.FridgeRead.congr (h : s.FridgeRead r c) (hn : t.nodes = s.nodes) (ht : t.tables = s.tables) : t.FridgeRead r c :=
  ⟨(State.nodeOf_congr hn ht .fridge).trans h.node, h.sound, h.measures⟩

theorem State.FridgeRead.cabinet (h : s.FridgeRead r c) : s.cabinet = some c := by
  simp only [State.cabinet, h.node, h.measures]

theorem fridgeFaultTests_cycling (h : s.FridgeRead r c) (hc : s.fridge.state.cycling = true) : fridgeFaultTests s = s := by
  have hsound : s.fridgeNodeFault = false := by simp [State.fridgeNodeFault, h.node, h.sound]
  have hfault : s.fridge.state ≠ .fault := fun he => by simp [he, FridgeState.cycling] at hc
  simp [fridgeFaultTests, hsound, hfault]

theorem fridgeNews_cycling (h : s.FridgeRead r c) (hc : s.fridge.state.cycling = true) : fridgeNews s = fridgeChecks s := by
  rw [fridgeNews, fridgeFaultTests_cycling h hc]

theorem fridgeRefresh_cycling (h : s.FridgeRead r c) (hc : s.fridge.state.cycling = true) :
    fridgeRefresh s = fridgeChecks (fridgeTests s) := by
  rw [fridgeRefresh, fridgeFaultTests_cycling h hc]

/-! ### The protect timer and request (R139) -/

theorem setProtect_fridge (v : Bool) (s : State) : (setProtect v s).fridge = { s.fridge with protectRequest := v } := by
  unfold setProtect
  split
  next h => rw [← h]
  next => simp

/-- The protect test writes the timer and, at or below the set point, the request. -/
theorem fridgeProtectTest_fridge (h : s.FridgeRead r c) (hc : s.fridge.state.cycling = true) :
    (fridgeProtectTest s).fridge = { s.fridge with
      protectTimer :=
        if c ≤ s.fridge.setPoint then none
        else if (s.climate.protectLevel : Int) ≤ c then some (s.fridge.protectTimer.getD 0) else none
      protectRequest := if c ≤ s.fridge.setPoint then false else s.fridge.protectRequest } := by
  simp only [fridgeProtectTest, h.cabinet, hc, if_true]
  split
  · exact setProtect_fridge _ _
  · split <;> rfl

/-! ### The start from HELD (R133, R134) -/

/-- The checks of R133 and R134 hold, and nothing else has or waits for the slot. -/
structure State.FridgeFree (s : State) (i : Nat) : Prop where
  held : s.fridge.state = .held
  timer : s.fridge.minOff = none
  ready : s.fridgeReady = true
  entry : s.entryOfKind .fridge = some i
  on : (s.live i).grant = .on
  holder : s.roster.holder = none
  queue : s.roster.queue = []

/-- The slot given back to a fridge at the head of the queue that can use it (R74, R134, R135). -/
theorem handOver_fridge_head {n : Nat} {x : Place} {rest : List Place} (hq : s.roster.queue = x :: rest)
    (hk : (s.cfg x.entry).kind = .fridge) (hw : s.fridge.state = .held ∨ s.fridge.state = .want)
    (hready : s.fridgeReady = true) :
    handOver (n + 1) s = enterCooling (s.modRoster fun r =>
      { r with holder := some { entry := x.entry, limit := (s.live x.entry).work.limit, elapsed := 0 }, queue := rest }) := by
  rw [handOver, hq]
  dsimp only
  have hkind (f : Roster → Roster) : ((s.modRoster f).cfg x.entry).kind = .fridge := hk
  rw [hkind]
  exact if_pos ⟨hw, hready⟩

/-- A part in which an entry has asked for the slot and waits for it alone. -/
def State.askedAlone (s : State) (i : Nat) : State :=
  s.modRoster fun r => { r with queue := [{ entry := i, asked := r.asks }], asks := r.asks + 1 }

theorem askSlot_free {i : Nat} (hw : s.fridge.state = .want) (hready : s.fridgeReady = true) (hk : (s.cfg i).kind = .fridge)
    (hon : (s.live i).grant = .on) (hholder : s.roster.holder = none) (hqueue : s.roster.queue = []) :
    (askSlot i s).fridge = s.fridge.cooled ∧
      (askSlot i s).roster.holder = some { entry := i, limit := (s.live i).work.limit, elapsed := 0 } := by
  have hholds : s.holds i = false := by simp [State.holds, hholder]
  have hqueued : s.queued i = false := by simp [State.queued, hqueue]
  have hask : askSlot i s = handOver 2 (s.askedAlone i) := by
    simp [askSlot, hon, hholds, hqueued, hholder, hqueue, State.insertPlace, State.modRoster, State.askedAlone]
  have hhead := handOver_fridge_head (n := 1) (s := s.askedAlone i) (x := ⟨i, s.roster.asks⟩) (rest := []) rfl hk (.inr hw) hready
  rw [hask, hhead]
  exact ⟨rfl, rfl⟩

theorem fridgeChecks_free {i : Nat} (h : s.FridgeFree i) :
    (fridgeChecks s).fridge = s.fridge.cooled ∧
      (fridgeChecks s).roster.holder = some { entry := i, limit := (s.live i).work.limit, elapsed := 0 } := by
  have hgrant : s.grantOfKind .fridge = some .on := by simp [State.grantOfKind, h.entry, h.on]
  have hask : s.fridgeMayAsk = true := by simp [State.fridgeMayAsk, hgrant, h.timer, h.ready]
  have hqueued : (s.entryOfKind .fridge).any s.queued = false := by simp [h.entry, State.queued, h.queue]
  have hchecks : fridgeChecks s = fridgeWant s := by simp [fridgeChecks, h.held, hask, hqueued]
  obtain ⟨hfridge, hholder⟩ := askSlot_free (s := s.modFridge fun f => { f with state := .want }) rfl h.ready
    (State.cfg_kind_of_entryOfKind h.entry) h.on h.holder h.queue
  have hentry : (s.modFridge fun f => { f with state := .want }).entryOfKind .fridge = some i := h.entry
  have hmay : (s.modFridge fun f => { f with state := .want }).fridgeMayAsk = true := hask
  have hcool : (askSlot i (s.modFridge fun f => { f with state := .want })).fridge.state ≠ .want := by
    rw [hfridge]
    exact FridgeState.noConfusion
  rw [hchecks]
  simp only [fridgeWant, hmay, if_true, onEntry, hentry, if_neg hcool]
  exact ⟨hfridge, hholder⟩

end Read

end Sys2Proof.Machine
end

section
/-! PROOF. What the fridge's owner makes of an accepted message, in HELD and in every state between OFF and FAULT (R134, R135, R139;
O43). -/

namespace Sys2Proof.Machine

section Message
variable {s : State} {r : NodeRec} {c : Int} {i : Nat}

/-! ### The message, once the controller is past FAULT -/

/-- The fridge after an accepted message: as the tests and checks leave it, with the protect timer and request by the reading (R139). -/
theorem fridgeMessage_fridge (h : s.FridgeRead r c) (hc : s.fridge.state.cycling = true) :
    (fridgeMessage s).fridge = { (fridgeChecks (fridgeTests s)).fridge with
      protectTimer :=
        if c ≤ s.fridge.setPoint then none
        else if (s.climate.protectLevel : Int) ≤ c then some (s.fridge.protectTimer.getD 0) else none
      protectRequest := if c ≤ s.fridge.setPoint then false else s.fridge.protectRequest } := by
  have hkeeps := (fridgeTests_keeps s).trans (fridgeChecks_keeps _)
  have hread : (fridgeChecks (fridgeTests s)).FridgeRead r c := h.congr (by simp) (by simp)
  have hclimate : (fridgeChecks (fridgeTests s)).climate = s.climate := State.climate_congr (by simp)
  rw [fridgeMessage, fridgeRefresh_cycling h hc, fridgeProtectTest_fridge hread (hkeeps.cycling hc), hkeeps.setPoint, hkeeps.timer,
    hkeeps.request, hclimate]

theorem fridgeMessage_roster (h : s.FridgeRead r c) (hc : s.fridge.state.cycling = true) :
    (fridgeMessage s).roster = (fridgeChecks (fridgeTests s)).roster := by
  rw [fridgeMessage, fridgeRefresh_cycling h hc]
  simp

/-! ### The checks of HELD (R133, R134) -/

theorem fridgeChecks_other (h : s.fridge.state ≠ .held) : fridgeChecks s = s := by
  rw [fridgeChecks, if_neg fun hn => h hn.1]

/-- While the minimum-off timer runs the checks do nothing. -/
theorem fridgeChecks_off (h : s.fridge.minOff ≠ none) : fridgeChecks s = s := by
  have hask : s.fridgeMayAsk = false := by
    simp [State.fridgeMayAsk, Option.isNone_iff_eq_none, h]
  simp [fridgeChecks, hask]

/-- An ask while another entry holds the slot waits in the queue. -/
theorem askSlot_waits {h : Holder} (hh : s.roster.holder = some h) :
    (askSlot i s).fridge = s.fridge ∧ (askSlot i s).roster.holder = some h := by
  unfold askSlot
  split
  · exact ⟨rfl, hh⟩
  · simp [hh]

/-- With the slot taken the checks leave the fridge in HELD. -/
theorem fridgeChecks_waits {h : Holder} (hs : s.fridge.state = .held) (he : s.entryOfKind .fridge = some i)
    (hh : s.roster.holder = some h) : (fridgeChecks s).fridge = s.fridge ∧ (fridgeChecks s).roster.holder = some h := by
  unfold fridgeChecks
  split
  · have hentry : (s.modFridge fun f => { f with state := .want }).entryOfKind .fridge = some i := he
    obtain ⟨hfridge, hholder⟩ := askSlot_waits (s := s.modFridge fun f => { f with state := .want }) (i := i) hh
    have hback : { s.fridge with state := .held } = s.fridge := by rw [← hs]
    simp only [fridgeWant]
    split
    · simp only [onEntry, hentry, hfridge, State.modFridge_fridge, if_true]
      exact ⟨hback, hholder⟩
    · simp only [State.modFridge_fridge, if_true]
      exact ⟨hback, hh⟩
  · exact ⟨rfl, hh⟩

/-! ### The tests (R134, R135) -/

theorem fridgeEffective_congr {t : State} (hf : s.fridge.Keeps t.fridge) (ht : t.tables = s.tables) :
    t.fridgeEffective = s.fridgeEffective := by
  simp only [State.fridgeEffective, hf.surplus, hf.setPoint, State.climate_congr ht]

/-- A compressor just switched on runs at least its minimum: no test stops it, whatever the reading (R135). -/
theorem fridgeMessage_cooled (h : s.FridgeRead r c) (hs : s.fridge.state = .cooling) (hon : s.fridge.minOn = some 0) :
    (fridgeMessage s).fridge.state = .cooling ∧ (fridgeMessage s).fridge.minOn = some 0 ∧
      (fridgeMessage s).fridge.surgeHold = s.fridge.surgeHold ∧ (fridgeMessage s).roster = s.roster := by
  have hcycling : s.fridge.state.cycling = true := by rw [hs]; rfl
  have htests : fridgeTests s = s := by simp [fridgeTests, fridgeCutOut, hs, hon]
  have hchecks : fridgeChecks s = s := fridgeChecks_other (by simp [hs])
  rw [fridgeMessage_fridge h hcycling, fridgeMessage_roster h hcycling, htests, hchecks]
  exact ⟨hs, hon, rfl, rfl⟩

/-- HELD ends at a reading at or below the effective set point (R134). -/
theorem fridgeTests_low (h : s.FridgeRead r c) (hs : s.fridge.state = .held) (hc : c ≤ s.fridgeEffective) :
    fridgeTests s = onEntry .fridge giveUpPlace (fridgeTo .idleCold s) := by
  simp [fridgeTests, fridgeHeld, hs, h.cabinet, hc]

theorem fridgeMessage_low (h : s.FridgeRead r c) (hs : s.fridge.state = .held) (hc : c ≤ s.fridgeEffective) :
    (fridgeMessage s).fridge.state = .idleCold ∧
      (fridgeMessage s).roster = (onEntry .fridge giveUpPlace (fridgeTo .idleCold s)).roster := by
  have hcycling : s.fridge.state.cycling = true := by rw [hs]; rfl
  have hcold : (onEntry .fridge giveUpPlace (fridgeTo .idleCold s)).fridge.state = .idleCold := by
    rcases onEntry_mayCool (k := .fridge) giveUpPlace_fridge (fridgeTo .idleCold s) with hsame | ⟨hheld | hwant, _⟩
    · rw [hsame]
      rfl
    · cases hheld
    · cases hwant
  rw [fridgeMessage_fridge h hcycling, fridgeMessage_roster h hcycling, fridgeTests_low h hs hc,
    fridgeChecks_other (by simp [hcold])]
  exact ⟨hcold, rfl⟩

/-- A place given up where another entry holds the slot leaves the queue (R76). -/
theorem giveUpPlace_queue {h : Holder} (hh : s.roster.holder = some h) (hne : h.entry ≠ i) :
    ∀ x ∈ (giveUpPlace i s).roster.queue, x.entry ≠ i := by
  have hholds : s.holds i = false := by simp [State.holds, hh, hne]
  simp [giveUpPlace, hholds]

theorem fridgeMessage_withdraws {x : Holder} (h : s.FridgeRead r c) (hs : s.fridge.state = .held) (hc : c ≤ s.fridgeEffective)
    (he : s.entryOfKind .fridge = some i) (hx : s.roster.holder = some x) (hne : x.entry ≠ i) :
    (fridgeMessage s).fridge.state = .idleCold ∧ ∀ y ∈ (fridgeMessage s).roster.queue, y.entry ≠ i := by
  obtain ⟨hcold, hroster⟩ := fridgeMessage_low h hs hc
  have hentry : (fridgeTo .idleCold s).entryOfKind .fridge = some i := he
  have hqueue := giveUpPlace_queue (s := fridgeTo .idleCold s) (i := i) hx hne
  simp only [onEntry, hentry] at hroster
  rw [hroster]
  exact ⟨hcold, hqueue⟩

theorem fridgeMessage_high (h : s.FridgeRead r c) (hs : s.fridge.state = .held) (hc : s.fridgeEffective < c)
    (hoff : s.fridge.minOff ≠ none) : (fridgeMessage s).fridge.state = .held := by
  have hcycling : s.fridge.state.cycling = true := by rw [hs]; rfl
  have htests : fridgeTests s = s := by simp [fridgeTests, fridgeHeld, hs, h.cabinet, hc]
  rw [fridgeMessage_fridge h hcycling, htests, fridgeChecks_off hoff]
  exact hs

/-! ### The message with what came before it -/

/-- The controller told of a change of the held compressor state, where one came, and then of the reading (R42). -/
def State.fridgeHears (s : State) (changed : Prop) [Decidable changed] : State :=
  fridgeMessage (if changed then fridgeNews s else s)

variable {changed : Prop} [Decidable changed]

theorem heard_read (h : s.FridgeRead r c) : (if changed then fridgeNews s else s).FridgeRead r c := by
  split
  · exact h.congr (by simp) (by simp)
  · exact h

theorem heard_keeps (h : s.FridgeRead r c) (hc : s.fridge.state.cycling = true) :
    s.fridge.Keeps (if changed then fridgeNews s else s).fridge := by
  split
  · rw [fridgeNews_cycling h hc]
    exact fridgeChecks_keeps s
  · exact .refl _

/-- With the slot taken by another entry the news leaves the fridge in HELD. -/
theorem heard_waits {x : Holder} (h : s.FridgeRead r c) (hs : s.fridge.state = .held) (he : s.entryOfKind .fridge = some i)
    (hx : s.roster.holder = some x) :
    (if changed then fridgeNews s else s).fridge = s.fridge ∧ (if changed then fridgeNews s else s).roster.holder = some x := by
  split
  · rw [fridgeNews_cycling h (by rw [hs]; rfl)]
    exact fridgeChecks_waits hs he hx
  · exact ⟨rfl, hx⟩

/-- The protect timer runs from the protect level and stops at the set point, which clears the request too (R139). -/
theorem fridgeHears_protect (h : s.FridgeRead r c) (hc : s.fridge.state.cycling = true) :
    (s.fridgeHears changed).fridge.protectTimer =
        (if c ≤ s.fridge.setPoint then none
         else if (s.climate.protectLevel : Int) ≤ c then some (s.fridge.protectTimer.getD 0) else none) ∧
      (c ≤ s.fridge.setPoint → (s.fridgeHears changed).fridge.protectRequest = false) := by
  have hkeeps := heard_keeps (changed := changed) h hc
  have hclimate : (if changed then fridgeNews s else s).climate = s.climate := State.climate_congr (by simp [State.ite_frame])
  rw [State.fridgeHears, fridgeMessage_fridge (heard_read h) (hkeeps.cycling hc), hkeeps.setPoint, hkeeps.timer, hclimate]
  exact ⟨rfl, fun hle => if_pos hle⟩

/-- Told of a change that makes the node ready, the fridge in HELD starts its compressor whatever the reading (R134). -/
theorem fridgeHears_starts (h : s.FridgeRead r c) (hf : s.FridgeFree i) (hchanged : changed) :
    (s.fridgeHears changed).fridge.state = .cooling ∧ (s.fridgeHears changed).fridge.minOn = some 0 ∧
      (s.fridgeHears changed).fridge.surgeHold = some 0 ∧
      (s.fridgeHears changed).roster.holder = some { entry := i, limit := (s.live i).work.limit, elapsed := 0 } := by
  have hcycling : s.fridge.state.cycling = true := by rw [hf.held]; rfl
  obtain ⟨hfridge, hholder⟩ := fridgeChecks_free hf
  have hread : (fridgeChecks s).FridgeRead r c := h.congr (by simp) (by simp)
  obtain ⟨hstate, hon, hsurge, hroster⟩ := fridgeMessage_cooled hread (by rw [hfridge]; rfl) (by rw [hfridge]; rfl)
  rw [State.fridgeHears, if_pos hchanged, fridgeNews_cycling h hcycling]
  exact ⟨hstate, hon, by rw [hsurge, hfridge]; rfl, by rw [hroster, hholder]⟩

/-- Without a change a reading at or below the effective set point ends HELD (R134). -/
theorem fridgeHears_low (h : s.FridgeRead r c) (hs : s.fridge.state = .held) (hc : c ≤ s.fridgeEffective) (hchanged : ¬ changed) :
    (s.fridgeHears changed).fridge.state = .idleCold := by
  rw [State.fridgeHears, if_neg hchanged]
  exact (fridgeMessage_low h hs hc).1

/-- With the slot taken by another entry such a reading ends HELD, change or not, and withdraws the ask (R76, R134). -/
theorem fridgeHears_withdraws {x : Holder} (h : s.FridgeRead r c) (hs : s.fridge.state = .held) (hc : c ≤ s.fridgeEffective)
    (he : s.entryOfKind .fridge = some i) (hx : s.roster.holder = some x) (hne : x.entry ≠ i) :
    (s.fridgeHears changed).fridge.state = .idleCold ∧ ∀ y ∈ (s.fridgeHears changed).roster.queue, y.entry ≠ i := by
  obtain ⟨hfridge, hholder⟩ := heard_waits (changed := changed) h hs he hx
  have htables : (if changed then fridgeNews s else s).tables = s.tables := by simp [State.ite_frame]
  have heffective := fridgeEffective_congr (heard_keeps (changed := changed) h (by rw [hs]; rfl)) htables
  have hentry := (State.entryOfKind_congr htables .fridge).trans he
  rw [State.fridgeHears]
  exact fridgeMessage_withdraws (heard_read h) (by rw [hfridge, hs]) (by rwa [heffective]) hentry hholder hne

/-- Above the effective set point, with the minimum-off timer running, HELD stands (R134, R136). -/
theorem fridgeHears_high (h : s.FridgeRead r c) (hs : s.fridge.state = .held) (hc : s.fridgeEffective < c)
    (hoff : s.fridge.minOff ≠ none) : (s.fridgeHears changed).fridge.state = .held := by
  have hcycling : s.fridge.state.cycling = true := by rw [hs]; rfl
  have hsame : (if changed then fridgeNews s else s) = s := by
    rw [fridgeNews_cycling h hcycling, fridgeChecks_off hoff, ite_self]
  rw [State.fridgeHears, hsame]
  exact fridgeMessage_high h hs hc hoff

end Message

theorem tellAccepted_fridge {p : Nat} {old : NodeRec} {s : State} (hk : s.kindAt p = .fridge) :
    tellAccepted p old s = s.fridgeHears (old.heldA ≠ (s.node p).heldA) := by
  simp only [tellAccepted, hk, State.fridgeHears]

end Sys2Proof.Machine
end

section
/-! PROOF. STATUS_MESSAGE of an accepted message: the record, the other positions, and each owner (R34 to R47, R79, R119, R134,
R139, R159; O43). -/

namespace Sys2Proof.Machine

/-! ### The part as the owner finds it -/

/-- A part that has taken its first complete message. -/
def State.taking (s : State) (rest : List ReadyMsg) : State := { s with rx := { s.rx with ready := rest } }

theorem exec_statusMessage_taking {s : State} {m : ReadyMsg} {rest : List ReadyMsg} (hs : s.phase = .running)
    (h : s.rx.ready = m :: rest) : exec .statusMessage s = .next (qualify (testMessage m (s.taking rest))) :=
  exec_statusMessage hs h

theorem taking_onlyIn (s : State) (rest : List ReadyMsg) : s.OnlyIn [.rx] (s.taking rest) := by
  intro b hb
  cases b <;> simp_all [Block.Same, State.taking]

/-- A part that has taken its first complete message and entered it in the position's record, its owner not told yet. -/
def State.entered (s : State) (m : ReadyMsg) (rest : List ReadyMsg) (d : Decoded) : State :=
  (s.taking rest).recorded m.position (field (byteAt m.bytes 0) 4 4) d

/-- The first complete message is accepted, as the values `d` (R34). -/
structure State.Accepts (s : State) (m : ReadyMsg) (rest : List ReadyMsg) (d : Decoded) : Prop where
  running : s.phase = .running
  ready : s.rx.ready = m :: rest
  framed : m.Framed
  place : m.position < s.nodes.length
  loop : m.position < s.tx.pos.length
  kind : field (byteAt m.bytes 0) 1 3 = (s.kindAt m.position).code
  decoded : decodeStatus (s.kindAt m.position) m.bytes = some d

section Entered
variable (s : State) (m : ReadyMsg) (rest : List ReadyMsg) (d : Decoded)

@[simp] theorem entered_frame :
    (s.entered m rest d).signals = s.signals ∧ (s.entered m rest d).panel = s.panel ∧ (s.entered m rest d).roster = s.roster ∧
    (s.entered m rest d).energy = s.energy ∧ (s.entered m rest d).heater = s.heater ∧
    (s.entered m rest d).fridge = s.fridge ∧ (s.entered m rest d).lights = s.lights ∧ (s.entered m rest d).rest = s.rest ∧
    (s.entered m rest d).notices = s.notices ∧ (s.entered m rest d).ret = s.ret ∧ (s.entered m rest d).tables = s.tables ∧
    (s.entered m rest d).rx = { s.rx with ready := rest } := by
  simp [State.entered, State.taking]

theorem entered_onlyIn : s.OnlyIn [.tx, .rx, .nodes] (s.entered m rest d) :=
  ((taking_onlyIn s rest).trans (recorded_onlyIn _ _ _ _)).mono (by simp)

@[simp] theorem entered_kindAt (p : Nat) : (s.entered m rest d).kindAt p = s.kindAt p :=
  State.kindAt_congr (by simp) p

@[simp] theorem entered_positionsOf (k : NodeKind) : (s.entered m rest d).positionsOf k = s.positionsOf k := by
  simp only [State.positionsOf, entered_kindAt]

@[simp] theorem entered_climate : (s.entered m rest d).climate = s.climate :=
  State.climate_congr (by simp)

end Entered

namespace State.Accepts
variable {s u : State} {m : ReadyMsg} {rest : List ReadyMsg} {d : Decoded}

theorem exec_eq (h : s.Accepts m rest d) :
    exec .statusMessage s = .next (qualify (tellAccepted m.position (s.node m.position) (s.entered m rest d))) := by
  rw [exec_statusMessage_taking h.running h.ready, testMessage_accepted (s := s.taking rest) h.framed h.kind h.decoded,
    acceptMessage_eq]
  rfl

theorem record (h : s.Accepts m rest d) : (s.entered m rest d).node m.position = (s.node m.position).accepted d :=
  recorded_node_self (s.taking rest) _ _ d h.place

end State.Accepts

/-- The first complete message is accepted as the values `d`, and its position's owner, told of it, makes the part `u`. -/
structure State.Told (s : State) (m : ReadyMsg) (rest : List ReadyMsg) (d : Decoded) (u : State) : Prop
    extends s.Accepts m rest d where
  told : u = tellAccepted m.position (s.node m.position) (s.entered m rest d)

theorem State.Accepts.exec_told {s : State} {m : ReadyMsg} {rest : List ReadyMsg} {d : Decoded} (h : s.Accepts m rest d) :
    ∃ u, exec .statusMessage s = .next (qualify u) ∧ s.Told m rest d u :=
  ⟨_, h.exec_eq, h, rfl⟩

theorem batteryMessage_onlyIn (i : Int) (v : Nat) (s : State) :
    s.OnlyIn [.bus, .roster, .energy, .notices, .ret] (batteryMessage i v s) := by
  intro b hb
  cases b <;> simp_all [Block.Same]

namespace State.Told
variable {s u : State} {m : ReadyMsg} {rest : List ReadyMsg} {d : Decoded}

/-! ### The record and the other positions (R35, R41 to R43) -/

theorem node_eq (h : s.Told m rest d u) (q : Nat) : u.node q = (s.entered m rest d).node q := by
  rw [h.told, tellAccepted_node]

theorem loopPos_eq (h : s.Told m rest d u) (q : Nat) : u.loopPos q = (s.entered m rest d).loopPos q := by
  rw [h.told, tellAccepted_loopPos]

theorem node_self (h : s.Told m rest d u) : u.node m.position = (s.node m.position).accepted d := by
  rw [h.node_eq, h.record]

theorem others (h : s.Told m rest d u) {q : Nat} (hq : q ≠ m.position) : u.node q = s.node q ∧ u.loopPos q = s.loopPos q := by
  rw [h.node_eq, h.loopPos_eq]
  exact ⟨recorded_node_ne (s.taking rest) _ _ d hq, recorded_loopPos_ne (s.taking rest) _ _ d hq⟩

theorem echoed (h : s.Told m rest d u) :
    u.loopPos m.position = (s.loopPos m.position).echo (field (byteAt m.bytes 0) 4 4) := by
  rw [h.loopPos_eq]
  exact recorded_loopPos_self (s.taking rest) _ _ d h.loop

theorem rx_eq (h : s.Told m rest d u) : u.rx = { s.rx with ready := rest } := by
  rw [h.told]
  simp

theorem onlyIn (h : s.Told m rest d u) :
    s.OnlyIn [.bus, .tx, .rx, .nodes, .panel, .roster, .energy, .heater, .fridge, .lights, .rest, .notices, .power, .ret] u := by
  have haccepted : u = acceptMessage m.position (field (byteAt m.bytes 0) 4 4) d (s.taking rest) := h.told
  rw [haccepted]
  exact ((taking_onlyIn s rest).trans (acceptMessage_onlyIn _ _ _ _)).mono (by simp)

/-- What the record held and what it holds of a debounced field, as the owner reads them. -/
theorem heldA_entered (h : s.Told m rest d u) : ((s.entered m rest d).node m.position).heldA = (u.node m.position).heldA := by
  rw [h.node_eq]

theorem presence_present (h : s.Told m rest d u) :
    (u.node m.position).presence = .present ↔ (s.node m.position).presence = .present := by
  rw [h.node_self, NodeRec.accepted_eq]
  by_cases hp : (s.node m.position).presence = .mismatch <;> simp [hp]

/-! ### The battery (R83, R84) -/

theorem battery {i temp : Int} {v : Nat} (h : s.Told m rest d u) (hk : s.kindAt m.position = .battery)
    (hd : d.measures = .battery i v temp) : u = batteryMessage i v (s.entered m rest d) := by
  refine h.told.trans (tellAccepted_battery (temp := temp) ((entered_kindAt s m rest d _).trans hk) ?_)
  rw [h.record, NodeRec.accepted_eq, hd]

theorem battery_energy {i temp : Int} {v : Nat} (h : s.Told m rest d u) (hk : s.kindAt m.position = .battery)
    (hd : d.measures = .battery i v temp) :
    u.energy.held = some i ∧ u.energy.holdCount = 0 ∧ u.energy.blind = false ∧ u.energy.heard = true := by
  rw [h.battery hk hd]
  exact batteryMessage_energy i v _

theorem battery_onlyIn {i temp : Int} {v : Nat} (h : s.Told m rest d u) (hk : s.kindAt m.position = .battery)
    (hd : d.measures = .battery i v temp) : s.OnlyIn [.bus, .tx, .rx, .nodes, .roster, .energy, .notices, .ret, .power] u := by
  rw [h.battery hk hd]
  exact ((entered_onlyIn s m rest d).trans (batteryMessage_onlyIn i v _)).mono (by simp)

/-! ### The heater (R119, R120, R126) -/

/-- A change of the held phase, told while demand stands. -/
theorem heater (h : s.Told m rest d u) (hk : s.kindAt m.position = .heater) (hstands : s.DemandStands u)
    (hchanged : (s.node m.position).heldA ≠ (u.node m.position).heldA) : s.HeaterTold (s.entered m rest d) u where
  heater := by simp
  ret := by simp
  rest := by simp
  notices := by simp
  told := h.told.trans (tellAccepted_heater ((entered_kindAt s m rest d _).trans hk) (by rwa [h.heldA_entered]))
  stands := hstands

theorem heater_phase (h : s.Told m rest d u) (hpos : s.positionsOf .heater = [m.position]) :
    (s.entered m rest d).heldPhase = (u.node m.position).heldA := by
  rw [heldPhase_eq ((entered_positionsOf s m rest d .heater).trans hpos), h.node_eq]

theorem heater_idle (h : s.Told m rest d u) (hpos : s.positionsOf .heater = [m.position])
    (hpresent : (s.node m.position).presence = .present) (hphase : (u.node m.position).heldA = some 0) :
    (s.entered m rest d).heaterIdle = true := by
  rw [heaterIdle_eq ((entered_positionsOf s m rest d .heater).trans hpos), ← h.node_eq, h.presence_present.mpr hpresent, hphase]
  rfl

/-! ### The fridge (R134, R139) -/

theorem fridge (h : s.Told m rest d u) (hk : s.kindAt m.position = .fridge) :
    u = (s.entered m rest d).fridgeHears ((s.node m.position).heldA ≠ (u.node m.position).heldA) := by
  have htold := h.told.trans (tellAccepted_fridge ((entered_kindAt s m rest d _).trans hk))
  simp only [← h.node_eq] at htold
  exact htold

theorem fridge_read {c : Int} (h : s.Told m rest d u) (hpos : s.positionsOf .fridge = [m.position])
    (hsound : (u.node m.position).heldA ≠ some 2) (hd : d.measures = .fridge c) :
    (s.entered m rest d).FridgeRead (u.node m.position) c where
  node := by simp [State.fridgeNode, State.nodeOf, hpos, h.node_eq]
  sound := hsound
  measures := by rw [h.node_self, NodeRec.accepted_eq, hd]

theorem fridge_free {i : Nat} (h : s.Told m rest d u) (hpos : s.positionsOf .fridge = [m.position])
    (hheld : s.fridge.state = .held) (hstopped : (u.node m.position).heldA = some 0)
    (hpresent : (s.node m.position).presence = .present) (htimer : s.fridge.minOff = none)
    (hentry : s.entryOfKind .fridge = some i) (hon : (s.live i).grant = .on) (hholder : s.roster.holder = none)
    (hqueue : s.roster.queue = []) : (s.entered m rest d).FridgeFree i where
  held := by simpa using hheld
  timer := by simpa using htimer
  ready := by
    have hnode : (s.entered m rest d).fridgeNode = some (u.node m.position) := by
      simp [State.fridgeNode, State.nodeOf, hpos, h.node_eq]
    have hfresh : (u.node m.position).stale = false := by rw [h.node_self, NodeRec.accepted_eq]
    simp [State.fridgeReady, hnode, hfresh, hstopped, h.presence_present.mpr hpresent]
  entry := (State.entryOfKind_congr (by simp) .fridge).trans hentry
  on := by simpa [State.live] using hon
  holder := by simpa using hholder
  queue := by simpa using hqueue

theorem entered_fridgeEffective (s : State) (m : ReadyMsg) (rest : List ReadyMsg) (d : Decoded) :
    (s.entered m rest d).fridgeEffective = s.fridgeEffective := by
  simp only [State.fridgeEffective, entered_climate, entered_frame]

section Fridge
variable {r : NodeRec} {c : Int} {i : Nat}

theorem fridge_protect (h : s.Told m rest d u) (hk : s.kindAt m.position = .fridge) (hcycling : s.fridge.state.cycling = true)
    (hread : (s.entered m rest d).FridgeRead r c) :
    u.fridge.protectTimer =
        (if c ≤ s.fridge.setPoint then none
         else if (s.climate.protectLevel : Int) ≤ c then some (s.fridge.protectTimer.getD 0) else none) ∧
      (c ≤ s.fridge.setPoint → u.fridge.protectRequest = false) := by
  have hprotect := fridgeHears_protect (changed := (s.node m.position).heldA ≠ (u.node m.position).heldA) hread
    (by simpa using hcycling)
  rw [← h.fridge hk] at hprotect
  simpa using hprotect

theorem fridge_starts (h : s.Told m rest d u) (hk : s.kindAt m.position = .fridge)
    (hread : (s.entered m rest d).FridgeRead r c) (hchanged : (s.node m.position).heldA ≠ (u.node m.position).heldA)
    (hfree : (s.entered m rest d).FridgeFree i) :
    u.fridge.state = .cooling ∧ u.fridge.minOn = some 0 ∧ u.fridge.surgeHold = some 0 ∧
      u.roster.holder = some { entry := i, limit := (s.live i).work.limit, elapsed := 0 } := by
  have hstarts := fridgeHears_starts hread hfree hchanged
  rw [← h.fridge hk] at hstarts
  simpa [State.live] using hstarts

theorem fridge_low (h : s.Told m rest d u) (hk : s.kindAt m.position = .fridge)
    (hread : (s.entered m rest d).FridgeRead r c) (hheld : s.fridge.state = .held) (hlow : c ≤ s.fridgeEffective)
    (hsame : (u.node m.position).heldA = (s.node m.position).heldA) : u.fridge.state = .idleCold := by
  rw [h.fridge hk]
  refine fridgeHears_low hread (by simpa using hheld) ?_ (by simp [hsame])
  rwa [entered_fridgeEffective]

theorem fridge_withdraws {x : Holder} (h : s.Told m rest d u) (hk : s.kindAt m.position = .fridge)
    (hread : (s.entered m rest d).FridgeRead r c) (hheld : s.fridge.state = .held) (hlow : c ≤ s.fridgeEffective)
    (hentry : s.entryOfKind .fridge = some i) (hholder : s.roster.holder = some x) (hne : x.entry ≠ i) :
    u.fridge.state = .idleCold ∧ ∀ y ∈ u.roster.queue, y.entry ≠ i := by
  rw [h.fridge hk]
  refine fridgeHears_withdraws hread (by simpa using hheld) ?_ ((State.entryOfKind_congr (by simp) .fridge).trans hentry)
    (by simpa using hholder) hne
  rwa [entered_fridgeEffective]

theorem fridge_high (h : s.Told m rest d u) (hk : s.kindAt m.position = .fridge)
    (hread : (s.entered m rest d).FridgeRead r c) (hheld : s.fridge.state = .held) (hhigh : s.fridgeEffective < c)
    (htimer : s.fridge.minOff ≠ none) : u.fridge.state = .held := by
  rw [h.fridge hk]
  refine fridgeHears_high hread (by simpa using hheld) ?_ (by simpa using htimer)
  rwa [entered_fridgeEffective]

end Fridge

/-! ### Lights, panels and outlets (R47, R79, R159) -/

theorem light (h : s.Told m rest d u) (hk : s.kindAt m.position = .light)
    (hlen : s.firstChannelAt m.position + 1 < s.lights.channels.length)
    (hchanged : (s.node m.position).heldA ≠ (u.node m.position).heldA ∨ (s.node m.position).heldB ≠ (u.node m.position).heldB) :
    (∀ x, (u.node m.position).heldA = some x → (u.channel (s.firstChannelAt m.position)).fault = x) ∧
      (∀ x, (u.node m.position).heldB = some x → (u.channel (s.firstChannelAt m.position + 1)).fault = x) := by
  have hfirst : (s.entered m rest d).firstChannelAt m.position = s.firstChannelAt m.position := by
    simp [State.firstChannelAt]
  have hfresh : ((s.entered m rest d).node m.position).stale = false := by rw [h.record, NodeRec.accepted_eq]
  rw [h.node_eq] at hchanged ⊢
  have hfaults := lightFaults_channels hfresh (by simpa [hfirst] using hlen)
  rw [h.told, tellAccepted_light ((entered_kindAt s m rest d _).trans hk) hchanged]
  rw [hfirst] at hfaults
  exact hfaults

theorem panel_baselines (h : s.Told m rest d u) (hk : s.kindAt m.position = .panel) :
    u.panel.baselines =
      if (s.node m.position).presence = .present then
        s.panel.baselines.set (s.panelNumber m.position) (u.node m.position).counters
      else s.panel.baselines := by
  have hnumber : (s.entered m rest d).panelNumber m.position = s.panelNumber m.position := by simp [State.panelNumber]
  have hbaselines := tellAccepted_panel_baselines (old := s.node m.position) ((entered_kindAt s m rest d _).trans hk)
  rw [← h.told, ← h.node_eq, hnumber] at hbaselines
  simpa only [h.presence_present, entered_frame] using hbaselines

theorem panel_baseline (h : s.Told m rest d u) (hk : s.kindAt m.position = .panel)
    (hlen : s.panelNumber m.position < s.panel.baselines.length) (hpresent : (s.node m.position).presence = .present) :
    u.baseline (s.panelNumber m.position) = (u.node m.position).counters := by
  simp [State.baseline, h.panel_baselines hk, hpresent, hlen]

theorem outlet (h : s.Told m rest d u) (hk : s.kindAt m.position = .outlet) :
    (newFault (s.node m.position).heldA (u.node m.position).heldA = true → u.outletOn (2 * s.moduleNumber m.position) = false) ∧
      (newFault (s.node m.position).heldB (u.node m.position).heldB = true →
        u.outletOn (2 * s.moduleNumber m.position + 1) = false) ∧
      (newFault (s.node m.position).heldA (u.node m.position).heldA = false →
        newFault (s.node m.position).heldB (u.node m.position).heldB = false → u.roster = s.roster) := by
  have hkind := (entered_kindAt s m rest d _).trans hk
  have hnumber : (s.entered m rest d).moduleNumber m.position = s.moduleNumber m.position := by simp [State.moduleNumber]
  have hoff := tellAccepted_outlet_off (old := s.node m.position) hkind
  rw [← h.told, ← h.node_eq, hnumber] at hoff
  refine ⟨hoff.1, hoff.2, fun hA hB => ?_⟩
  rw [h.node_eq] at hA hB
  rw [h.told, tellAccepted_outlet_quiet hkind hA hB]
  simp

end State.Told

end Sys2Proof.Machine
end

section
/-! PROOF. STATUS_MESSAGE of every kind, from the lemmas of its owners (O43). -/

namespace Sys2Proof.Machine

/-! ### A message of another kind (R39) -/

section Foreign
variable {s : State} {m : ReadyMsg} {rest : List ReadyMsg}

theorem exec_foreign (hs : s.phase = .running) (hm : s.rx.ready = m :: rest) (h : m.Framed)
    (hk : field (byteAt m.bytes 0) 1 3 ≠ (s.kindAt m.position).code) :
    exec .statusMessage s = .next (qualify (foreignMessage m.position (s.taking rest))) := by
  rw [exec_statusMessage_taking hs hm, testMessage_foreign (s := s.taking rest) h hk]

/-- A position in MISMATCH notes the message and does nothing more. -/
theorem exec_foreign_again (hs : s.phase = .running) (hm : s.rx.ready = m :: rest) (h : m.Framed)
    (hk : field (byteAt m.bytes 0) 1 3 ≠ (s.kindAt m.position).code) (hmis : (s.node m.position).presence = .mismatch) :
    exec .statusMessage s = .next (qualify { s with
      rx := { s.rx with ready := rest }, nodes := s.nodes.modify m.position fun r => { r with result := .foreign } }) := by
  rw [exec_foreign hs hm h hk, foreignMessage_mismatch (s := s.taking rest) hmis]
  rfl

theorem foreignMessage_frame_taking :
    (foreignMessage m.position (s.taking rest)).rx = { s.rx with ready := rest } ∧
      (foreignMessage m.position (s.taking rest)).tx = s.tx := by
  simp [State.taking]

theorem foreignMessage_taking_onlyIn :
    s.OnlyIn [.bus, .rx, .nodes, .panel, .roster, .heater, .fridge, .lights, .rest, .notices, .power, .ret]
      (qualify (foreignMessage m.position (s.taking rest))) :=
  (((taking_onlyIn s rest).trans (foreignMessage_onlyIn m.position _)).mono (by simp)).qualify (by simp)

end Foreign

/-- Settles O43: a well-formed message by its kind, and the effect on each owner by that owner's lemmas. -/
theorem batteryMessageAccepted : Obligations.BatteryMessageAccepted := by
  refine ⟨fun s m rest hs hm hp hnodes hpos hbad hdropped hsum hdir hcode hk => ?_,
    fun s m rest hs hm hp hnodes hpos hbad hdropped hsum hdir => ⟨fun hcode => ⟨fun hmis => ?_, fun hmis => ?_⟩,
      fun hcode => ⟨fun hd => ?_, fun d hd => ?_⟩⟩,
    fun held cand x => ⟨debounce_some held cand x, rfl⟩, fun _ _ _ _ hy holder => LoopPos.echo_listed hy holder,
    fun _ _ hq => LoopPos.echo_unlisted hq⟩
  · have hkind : field (byteAt m.bytes 0) 1 3 = (s.kindAt m.position).code := by rw [hcode, hk]; rfl
    have hd : decodeStatus (s.kindAt m.position) m.bytes = some
        { measures := .battery (leSAt m.bytes 1 2) (leAt m.bytes 3 2) (leSAt m.bytes 5 1), fieldA := none, fieldB := none } := by
      rw [hk]; rfl
    obtain ⟨u, hexec, h⟩ := State.Accepts.exec_told
      ⟨hs, hm, ⟨hbad, hdropped, hsum, hdir⟩, by omega, by omega, hkind, hd⟩
    have hnode := h.node_self.trans (NodeRec.accepted_eq _ _)
    obtain ⟨hheld, hcount, hblind, hheard⟩ := h.battery_energy hk rfl
    refine ⟨qualify u, hexec, congrArg NodeRec.measures hnode, congrArg NodeRec.stale hnode, congrArg NodeRec.result hnode, hheld,
      hcount, hblind, hheard, congrArg LoopPos.lastEcho h.echoed, fun q hq => h.others hq, ?_⟩
    exact (h.battery_onlyIn hk rfl).qualify (by simp)
  · exact exec_foreign_again hs hm ⟨hbad, hdropped, hsum, hdir⟩ hcode hmis
  · have hplace : m.position < (s.taking rest).nodes.length := hnodes ▸ hp
    obtain ⟨hnode, hothers, hflag⟩ := foreignMessage_turns hplace hmis
    obtain ⟨hrx, htx⟩ := foreignMessage_frame_taking (s := s) (m := m) (rest := rest)
    exact ⟨_, exec_foreign hs hm ⟨hbad, hdropped, hsum, hdir⟩ hcode, hnode, hothers, hflag, hrx, htx, foreignMessage_taking_onlyIn⟩
  · rw [exec_statusMessage_taking hs hm, testMessage_outside (s := s.taking rest) ⟨hbad, hdropped, hsum, hdir⟩ hcode hd]
    rfl
  · obtain ⟨u, hexec, h⟩ := State.Accepts.exec_told ⟨hs, hm, ⟨hbad, hdropped, hsum, hdir⟩, by omega, by omega, hcode, hd⟩
    refine ⟨qualify u, hexec, ?_, fun q hq => h.others hq, h.echoed, h.rx_eq, h.onlyIn.qualify (by simp), ?_, ?_, ?_, ?_, ?_, ?_, ?_⟩
    · exact h.node_self.trans (NodeRec.accepted_eq _ _)
    · intro hk hone hstands hchanged
      have hheater := h.heater hk hstands hchanged
      have hphase := h.heater_phase hone
      refine ⟨fun hst => ⟨fun hp => ?_, fun hp hseen => ?_, fun hp hseen => ?_, fun hp => ?_, fun hp => ?_⟩,
        fun hst => ⟨fun hp => ?_, fun x hp hx => ?_⟩, fun hst hp => ?_, fun hst hp hpresent => ?_,
        fun hst hout hp hpresent => ?_⟩
      · exact hheater.seen hst (hp.imp hphase.trans hphase.trans)
      · exact hheater.unseen hst (hphase.trans hp) hseen
      · exact (hheater.idle hst (hphase.trans hp) hseen).qualify
      · exact (hheater.broken hst (hp.imp hphase.trans hphase.trans)).qualify
      · exact hheater.flame hst (hphase.trans hp)
      · exact hheater.burning hst (hphase.trans hp)
      · exact (hheater.out hst (hphase.trans hp) hx).qualify
      · exact hheater.fault hst (hphase.trans hp)
      · exact (hheater.retried hst (h.heater_idle hone hpresent hp)).symm
      · exact hheater.purged hst hout (h.heater_idle hone hpresent hp)
    · exact fun c hk hone hcycling hsound hread => h.fridge_protect hk hcycling (h.fridge_read hone hsound hread)
    · intro c hk hone hheld hsound hmeasures
      have hread := h.fridge_read hone hsound hmeasures
      refine ⟨fun i hwas hstopped hpresent htimer hentry hon hholder hqueue => ?_, fun hlow hsame => ?_,
        fun x i hlow hentry hholder hne => ?_, fun hhigh htimer => ?_⟩
      · exact h.fridge_starts hk hread (fun he => hwas (he.trans hstopped))
          (h.fridge_free hone hheld hstopped hpresent htimer hentry hon hholder hqueue)
      · exact h.fridge_low hk hread hheld hlow hsame
      · exact h.fridge_withdraws hk hread hheld hlow hentry hholder hne
      · exact h.fridge_high hk hread hheld hhigh htimer
    · exact fun hk hlen hchanged => h.light hk hlen hchanged
    · exact fun hk hlen hpresent => h.panel_baseline hk hlen hpresent
    · exact fun hk habsent => (h.panel_baselines hk).trans (if_neg habsent)
    · exact fun hk => h.outlet hk

end Sys2Proof.Machine
end

section
/-! PROOF. What the laws of the load roster read of a state: the roster table, what each entry stands at, who holds the surge slot and who
waits for it, and whether CUTOFF is asserted (chapter 4). The steps of the model are then told apart by what they do to this view. -/

namespace Sys2Proof.Machine

set_option Elab.async false -- one theorem after another: each would otherwise take a thread with its own large stack

/-- Grant state, want, protect flag and shed reason of a live part: what R58 to R69 speak of. -/
structure Standing where
  grant : Grant
  want : Bool
  protect : Bool
  reason : ShedReason

/-- What a live part stands at. -/
def Live.standing (l : Live) : Standing where
  grant := l.grant
  want := l.want
  protect := l.protect
  reason := l.reason

namespace Standing

/-- At rest: what a live part set up afresh stands at (R60). -/
def idle : Standing where
  grant := .idle
  want := false
  protect := false
  reason := .none

/-- After a request (R61). -/
def requested (x : Standing) : Standing :=
  { x with
    want := true,
    grant := match x.grant with
      | .idle => .waiting
      | .stopping => .on
      | g => g }

/-- The grant state a release leads to (R62). -/
def releasedGrant (withStop : Bool) : Grant → Grant
  | .on => if withStop then .stopping else .idle
  | .stopping => if withStop then .stopping else .idle
  | .shedding => if withStop then .shedding else .idle
  | _ => .idle

/-- After a release (R62). -/
def released (withStop : Bool) (x : Standing) : Standing :=
  { x with
    want := false, grant := releasedGrant withStop x.grant,
    reason := if releasedGrant withStop x.grant = .idle then .none else x.reason }

/-- After a stop complete (R63). -/
def stopped (x : Standing) : Standing :=
  match x.grant with
  | .stopping => { x with grant := .idle }
  | .shedding => if x.want then { x with grant := .shed } else { x with grant := .idle, reason := .none }
  | _ => x

/-- After a grant (R65). -/
def granted (x : Standing) : Standing := { x with grant := .on, reason := .none }

/-- After a restore (R68). -/
def restored (x : Standing) : Standing := { x with grant := .waiting, reason := .none }

/-- Shed from ON, its stop to come (R66, R67). -/
def shedding (r : ShedReason) (x : Standing) : Standing := { x with grant := .shedding, reason := r }

/-- Shed from WAITING (R67). -/
def shed (x : Standing) : Standing := { x with grant := .shed, reason := .emergency }

/-- A shed that has become an emergency's (R67). -/
def emergency (x : Standing) : Standing := { x with reason := .emergency }

/-- With the protect flag of the latest reading (R69). -/
def flagged (p : Bool) (x : Standing) : Standing := { x with protect := p }

end Standing

/-- What the laws of the load roster read of a state. -/
structure RosterView where
  table : Table
  standings : List Standing
  holder : Option Nat
  queue : Multiset Nat
  cutoff : Bool

/-- The view of a state. -/
def State.rosterView (s : State) : RosterView where
  table := s.tables.roster
  standings := s.roster.live.map Live.standing
  holder := s.roster.holder.map Holder.entry
  queue := (s.roster.queue.map Place.entry : List Nat)
  cutoff := s.energy.cutoff.asserted

namespace RosterView

/-- The configuration of an entry. -/
def cfg (v : RosterView) (i : Nat) : RosterCfg := rosterCfgOf (v.table.getD i [])

/-- What an entry stands at. -/
def standing (v : RosterView) (i : Nat) : Standing := v.standings.getD i Standing.idle

/-- The valid entries. -/
def validEntries (v : RosterView) : List Nat := entries.filter fun i => (v.cfg i).valid

/-- The first valid entry of a kind. -/
def first (v : RosterView) (k : LoadKind) : Option Nat := v.validEntries.find? fun i => (v.cfg i).kind = k

/-- The valid entries in a grant state. -/
def inGrant (v : RosterView) (g : Grant) : List Nat := v.validEntries.filter fun i => (v.standing i).grant = g

/-- One entry changed. -/
def modify (v : RosterView) (i : Nat) (f : Standing → Standing) : RosterView :=
  { v with standings := v.standings.modify i f }

/-- Everything with a surge place: the holder and the queue. -/
def slot (v : RosterView) : Multiset Nat := (v.holder.toList : Multiset Nat) + v.queue

/-- Nothing waits for a slot that is free. -/
def Served (v : RosterView) : Prop := v.holder = none → v.queue = 0

/-- `w` differs from `v` in its surge places at most, and leaves no one waiting for a free slot where `v` does not. -/
structure Reslots (v w : RosterView) : Prop where
  table : w.table = v.table
  standings : w.standings = v.standings
  cutoff : w.cutoff = v.cutoff
  served : v.Served → w.Served

/-- `w` is `v` after the slot has been handed over: only those who waited hold it or wait for it. -/
structure Inherits (v w : RosterView) : Prop where
  table : w.table = v.table
  standings : w.standings = v.standings
  cutoff : w.cutoff = v.cutoff
  le : w.slot ≤ v.queue

/-- `w` is `v` after entry `i` has given up its surge place (R76). -/
structure Frees (i : Nat) (v w : RosterView) : Prop extends Reslots v w where
  le : w.slot ≤ v.slot
  gone : v.slot.Nodup → i ∉ w.slot

/-- `w` is `v` after entry `i` has been given a surge place (R73). -/
structure Places (i : Nat) (v w : RosterView) : Prop extends Reslots v w where
  le : w.slot ≤ i ::ₘ v.slot

theorem standing_modify (v : RosterView) (i j : Nat) (f : Standing → Standing) :
    (v.modify i f).standing j = if i = j ∧ i < v.standings.length then f (v.standing j) else v.standing j := by
  unfold standing modify
  simp only [List.getD_eq_getElem?_getD, List.getElem?_modify]
  by_cases hij : i = j
  · subst hij
    by_cases hl : i < v.standings.length
    · simp [hl]
    · simp [hl]
  · simp [hij]

theorem standing_modify_ne {v : RosterView} {i j : Nat} (h : i ≠ j) (f : Standing → Standing) :
    (v.modify i f).standing j = v.standing j := by
  simp [standing_modify, h]

/-- A property of an entry after a change, from the changed entry and from the others. -/
theorem standing_modify_cases {P : Standing → Prop} (v : RosterView) (i j : Nat) (f : Standing → Standing)
    (hsame : i = j → P (f (v.standing j))) (hold : P (v.standing j)) : P ((v.modify i f).standing j) := by
  rw [standing_modify]
  split
  next h => exact hsame h.1
  next => exact hold

@[simp] theorem modify_table (v : RosterView) (i : Nat) (f : Standing → Standing) : (v.modify i f).table = v.table := rfl

@[simp] theorem modify_slot (v : RosterView) (i : Nat) (f : Standing → Standing) : (v.modify i f).slot = v.slot := rfl

@[simp] theorem modify_cutoff (v : RosterView) (i : Nat) (f : Standing → Standing) : (v.modify i f).cutoff = v.cutoff := rfl

theorem cfg_congr {v w : RosterView} (h : w.table = v.table) (i : Nat) : w.cfg i = v.cfg i := by
  simp [cfg, h]

theorem validEntries_congr {v w : RosterView} (h : w.table = v.table) : w.validEntries = v.validEntries := by
  simp [validEntries, cfg, h]

theorem first_congr {v w : RosterView} (h : w.table = v.table) (k : LoadKind) : w.first k = v.first k := by
  simp [first, validEntries, cfg, h]

theorem mem_validEntries {v : RosterView} {i : Nat} : i ∈ v.validEntries ↔ i < 16 ∧ (v.cfg i).valid = true := by
  simp [validEntries, entries]

theorem mem_of_first {v : RosterView} {k : LoadKind} {i : Nat} (h : v.first k = some i) :
    i ∈ v.validEntries ∧ (v.cfg i).kind = k := by
  refine ⟨List.mem_of_find?_eq_some h, ?_⟩
  simpa using List.find?_some h

/-- The first valid entry of a kind is not above another one. -/
theorem first_le {v : RosterView} {k : LoadKind} {i j : Nat} (h : v.first k = some i) (hj : j ∈ v.validEntries)
    (hk : (v.cfg j).kind = k) : i ≤ j := by
  obtain ⟨-, before, after, hl, hnone⟩ := List.find?_eq_some_iff_append.mp h
  have hsorted : v.validEntries.Pairwise (· < ·) := List.pairwise_lt_range.filter _
  rw [hl] at hsorted hj
  rcases List.mem_append.mp hj with hmem | hmem
  · exact absurd hk (by simpa using hnone j hmem)
  · rcases List.mem_cons.mp hmem with rfl | hafter
    · exact le_rfl
    · exact (List.rel_of_pairwise_cons (List.pairwise_append.mp hsorted).2.1 hafter).le

theorem queue_le_slot (v : RosterView) : v.queue ≤ v.slot := Multiset.le_add_left _ _

theorem Inherits.trans {u v w : RosterView} (h : u.Inherits v) (k : v.Inherits w) : u.Inherits w where
  table := k.table.trans h.table
  standings := k.standings.trans h.standings
  cutoff := k.cutoff.trans h.cutoff
  le := k.le.trans (v.queue_le_slot.trans h.le)

theorem Inherits.reslots {v w : RosterView} (h : v.Inherits w) (hw : w.Served) : v.Reslots w :=
  ⟨h.table, h.standings, h.cutoff, fun _ => hw⟩

theorem Reslots.standing {v w : RosterView} (h : v.Reslots w) (i : Nat) : w.standing i = v.standing i := by
  simp [RosterView.standing, h.standings]

end RosterView

/-! ### The view of a state -/

theorem State.cfg_eq_view (s : State) (i : Nat) : s.cfg i = s.rosterView.cfg i := rfl

theorem State.validEntries_eq_view (s : State) : s.validEntries = s.rosterView.validEntries := rfl

theorem State.entryOfKind_eq_view (s : State) (k : LoadKind) : s.entryOfKind k = s.rosterView.first k := rfl

theorem State.live_standing (s : State) (i : Nat) : (s.live i).standing = s.rosterView.standing i := by
  simp only [State.live, RosterView.standing, State.rosterView, List.getD_eq_getElem?_getD, List.getElem?_map]
  cases s.roster.live[i]? <;> rfl

@[simp] theorem State.grant_eq_view (s : State) (i : Nat) : (s.rosterView.standing i).grant = (s.live i).grant := by
  rw [← s.live_standing]
  rfl

@[simp] theorem State.protect_eq_view (s : State) (i : Nat) : (s.rosterView.standing i).protect = (s.live i).protect := by
  rw [← s.live_standing]
  rfl

theorem State.inGrant_eq_view (s : State) (g : Grant) : s.inGrant g = s.rosterView.inGrant g := by
  simp [State.inGrant, RosterView.inGrant, State.validEntries_eq_view]

/-- Two states are of one view if they agree in the roster, its table and the accountant. -/
theorem State.rosterView_eq {s t : State} (h : t.roster = s.roster ∧ t.tables = s.tables ∧ t.energy = s.energy) :
    t.rosterView = s.rosterView := by
  simp [State.rosterView, h]

/-- A change of one live part is seen as a change of what the entry stands at. -/
theorem State.modLive_rosterView (s : State) (i : Nat) {f : Live → Live} {g : Standing → Standing}
    (h : ∀ l, (f l).standing = g l.standing) : (s.modLive i f).rosterView = s.rosterView.modify i g := by
  have hmap : (s.roster.live.modify i f).map Live.standing = (s.roster.live.map Live.standing).modify i g := by
    apply List.ext_getElem?
    intro j
    simp only [List.getElem?_map, List.getElem?_modify]
    cases s.roster.live[j]? with
    | none => simp
    | some l => by_cases hij : i = j <;> simp [hij, h]
  simp [State.rosterView, RosterView.modify, State.modLive, State.modRoster, hmap]

/-- A change of one live part that the laws do not read. -/
theorem State.modLive_rosterView_same (s : State) (i : Nat) {f : Live → Live} (h : ∀ l, (f l).standing = l.standing) :
    (s.modLive i f).rosterView = s.rosterView := by
  rw [s.modLive_rosterView i (g := id) h]
  simp [RosterView.modify]

@[simp] theorem setDuty_rosterView (i d : Nat) (s : State) : (setDuty i d s).rosterView = s.rosterView :=
  s.modLive_rosterView_same i fun _ => rfl

@[simp] theorem heaterDuty_rosterView (s : State) : (heaterDuty s).rosterView = s.rosterView := by
  simp only [heaterDuty, onEntry]
  repeat' split
  all_goals simp

@[simp] theorem enterStarting_rosterView (s : State) : (enterStarting s).rosterView = s.rosterView := by
  simp only [enterStarting, heaterDuty_rosterView]
  rfl

@[simp] theorem enterCooling_rosterView (s : State) : (enterCooling s).rosterView = s.rosterView := rfl

/-- A place put at its rank is one more place. -/
theorem State.insertPlace_perm (s : State) (x : Place) (q : List Place) : (s.insertPlace x q).Perm (x :: q) := by
  induction q with
  | nil => exact .refl _
  | cons y ys ih =>
    unfold State.insertPlace
    split
    · exact .refl _
    · exact (ih.cons y).trans (.swap x y ys)

theorem State.foldr_insertPlace_perm (s : State) (q : List Place) : (q.foldr s.insertPlace []).Perm q := by
  induction q with
  | nil => exact .refl _
  | cons x xs ih => exact (s.insertPlace_perm x _).trans (ih.cons x)

@[simp] theorem reorderQueue_rosterView (s : State) : (reorderQueue s).rosterView = s.rosterView := by
  have hperm := (s.foldr_insertPlace_perm s.roster.queue).map Place.entry
  simp [State.rosterView, reorderQueue, State.modRoster, Multiset.coe_eq_coe.mpr hperm]

@[simp] theorem countSecond_rosterView (s : State) : (countSecond s).rosterView = s.rosterView := by
  simp [State.rosterView, countSecond, State.modRoster, State.modHeater, State.modFridge, State.modRest, State.modNotices,
    State.modPower, Function.comp_def]

/-! ### What an owner does to its entry -/

theorem request_rosterView (i : Nat) (s : State) : (request i s).rosterView = s.rosterView.modify i Standing.requested :=
  s.modLive_rosterView i fun _ => rfl

theorem stopComplete_rosterView (i : Nat) (s : State) :
    (stopComplete i s).rosterView = s.rosterView.modify i Standing.stopped :=
  s.modLive_rosterView i fun l => by
    cases hg : l.grant <;> simp [Live.standing, Standing.stopped, hg]
    split <;> simp

/-- The head of the queue made the holder, with the limit of its working copy (R74, R75). -/
def State.headTaken (s : State) (p : Place) (rest : List Place) : State :=
  s.modRoster fun r =>
    { r with holder := some { entry := p.entry, limit := (s.live p.entry).work.limit, elapsed := 0 }, queue := rest }

/-- A hand-over with someone in the queue: the head holds the slot, or cannot use it and passes it on. -/
theorem handOver_cons_rosterView {n : Nat} {s : State} {p : Place} {rest : List Place} (hq : s.roster.queue = p :: rest) :
    (handOver (n + 1) s).rosterView = (s.headTaken p rest).rosterView ∨
      (handOver (n + 1) s).rosterView = (handOver n (s.headTaken p rest)).rosterView := by
  rw [handOver, hq]
  dsimp only
  split
  · split
    · exact .inl (by simp [State.headTaken])
    · exact .inr rfl
  · split
    · exact .inl (by simp [State.headTaken])
    · exact .inr rfl
  · exact .inr rfl

theorem State.headTaken_inherits {s : State} {p : Place} {rest : List Place} (hq : s.roster.queue = p :: rest) :
    s.rosterView.Inherits (s.headTaken p rest).rosterView where
  table := rfl
  standings := rfl
  cutoff := rfl
  le := by simp [State.headTaken, RosterView.slot, State.rosterView, State.modRoster, hq]

/-- Who holds the slot or waits for it after a hand-over has waited before. -/
theorem handOver_inherits (n : Nat) (s : State) : s.rosterView.Inherits (handOver n s).rosterView := by
  have empty (t : State) : t.rosterView.Inherits (t.modRoster fun r => { r with holder := none }).rosterView :=
    ⟨rfl, rfl, rfl, by simp [RosterView.slot, State.rosterView, State.modRoster]⟩
  induction n generalizing s with
  | zero => exact empty s
  | succ n ih =>
    cases hq : s.roster.queue with
    | nil =>
      rw [handOver, hq]
      exact empty s
    | cons p rest =>
      rcases handOver_cons_rosterView (n := n) hq with h | h <;> rw [h]
      · exact s.headTaken_inherits hq
      · exact (s.headTaken_inherits hq).trans (ih _)

/-- A hand-over that is long enough leaves no one waiting for a free slot. -/
theorem handOver_served {n : Nat} {s : State} (hn : s.roster.queue.length < n) : (handOver n s).rosterView.Served := by
  induction n generalizing s with
  | zero => omega
  | succ n ih =>
    cases hq : s.roster.queue with
    | nil =>
      rw [handOver, hq]
      exact fun _ => by simp [State.rosterView, State.modRoster, hq]
    | cons p rest =>
      rw [hq, List.length_cons] at hn
      rcases handOver_cons_rosterView (n := n) hq with h | h <;> rw [h]
      · exact fun hnone => by simp [State.headTaken, State.rosterView, State.modRoster] at hnone
      · exact ih (by simpa [State.headTaken, State.modRoster] using hn)

theorem State.holds_iff (s : State) (i : Nat) : s.holds i = true ↔ s.rosterView.holder = some i := by
  simp only [State.holds, State.rosterView]
  cases s.roster.holder <;> simp

theorem State.queued_iff (s : State) (i : Nat) : s.queued i = true ↔ i ∈ s.rosterView.queue := by
  simp [State.queued, State.rosterView]

/-- The holder that gives the slot back (R74, R76). -/
theorem handOver_frees {i : Nat} {s : State} (h : s.rosterView.holder = some i) :
    s.rosterView.Frees i (handOver (s.roster.queue.length + 1) s).rosterView := by
  have hin := handOver_inherits (s.roster.queue.length + 1) s
  have hall : s.rosterView.slot = i ::ₘ s.rosterView.queue := by simp [RosterView.slot, h]
  exact
    { toReslots := hin.reslots (handOver_served (Nat.lt_succ_self _))
      le := hin.le.trans s.rosterView.queue_le_slot
      gone := fun hnodup hmem => (Multiset.nodup_cons.mp (hall ▸ hnodup)).1 (Multiset.mem_of_le hin.le hmem) }

/-- An entry that is not the holder leaves the queue (R76). -/
theorem leaveQueue_frees {i : Nat} {s : State} (h : s.rosterView.holder ≠ some i) :
    s.rosterView.Frees i (s.modRoster fun r => { r with queue := r.queue.filter fun p => p.entry != i }).rosterView := by
  set t := s.modRoster fun r => { r with queue := r.queue.filter fun p => p.entry != i }
  have hholder : t.rosterView.holder = s.rosterView.holder := rfl
  have hqueue : t.rosterView.queue = s.rosterView.queue.filter (· ≠ i) := by
    simp [t, State.rosterView, State.modRoster, List.filter_map, Function.comp_def, bne, beq_eq_decide]
  have hslot : t.rosterView.slot = (s.rosterView.holder.toList : Multiset Nat) + s.rosterView.queue.filter (· ≠ i) := by
    rw [RosterView.slot, hholder, hqueue]
  refine ⟨⟨rfl, rfl, rfl, fun hserved hnone => ?_⟩, ?_, fun _ hmem => ?_⟩
  · rw [hqueue, hserved hnone]
    rfl
  · rw [hslot]
    exact Multiset.add_le_add_left (Multiset.filter_le _ _)
  · rw [hslot, Multiset.mem_add] at hmem
    rcases hmem with hm | hm
    · exact h (by simpa using hm)
    · simp at hm

/-- An entry that gives up its surge place frees it (R76). -/
theorem giveUpPlace_frees (i : Nat) (s : State) : s.rosterView.Frees i (giveUpPlace i s).rosterView := by
  unfold giveUpPlace
  split
  next h => exact handOver_frees ((s.holds_iff i).mp h)
  next h => exact leaveQueue_frees fun hh => h ((s.holds_iff i).mpr hh)

/-- Surge done: the holder gives the slot back, another entry's report is for nothing (R74). -/
theorem surgeDone_rosterView (i : Nat) (s : State) :
    (surgeDone i s).rosterView = s.rosterView ∨ s.rosterView.Frees i (surgeDone i s).rosterView := by
  unfold surgeDone
  split
  next h => exact .inr (handOver_frees ((s.holds_iff i).mp h))
  next => exact .inl rfl

/-- An ask: refused, or taken for an entry in ON without a surge place (R73). -/
theorem askSlot_rosterView (i : Nat) (s : State) :
    (askSlot i s).rosterView = s.rosterView ∨
      (s.rosterView.standing i).grant = .on ∧ i ∉ s.rosterView.slot ∧ s.rosterView.Places i (askSlot i s).rosterView := by
  unfold askSlot
  split
  next => exact .inl rfl
  next h =>
    simp only [not_or, not_not, s.holds_iff, s.queued_iff] at h
    obtain ⟨hon, hholds, hqueued⟩ := h
    have hout : i ∉ s.rosterView.slot := by simp [RosterView.slot, hholds, hqueued]
    refine .inr ⟨by simpa using hon, hout, ?_⟩
    set t := s.modRoster fun r =>
      { r with queue := s.insertPlace { entry := i, asked := r.asks } r.queue, asks := r.asks + 1 }
    have hholder : t.rosterView.holder = s.rosterView.holder := rfl
    have hqueue : t.rosterView.queue = i ::ₘ s.rosterView.queue :=
      Multiset.coe_eq_coe.mpr ((s.insertPlace_perm { entry := i, asked := s.roster.asks } s.roster.queue).map Place.entry)
    dsimp only
    split
    next hfree =>
      have hin := handOver_inherits (t.roster.queue.length + 1) t
      refine ⟨⟨hin.table, hin.standings, hin.cutoff, fun _ => handOver_served (Nat.lt_succ_self _)⟩, ?_⟩
      exact hin.le.trans (hqueue ▸ Multiset.cons_le_cons _ s.rosterView.queue_le_slot)
    next hheld =>
      refine ⟨⟨rfl, rfl, rfl, fun _ hnone => ?_⟩, ?_⟩
      · exact absurd (by simpa [t, State.rosterView, State.modRoster] using hnone) (by simpa using hheld)
      · simp [RosterView.slot, hholder, hqueue]

/-- A release changes the entry and, where that was ON, frees its surge place (R62, R76). -/
theorem release_rosterView (withStop : Bool) (i : Nat) (s : State) :
    (s.rosterView.standing i).grant ≠ .on ∧
        (release withStop i s).rosterView = s.rosterView.modify i (Standing.released withStop) ∨
      (s.rosterView.modify i (Standing.released withStop)).Frees i (release withStop i s).rosterView := by
  set t := s.modLive i fun l =>
    let g := match l.grant, withStop with
      | .on, true => Grant.stopping
      | .stopping, true => .stopping
      | .shedding, true => .shedding
      | _, _ => .idle
    { l with want := false, grant := g, reason := if g = .idle then .none else l.reason } with ht
  have hview : t.rosterView = s.rosterView.modify i (Standing.released withStop) :=
    s.modLive_rosterView i fun l => by
      cases hg : l.grant <;> cases withStop <;>
        simp [Live.standing, Standing.released, Standing.releasedGrant, hg]
  have heq : release withStop i s = if (s.live i).grant = .on then giveUpPlace i t else t := rfl
  rw [heq]
  split
  next => exact .inr (hview ▸ giveUpPlace_frees i t)
  next h => exact .inl ⟨by simpa using h, hview⟩

end Sys2Proof.Machine
end

section
/-! PROOF. SURGE_LIMIT_EXPIRY: the holder loses the slot, and a heater at the head of the queue starts with it (O53). -/

namespace Sys2Proof.Machine

set_option Elab.async false -- one theorem after another: each would otherwise take a thread with its own large stack

theorem exec_surgeLimitExpiry {s : State} (hs : s.Settled) : exec .surgeLimitExpiry s = .next (qualify (surgeLimitExpires s)) := by
  have he : exec .surgeLimitExpiry s = .next (external surgeLimitExpires s) := rfl
  rw [he, external_settled hs]

theorem surgeLimitExpires_held {s : State} {h : Holder} (hh : s.roster.holder = some h) :
    surgeLimitExpires s = handOver (s.roster.queue.length + 1) s := by
  simp [surgeLimitExpires, surgeDone, State.holds, hh]

theorem handOver_empty {n : Nat} {s : State} (hq : s.roster.queue = []) :
    handOver n s = { s with roster := { s.roster with holder := none } } := by
  cases n with
  | zero => rfl
  | succ n =>
    rw [handOver, hq]
    rfl

/-- A heater at the head of the queue that waits for the slot starts with it (R74, R118). -/
theorem handOver_heater_head {n : Nat} {s : State} {p : Place} {rest : List Place} (hq : s.roster.queue = p :: rest)
    (hk : (s.cfg p.entry).kind = .heater) (hr : s.heater.state = .requesting) :
    handOver (n + 1) s = enterStarting (s.headTaken p rest) := by
  rw [handOver, hq]
  dsimp only
  have hk' : ((s.headTaken p rest).cfg p.entry).kind = .heater := hk
  rw [State.headTaken] at hk' ⊢
  rw [hk']
  exact if_pos hr

/-- The duty estimate is in the live part, not in the surge places. -/
theorem heaterDuty_places (s : State) :
    (heaterDuty s).roster.holder = s.roster.holder ∧ (heaterDuty s).roster.queue = s.roster.queue := by
  simp only [heaterDuty, onEntry]
  repeat' split
  all_goals exact ⟨rfl, rfl⟩

theorem enterStarting_places (s : State) :
    (enterStarting s).roster.holder = s.roster.holder ∧ (enterStarting s).roster.queue = s.roster.queue :=
  heaterDuty_places _

theorem enterStarting_onlyIn (s : State) : s.OnlyIn [.roster, .heater, .power] (enterStarting s) := by
  intro b hb
  cases b <;> simp_all [Block.Same]

theorem State.headTaken_onlyIn (s : State) (p : Place) (rest : List Place) : s.OnlyIn [.roster] (s.headTaken p rest) := by
  intro b hb
  cases b <;> simp_all [Block.Same, State.headTaken]

/-- Settles O53: the holder's limit hands the slot over, to no one with the queue empty and else to its head. -/
theorem surgeLimitFreesTheSlot : Obligations.SurgeLimitFreesTheSlot := by
  intro s h hs hh
  rw [exec_surgeLimitExpiry hs, surgeLimitExpires_held hh]
  refine ⟨fun hq => by rw [handOver_empty hq], fun p ps hq hk hr => ?_⟩
  rw [handOver_heater_head hq hk hr]
  obtain ⟨hholder, hqueue⟩ := enterStarting_places (s.headTaken p ps)
  obtain ⟨l, hheater⟩ := enterStarting_heater (s.headTaken p ps)
  refine ⟨_, rfl, ?_, ?_⟩
  · exact (((s.headTaken_onlyIn p ps).trans (enterStarting_onlyIn _)).mono (by decide)).qualify (by simp)
  · exact ⟨hholder, hqueue, by simp [hheater]⟩

end Sys2Proof.Machine
end

section
/-! PROOF. The moves of the load roster, as its view shows them: what an owner does to its entry (R61 to R63, R72 to R76), and what the
roster, the budget tick, CUTOFF and a commit do (R60, R65 to R69, R81, R95). -/

namespace Sys2Proof.Machine

set_option Elab.async false -- one theorem after another: each would otherwise take a thread with its own large stack

namespace RosterView

/-- The first entry of a kind told that its stop is complete: how the fridge answers a shed at once (R137). -/
def stopFirst (v : RosterView) (k : LoadKind) : RosterView :=
  match v.first k with
  | some i => v.modify i Standing.stopped
  | none => v

/-- Nobody with a surge place: how an emergency shed begins (R67). -/
def emptied (v : RosterView) : RosterView := { v with holder := none, queue := 0 }

/-- A table entry replaced. -/
def put (v : RosterView) (i : Nat) (e : Entry) : RosterView := { v with table := v.table.set i e }

/-- The protect flags read from a fridge controller that requests protection or not (R69, R95). -/
def readProtect (v : RosterView) (p : Bool) : RosterView :=
  v.validEntries.foldl (fun w i => w.modify i (Standing.flagged ((v.cfg i).kind == .fridge && p))) v

/-- The protected entry in SHED restored, any other left as it is (R69). -/
def restoreProtected (v : RosterView) (i : Nat) : RosterView :=
  if (v.standing i).protect = true ∧ (v.standing i).grant = .shed then v.modify i Standing.restored else v

/-- The protected entries in SHED restored (R69). -/
def protectRestored (v : RosterView) : RosterView := v.validEntries.foldl restoreProtected v

/-- A part after a reset (R60, R76, R102). -/
def reset : RosterView where
  table := defaultRoster
  standings := List.replicate 16 Standing.idle
  holder := none
  queue := 0
  cutoff := false

end RosterView

/-- A move by the owner of the entries of a kind. -/
inductive OwnerMove (k : LoadKind) : RosterView → RosterView → Prop
  | request (v : RosterView) (i : Nat) : OwnerMove k v (v.modify i Standing.requested)
  | stop (v : RosterView) (i : Nat) : OwnerMove k v (v.modify i Standing.stopped)
  | release {v : RosterView} {i : Nat} (withStop : Bool) (hoff : (v.standing i).grant ≠ .on) :
      OwnerMove k v (v.modify i (Standing.released withStop))
  | leave {v w : RosterView} {i : Nat} (withStop : Bool) (h : (v.modify i (Standing.released withStop)).Frees i w) :
      OwnerMove k v w
  | free {v w : RosterView} {i : Nat} (h : v.Frees i w) : OwnerMove k v w
  | ask {v w : RosterView} {i : Nat} (hfirst : v.first k = some i) (hon : (v.standing i).grant = .on) (hout : i ∉ v.slot)
      (h : v.Places i w) : OwnerMove k v w

/-- An emergency shed of one entry (R67). -/
inductive EmergencyOne (i : Nat) (v : RosterView) : RosterView → Prop
  | owner {w : RosterView} (hon : (v.standing i).grant = .on) (hk : (v.cfg i).kind ≠ .fridge)
      (h : Relation.ReflTransGen (OwnerMove (v.cfg i).kind) (v.modify i (Standing.shedding .emergency)) w) : EmergencyOne i v w
  | fridge (hon : (v.standing i).grant = .on) (hk : (v.cfg i).kind = .fridge) :
      EmergencyOne i v ((v.modify i (Standing.shedding .emergency)).stopFirst .fridge)
  | waiting (h : (v.standing i).grant = .waiting) : EmergencyOne i v (v.modify i Standing.shed)
  | shed (h : (v.standing i).grant = .shed) : EmergencyOne i v (v.modify i Standing.emergency)
  | other (h : (v.standing i).grant ≠ .on) : EmergencyOne i v v

/-- One step of R67 over a list of entries. -/
inductive EmergencyPass : List Nat → RosterView → RosterView → Prop
  | nil (v : RosterView) : EmergencyPass [] v v
  | cons {i : Nat} {is : List Nat} {u v w : RosterView} (h : EmergencyOne i u v) (hs : EmergencyPass is v w) :
      EmergencyPass (i :: is) u w

/-- A move of the roster: an owner's, or one of the budget tick's, the voltage watch's, a commit's or a reset's. -/
inductive RosterMove : RosterView → RosterView → Prop
  | owner {k : LoadKind} {v w : RosterView} (h : OwnerMove k v w) : RosterMove v w
  | grant {v : RosterView} {i : Nat} (h : (v.standing i).grant = .waiting) : RosterMove v (v.modify i Standing.granted)
  | restore {v : RosterView} {i : Nat} (h : (v.standing i).grant = .shed) : RosterMove v (v.modify i Standing.restored)
  | shed {v w : RosterView} {i : Nat} (hon : i ∈ v.inGrant .on) (hk : (v.cfg i).kind ≠ .fridge)
      (h : (v.modify i (Standing.shedding .budget)).Frees i w) : RosterMove v w
  | shedFridge {v w : RosterView} {i : Nat} (hon : i ∈ v.inGrant .on) (hk : (v.cfg i).kind = .fridge)
      (hp : (v.standing i).protect = false) (h : (v.modify i (Standing.shedding .budget)).Frees i w) :
      RosterMove v (w.stopFirst .fridge)
  | emergency {v v₁ v₂ w : RosterView} (hcutoff : v.cutoff = true) (hon : EmergencyPass (v.inGrant .on) v.emptied v₁)
      (hwaiting : EmergencyPass (v.inGrant .waiting) v₁ v₂) (hshed : EmergencyPass (v.inGrant .shed) v₂ w) : RosterMove v w
  | read (v : RosterView) (p : Bool) :
      RosterMove v (if v.cutoff then v.readProtect p else (v.readProtect p).protectRestored)
  | cutoffAsserts (v : RosterView) : RosterMove v { v with cutoff := true }
  | cutoffClears (v : RosterView) : RosterMove v ({ v with cutoff := false } : RosterView).protectRestored
  | put {v : RosterView} {i : Nat} {e : Entry}
      (hall : (rosterCfgOf e).valid = true → rosterAllowed (v.table.set i e) = true)
      (hvalid : ((v.put i e).cfg i).valid = (v.cfg i).valid)
      (hkind : ((v.put i e).cfg i).valid = true → ((v.put i e).cfg i).kind = (v.cfg i).kind) : RosterMove v (v.put i e)
  | renew {v : RosterView} {i : Nat} {e : Entry}
      (hall : (rosterCfgOf e).valid = true → rosterAllowed (v.table.set i e) = true)
      (hidle : (v.cfg i).valid = true → (v.standing i).grant = .idle) :
      RosterMove v ((v.put i e).modify i fun _ => Standing.idle)
  | restart (v : RosterView) : RosterMove v RosterView.reset

/-- A property of views that every move of a relation keeps is kept by any number of them. -/
theorem kept_by_moves {R : RosterView → RosterView → Prop} {I : RosterView → Prop} (hI : ∀ {v w}, I v → R v w → I w)
    {v w : RosterView} (hv : I v) (h : Relation.ReflTransGen R v w) : I w := by
  induction h with
  | refl => exact hv
  | tail _ hm ih => exact hI ih hm

namespace RosterView

@[simp] theorem emptied_standing (v : RosterView) (i : Nat) : v.emptied.standing i = v.standing i := rfl

theorem emptied_slot (v : RosterView) : v.emptied.slot = 0 := by
  simp [emptied, slot]

theorem put_cfg_ne {v : RosterView} {i j : Nat} (h : i ≠ j) (e : Entry) : (v.put i e).cfg j = v.cfg j := by
  simp [cfg, put, List.getD_eq_getElem?_getD, List.getElem?_set_ne h]

@[simp] theorem put_standing (v : RosterView) (i j : Nat) (e : Entry) : (v.put i e).standing j = v.standing j := rfl

@[simp] theorem reset_standing (i : Nat) : reset.standing i = Standing.idle := by
  simp only [standing, reset, List.getD_eq_getElem?_getD, List.getElem?_replicate]
  split <;> rfl

/-- What holds of every view that differs by one owner's stop complete holds after `stopFirst`. -/
theorem stopFirst_cases {P : RosterView → Prop} (v : RosterView) (k : LoadKind)
    (hstop : ∀ i, v.first k = some i → P (v.modify i Standing.stopped)) (hnone : P v) : P (v.stopFirst k) := by
  unfold stopFirst
  split
  next i h => exact hstop i h
  next => exact hnone

/-- The table is left by what an owner does. -/
theorem ownerMove_table {k : LoadKind} {v w : RosterView} (h : OwnerMove k v w) : w.table = v.table := by
  cases h with
  | request | stop | release => rfl
  | leave _ h => exact h.table
  | free h => exact h.table
  | ask _ _ _ h => exact h.table

theorem ownerMoves_table {k : LoadKind} {v w : RosterView} (h : Relation.ReflTransGen (OwnerMove k) v w) :
    w.table = v.table := by
  induction h with
  | refl => rfl
  | tail _ hm ih => exact (ownerMove_table hm).trans ih

/-- CUTOFF is left by what an owner does. -/
theorem ownerMove_cutoff {k : LoadKind} {v w : RosterView} (h : OwnerMove k v w) : w.cutoff = v.cutoff := by
  cases h with
  | request | stop | release => rfl
  | leave _ h => exact h.cutoff
  | free h => exact h.cutoff
  | ask _ _ _ h => exact h.cutoff

theorem ownerMoves_cutoff {k : LoadKind} {v w : RosterView} (h : Relation.ReflTransGen (OwnerMove k) v w) :
    w.cutoff = v.cutoff := by
  induction h with
  | refl => rfl
  | tail _ hm ih => exact (ownerMove_cutoff hm).trans ih

@[simp] theorem stopFirst_table (v : RosterView) (k : LoadKind) : (v.stopFirst k).table = v.table := by
  unfold stopFirst
  split <;> rfl

@[simp] theorem stopFirst_cutoff (v : RosterView) (k : LoadKind) : (v.stopFirst k).cutoff = v.cutoff := by
  unfold stopFirst
  split <;> rfl

@[simp] theorem stopFirst_slot (v : RosterView) (k : LoadKind) : (v.stopFirst k).slot = v.slot := by
  unfold stopFirst
  split <;> rfl

theorem emergencyOne_table {i : Nat} {v w : RosterView} (h : EmergencyOne i v w) : w.table = v.table := by
  cases h with
  | owner _ _ hs => exact (ownerMoves_table hs).trans rfl
  | fridge => simp
  | waiting | shed | other => rfl

theorem emergencyOne_cutoff {i : Nat} {v w : RosterView} (h : EmergencyOne i v w) : w.cutoff = v.cutoff := by
  cases h with
  | owner _ _ hs => exact (ownerMoves_cutoff hs).trans rfl
  | fridge => simp
  | waiting | shed | other => rfl

/-- What an owner's move does to what an entry stands at. -/
theorem ownerMove_standing {P : Standing → Prop} {k : LoadKind} {v w : RosterView} (h : OwnerMove k v w) {j : Nat}
    (hv : P (v.standing j)) (hrequest : ∀ x, P x → P x.requested) (hstop : ∀ x, P x → P x.stopped)
    (hrelease : ∀ b x, P x → P (x.released b)) : P (w.standing j) := by
  cases h with
  | request i => exact standing_modify_cases v i j _ (fun _ => hrequest _ hv) hv
  | stop i => exact standing_modify_cases v i j _ (fun _ => hstop _ hv) hv
  | @release i b => exact standing_modify_cases v i j _ (fun _ => hrelease b _ hv) hv
  | @leave _ i b h => exact h.standing j ▸ standing_modify_cases v i j _ (fun _ => hrelease b _ hv) hv
  | free h => exact h.standing j ▸ hv
  | ask _ _ _ h => exact h.standing j ▸ hv

end RosterView

/-! ### Want, reason and grant state agree (R59 to R68) -/

/-- `Live.Ok` speaks of what a live part stands at. -/
def Standing.Ok (x : Standing) : Prop :=
  ((x.reason ≠ .none) ↔ (x.grant = .shedding ∨ x.grant = .shed)) ∧
  ((x.grant = .waiting ∨ x.grant = .on ∨ x.grant = .shed) → x.want = true) ∧
  ((x.grant = .idle ∨ x.grant = .stopping) → x.want = false)

namespace Standing.Ok

variable {x : Standing}

theorem idle : Standing.idle.Ok := by simp [Standing.Ok, Standing.idle]

theorem requested (h : x.Ok) : x.requested.Ok := by
  obtain ⟨hreason, hwant, hno⟩ := h
  cases hg : x.grant <;> simp_all [Standing.Ok, Standing.requested]

theorem released (h : x.Ok) (withStop : Bool) : (x.released withStop).Ok := by
  obtain ⟨hreason, hwant, hno⟩ := h
  cases hg : x.grant <;> cases withStop <;> simp_all [Standing.Ok, Standing.released, Standing.releasedGrant]

theorem stopped (h : x.Ok) : x.stopped.Ok := by
  obtain ⟨hreason, hwant, hno⟩ := h
  cases hg : x.grant <;> cases hw : x.want <;> simp_all [Standing.Ok, Standing.stopped]

theorem granted (h : x.Ok) (hg : x.grant = .waiting) : x.granted.Ok := by
  obtain ⟨hreason, hwant, hno⟩ := h
  simp_all [Standing.Ok, Standing.granted]

theorem restored (h : x.Ok) (hg : x.grant = .shed) : x.restored.Ok := by
  obtain ⟨hreason, hwant, hno⟩ := h
  simp_all [Standing.Ok, Standing.restored]

theorem shedding {r : ShedReason} (hr : r ≠ .none) : (x.shedding r).Ok := by
  simp [Standing.Ok, Standing.shedding, hr]

theorem shed (h : x.Ok) (hg : x.grant = .waiting) : x.shed.Ok := by
  obtain ⟨hreason, hwant, hno⟩ := h
  simp_all [Standing.Ok, Standing.shed]

theorem emergency (h : x.Ok) (hg : x.grant = .shed) : x.emergency.Ok := by
  obtain ⟨hreason, hwant, hno⟩ := h
  simp_all [Standing.Ok, Standing.emergency]

theorem flagged (h : x.Ok) (p : Bool) : (x.flagged p).Ok := h

end Standing.Ok

namespace RosterView

/-- Every entry's want and reason agree with its grant state. -/
def LivesOk (v : RosterView) : Prop := ∀ i, (v.standing i).Ok

theorem LivesOk.modify {v : RosterView} (h : v.LivesOk) {i : Nat} {f : Standing → Standing} (hf : (f (v.standing i)).Ok) :
    (v.modify i f).LivesOk :=
  fun j => standing_modify_cases v i j f (fun hij => hij ▸ hf) (h j)

theorem LivesOk.shedding {v : RosterView} (h : v.LivesOk) (i : Nat) {r : ShedReason} (hr : r ≠ .none) :
    (v.modify i (Standing.shedding r)).LivesOk :=
  h.modify (.shedding hr)

theorem LivesOk.reslots {v w : RosterView} (h : v.LivesOk) (hw : v.Reslots w) : w.LivesOk :=
  fun j => hw.standing j ▸ h j

theorem LivesOk.ownerMove {k : LoadKind} {v w : RosterView} (h : v.LivesOk) (hm : OwnerMove k v w) : w.LivesOk :=
  fun j => ownerMove_standing hm (h j) (fun _ => .requested) (fun _ => .stopped) fun b _ hx => hx.released b

theorem LivesOk.stopFirst {v : RosterView} (h : v.LivesOk) (k : LoadKind) : (v.stopFirst k).LivesOk :=
  stopFirst_cases v k (fun i _ => h.modify (h i).stopped) h

theorem LivesOk.emergencyOne {i : Nat} {v w : RosterView} (h : v.LivesOk) (hm : EmergencyOne i v w) : w.LivesOk := by
  cases hm with
  | owner _ _ hs => exact kept_by_moves (I := LivesOk) LivesOk.ownerMove (h.shedding i (by simp)) hs
  | fridge => exact (h.shedding i (by simp)).stopFirst _
  | waiting hg => exact h.modify ((h i).shed hg)
  | shed hg => exact h.modify ((h i).emergency hg)
  | other => exact h

theorem LivesOk.emergencyPass {is : List Nat} {v w : RosterView} (h : v.LivesOk) (hm : EmergencyPass is v w) : w.LivesOk := by
  induction hm with
  | nil => exact h
  | cons hone _ ih => exact ih (h.emergencyOne hone)

theorem LivesOk.readProtect {v : RosterView} (h : v.LivesOk) (p : Bool) : (v.readProtect p).LivesOk :=
  List.foldlRecOn _ _ h fun _ hw i _ => hw.modify ((hw i).flagged _)

theorem LivesOk.protectRestored {v : RosterView} (h : v.LivesOk) : v.protectRestored.LivesOk := by
  refine List.foldlRecOn _ _ h fun w hw i _ => ?_
  unfold restoreProtected
  split
  next hg => exact hw.modify ((hw i).restored hg.2)
  next => exact hw

/-- Every move of the roster keeps want and reason in agreement with the grant state. -/
theorem LivesOk.move {v w : RosterView} (h : v.LivesOk) (hm : RosterMove v w) : w.LivesOk := by
  cases hm with
  | owner hm => exact h.ownerMove hm
  | @grant _ i hg => exact h.modify ((h i).granted hg)
  | @restore _ i hg => exact h.modify ((h i).restored hg)
  | shed _ _ hs => exact (h.shedding _ (by simp)).reslots hs.toReslots
  | shedFridge _ _ _ hs => exact ((h.shedding _ (by simp)).reslots hs.toReslots).stopFirst _
  | emergency _ hon hwaiting hshed =>
    have hempty : v.emptied.LivesOk := h
    exact ((hempty.emergencyPass hon).emergencyPass hwaiting).emergencyPass hshed
  | read _ p =>
    split
    · exact h.readProtect p
    · exact (h.readProtect p).protectRestored
  | cutoffAsserts => exact h
  | cutoffClears => exact LivesOk.protectRestored (v := { v with cutoff := false }) h
  | put => exact h
  | @renew _ i e => exact LivesOk.modify (v := v.put i e) h .idle
  | restart => exact fun i => by rw [reset_standing]; exact .idle

end RosterView

end Sys2Proof.Machine
end

section
/-! PROOF. Every move of the roster keeps the surge places with valid entries in ON, each once (R72 to R76). -/

namespace Sys2Proof.Machine

set_option Elab.async false -- one theorem after another: each would otherwise take a thread with its own large stack

namespace RosterView

/-- The holder and the queued entries are valid and ON, each once, and nothing waits for a free slot. -/
structure SlotOk (v : RosterView) : Prop where
  on : ∀ i ∈ v.slot, (v.cfg i).valid = true ∧ (v.standing i).grant = .on
  nodup : v.slot.Nodup
  served : v.Served

namespace SlotOk

variable {v w : RosterView} {i : Nat}

theorem out (h : v.SlotOk) (hoff : (v.standing i).grant ≠ .on) : i ∉ v.slot := fun hi => hoff (h.on i hi).2

/-- Fewer places, their entries as they were. -/
theorem of_le (h : v.SlotOk) (htable : w.table = v.table) (hle : w.slot ≤ v.slot)
    (hstanding : ∀ j ∈ w.slot, w.standing j = v.standing j) (hserved : w.Served) : w.SlotOk where
  on j hj := by
    rw [cfg_congr htable, hstanding j hj]
    exact h.on j (Multiset.mem_of_le hle hj)
  nodup := Multiset.nodup_of_le hle h.nodup
  served := hserved

theorem empty (h : v.slot = 0) : v.SlotOk where
  on i hi := by simp [h] at hi
  nodup := by simp [h]
  served _ := by
    exact (add_eq_zero.mp h).2

/-- An entry that stays in ON, or has no surge place, may change. -/
theorem modify (h : v.SlotOk) {f : Standing → Standing} (hf : i ∈ v.slot → (f (v.standing i)).grant = .on) :
    (v.modify i f).SlotOk where
  on j hj :=
    ⟨(h.on j hj).1, standing_modify_cases (P := fun x => x.grant = .on) v i j f (fun hij => hij ▸ hf (hij ▸ hj)) (h.on j hj).2⟩
  nodup := h.nodup
  served := h.served

/-- An entry that gives up its place may change in any way. -/
theorem freed (h : v.SlotOk) {f : Standing → Standing} (hw : (v.modify i f).Frees i w) : w.SlotOk := by
  refine h.of_le hw.table hw.le (fun j hj => ?_) (hw.served h.served)
  have hji : i ≠ j := fun hij => hw.gone h.nodup (hij ▸ hj)
  rw [hw.standing j, standing_modify_ne hji]

theorem placed (h : v.SlotOk) (hvalid : (v.cfg i).valid = true) (hon : (v.standing i).grant = .on) (hout : i ∉ v.slot)
    (hw : v.Places i w) : w.SlotOk where
  on j hj := by
    rw [cfg_congr hw.table, hw.standing j]
    rcases Multiset.mem_cons.mp (Multiset.mem_of_le hw.le hj) with rfl | hj
    · exact ⟨hvalid, hon⟩
    · exact h.on j hj
  nodup := Multiset.nodup_of_le hw.le (Multiset.nodup_cons.mpr ⟨hout, h.nodup⟩)
  served := hw.served h.served

theorem ownerMove {k : LoadKind} (h : v.SlotOk) (hm : OwnerMove k v w) : w.SlotOk := by
  cases hm with
  | request i => exact h.modify fun hi => by simp [Standing.requested, (h.on i hi).2]
  | stop i => exact h.modify fun hi => by simp [Standing.stopped, (h.on i hi).2]
  | release _ hoff => exact h.modify fun hi => absurd hi (h.out hoff)
  | leave _ hw => exact h.freed hw
  | free hw => exact h.of_le hw.table hw.le (fun j _ => hw.standing j) (hw.served h.served)
  | ask hfirst hon hout hw => exact h.placed (mem_validEntries.mp (mem_of_first hfirst).1).2 hon hout hw

theorem stopFirst (h : v.SlotOk) (k : LoadKind) : (v.stopFirst k).SlotOk :=
  stopFirst_cases v k (fun i _ => h.ownerMove (k := k) (.stop v i)) h

/-- An emergency shed of an entry without a surge place. -/
theorem emergencyOne (h : v.SlotOk) (hout : i ∉ v.slot) (hm : EmergencyOne i v w) : w.SlotOk := by
  have hmodify (f : Standing → Standing) : (v.modify i f).SlotOk := h.modify fun hi => absurd hi hout
  cases hm with
  | owner _ _ hs => exact kept_by_moves (I := SlotOk) ownerMove (hmodify _) hs
  | fridge => exact (hmodify _).stopFirst _
  | waiting | shed => exact hmodify _
  | other => exact h

end SlotOk

/-! ### The emergency shed (R67) -/

/-- Only the first entry of its kind comes to have a surge place by an owner's moves. -/
theorem ownerMoves_slot {k : LoadKind} {v w : RosterView} (h : Relation.ReflTransGen (OwnerMove k) v w) {j : Nat}
    (hj : j ∈ w.slot) : j ∈ v.slot ∨ v.first k = some j := by
  have hkept : w.table = v.table ∧ ∀ j ∈ w.slot, j ∈ v.slot ∨ v.first k = some j := by
    refine kept_by_moves (I := fun u => u.table = v.table ∧ ∀ j ∈ u.slot, j ∈ v.slot ∨ v.first k = some j)
      (fun {u u'} hu hm => ?_) ⟨rfl, fun _ => .inl⟩ h
    obtain ⟨htable, hslot⟩ := hu
    refine ⟨(ownerMove_table hm).trans htable, fun j hj => ?_⟩
    cases hm with
    | request | stop | release => exact hslot j hj
    | leave _ hw => exact hslot j (Multiset.mem_of_le hw.le hj)
    | free hw => exact hslot j (Multiset.mem_of_le hw.le hj)
    | ask hfirst _ _ hw =>
      rcases Multiset.mem_cons.mp (Multiset.mem_of_le hw.le hj) with rfl | hj
      · exact .inr (first_congr htable k ▸ hfirst)
      · exact hslot j hj
  exact hkept.2 j hj

theorem emergencyOne_slot {i : Nat} {v w : RosterView} (h : EmergencyOne i v w) {j : Nat} (hj : j ∈ w.slot) :
    j ∈ v.slot ∨ v.first (v.cfg i).kind = some j := by
  cases h with
  | owner _ _ hs => exact ownerMoves_slot hs hj
  | fridge => exact .inl (by rwa [stopFirst_slot] at hj)
  | waiting | shed | other => exact .inl hj

/-- The entries in ON, shed in rising order: what comes to have a surge place on the way is the first entry of its kind, which is not
still to be shed. -/
theorem SlotOk.passOn {is : List Nat} {v w : RosterView} (h : v.SlotOk) (hm : EmergencyPass is v w)
    (hrising : is.Pairwise (· < ·)) (hvalid : ∀ i ∈ is, i ∈ v.validEntries) (hout : ∀ i ∈ is, i ∉ v.slot) : w.SlotOk := by
  induction hm with
  | nil => exact h
  | @cons i is v u w hone _ ih =>
    obtain ⟨habove, hrising⟩ := List.pairwise_cons.mp hrising
    have htable := emergencyOne_table hone
    refine ih (h.emergencyOne (hout i (by simp)) hone) hrising (fun j hj => ?_) (fun j hj hslot => ?_)
    · exact validEntries_congr htable ▸ hvalid j (by simp [hj])
    · rcases emergencyOne_slot hone hslot with hold | hfirst
      · exact hout j (by simp [hj]) hold
      · have hle := first_le hfirst (hvalid i (by simp)) rfl
        have hlt := habove j hj
        omega

/-- Neither ON nor on the way back to it without a grant. -/
def OffAt (v : RosterView) (i : Nat) : Prop := (v.standing i).grant ≠ .on ∧ (v.standing i).grant ≠ .stopping

/-- An entry that is neither ON nor STOPPING comes back to neither by an owner's moves. -/
theorem OffAt.ownerMove {k : LoadKind} {v w : RosterView} {j : Nat} (h : v.OffAt j) (hm : OwnerMove k v w) : w.OffAt j := by
  refine ownerMove_standing (P := fun x => x.grant ≠ .on ∧ x.grant ≠ .stopping) hm h ?_ ?_ ?_
  · intro x hx
    cases hg : x.grant <;> simp_all [Standing.requested]
  · intro x hx
    cases hg : x.grant <;> cases hw : x.want <;> simp_all [Standing.stopped]
  · intro b x hx
    cases hg : x.grant <;> cases b <;> simp_all [Standing.released, Standing.releasedGrant]

theorem OffAt.modify {v : RosterView} {i j : Nat} {f : Standing → Standing} (h : v.OffAt j)
    (hf : ∀ x, (f x).grant ≠ .on ∧ (f x).grant ≠ .stopping) : (v.modify i f).OffAt j :=
  standing_modify_cases (P := fun x => x.grant ≠ .on ∧ x.grant ≠ .stopping) v i j f (fun _ => hf _) h

theorem OffAt.emergencyOne {i j : Nat} {v w : RosterView} (h : v.OffAt j) (hm : EmergencyOne i v w) : w.OffAt j := by
  have hshedding : (v.modify i (Standing.shedding .emergency)).OffAt j := h.modify fun x => by simp [Standing.shedding]
  cases hm with
  | owner _ _ hs => exact kept_by_moves (I := fun u => u.OffAt j) OffAt.ownerMove hshedding hs
  | fridge => exact stopFirst_cases (P := fun u => u.OffAt j) _ _ (fun i _ => hshedding.ownerMove (k := .fridge) (.stop _ i)) hshedding
  | waiting => exact h.modify fun x => by simp [Standing.shed]
  | shed hg =>
    exact standing_modify_cases (P := fun x => x.grant ≠ .on ∧ x.grant ≠ .stopping) v i j _ (fun _ => h) h
  | other => exact h

theorem OffAt.emergencyPass {is : List Nat} {j : Nat} {v w : RosterView} (h : v.OffAt j) (hm : EmergencyPass is v w) :
    w.OffAt j := by
  induction hm with
  | nil => exact h
  | cons hone _ ih => exact ih (h.emergencyOne hone)

/-- Entries that are neither ON nor STOPPING, dealt with in any order. -/
theorem SlotOk.passOff {is : List Nat} {v w : RosterView} (h : v.SlotOk) (hm : EmergencyPass is v w)
    (hoff : ∀ i ∈ is, v.OffAt i) : w.SlotOk := by
  induction hm with
  | nil => exact h
  | @cons i is v u w hone _ ih =>
    refine ih (h.emergencyOne (h.out (hoff i (by simp)).1) hone) fun j hj => ?_
    exact (hoff j (by simp [hj])).emergencyOne hone

theorem mem_inGrant {v : RosterView} {g : Grant} {i : Nat} :
    i ∈ v.inGrant g ↔ i ∈ v.validEntries ∧ (v.standing i).grant = g := by
  simp [inGrant]

theorem inGrant_rising (v : RosterView) (g : Grant) : (v.inGrant g).Pairwise (· < ·) :=
  (List.pairwise_lt_range.filter _).filter _

/-- The emergency shed as a whole: the slot is emptied first, then the entries in ON go, then those in WAITING and SHED, which are never
ON in between. -/
theorem SlotOk.emergency {v v₁ v₂ w : RosterView} (hon : EmergencyPass (v.inGrant .on) v.emptied v₁)
    (hwaiting : EmergencyPass (v.inGrant .waiting) v₁ v₂) (hshed : EmergencyPass (v.inGrant .shed) v₂ w) : w.SlotOk := by
  have hempty : v.emptied.SlotOk := .empty v.emptied_slot
  have h₁ : v₁.SlotOk :=
    hempty.passOn hon (v.inGrant_rising _) (fun i hi => (mem_inGrant.mp hi).1) fun i _ => by simp [v.emptied_slot]
  have hoff {g : Grant} (hg : g ≠ .on ∧ g ≠ .stopping) (i : Nat) (hi : i ∈ v.inGrant g) : v.emptied.OffAt i := by
    simpa only [OffAt, emptied_standing, (mem_inGrant.mp hi).2] using hg
  have h₂ : v₂.SlotOk := h₁.passOff hwaiting fun i hi => (hoff (by simp) i hi).emergencyPass hon
  exact h₂.passOff hshed fun i hi => ((hoff (by simp) i hi).emergencyPass hon).emergencyPass hwaiting

theorem SlotOk.readProtect {v : RosterView} (h : v.SlotOk) (p : Bool) : (v.readProtect p).SlotOk :=
  List.foldlRecOn _ _ h fun _ hw i _ => hw.modify fun hi => (hw.on i hi).2

theorem SlotOk.protectRestored {v : RosterView} (h : v.SlotOk) : v.protectRestored.SlotOk := by
  refine List.foldlRecOn _ _ h fun w hw i _ => ?_
  unfold restoreProtected
  split
  next hg => exact hw.modify fun hi => absurd hi (hw.out (by simp [hg.2]))
  next => exact hw

/-- A table entry replaced by one as valid as it, or replaced where it has no surge place. -/
theorem SlotOk.put {v : RosterView} (h : v.SlotOk) {i : Nat} {e : Entry}
    (hvalid : i ∈ v.slot → ((v.put i e).cfg i).valid = (v.cfg i).valid) : (v.put i e).SlotOk where
  on j hj := by
    refine ⟨?_, (h.on j hj).2⟩
    by_cases hij : i = j
    · subst hij
      exact (hvalid hj).trans (h.on i hj).1
    · rw [put_cfg_ne hij]
      exact (h.on j hj).1
  nodup := h.nodup
  served := h.served

/-- Every move of the roster keeps the surge places right. -/
theorem SlotOk.move {v w : RosterView} (h : v.SlotOk) (hm : RosterMove v w) : w.SlotOk := by
  cases hm with
  | owner hm => exact h.ownerMove hm
  | grant hg => exact h.modify fun _ => rfl
  | restore hg => exact h.modify fun hi => absurd hi (h.out (by simp [hg]))
  | shed _ _ hs => exact h.freed hs
  | shedFridge _ _ _ hs => exact (h.freed hs).stopFirst _
  | emergency _ hon hwaiting hshed => exact .emergency hon hwaiting hshed
  | read _ p =>
    split
    · exact h.readProtect p
    · exact (h.readProtect p).protectRestored
  | cutoffAsserts => exact ⟨h.on, h.nodup, h.served⟩
  | cutoffClears => exact SlotOk.protectRestored ⟨h.on, h.nodup, h.served⟩
  | put _ hvalid => exact h.put fun _ => hvalid
  | @renew _ i e _ hidle =>
    have hout : i ∉ v.slot := fun hi => by simpa [(h.on i hi).2] using hidle (h.on i hi).1
    exact (h.put fun hi => absurd hi hout).modify fun hi => absurd hi hout
  | restart => exact .empty (by simp [slot, reset])

end RosterView

end Sys2Proof.Machine
end

section
/-! PROOF. At most one valid HEATER entry and one valid FRIDGE entry (R58), and every move of the roster keeps the law of R69. -/

namespace Sys2Proof.Machine

set_option Elab.async false -- one theorem after another: each would otherwise take a thread with its own large stack

/-- At most one valid HEATER entry and at most one valid FRIDGE entry in a roster table (R58). -/
def OneEachIn (m : Table) : Prop :=
  ∀ k ∈ [LoadKind.heater, .fridge], ∀ i < 16, ∀ j < 16,
    (rosterCfgOf (m.getD i [])).valid = true → (rosterCfgOf (m.getD i [])).kind = k →
    (rosterCfgOf (m.getD j [])).valid = true → (rosterCfgOf (m.getD j [])).kind = k → i = j

theorem Tables.validKind_eq_some {t : Tables} {i : Nat} {k : LoadKind} :
    t.validKind i = some k ↔
      (rosterCfgOf (t.roster.getD i [])).valid = true ∧ (rosterCfgOf (t.roster.getD i [])).kind = k := by
  have hentry : t.entry 5 i = t.roster.getD i [] := rfl
  unfold Tables.validKind
  rw [hentry]
  split <;> simp_all

theorem Tables.oneEach_iff (t : Tables) : t.OneEach ↔ OneEachIn t.roster := by
  simp only [Tables.OneEach, OneEachIn, Tables.validKind_eq_some, and_imp]

/-- Two places of a list at which a property holds are one, where it holds of at most one element. -/
theorem index_unique_of_filter_le_one {α : Type} {p : α → Bool} {l : List α} (h : (l.filter p).length ≤ 1) {i j : Nat}
    {a b : α} (hi : l[i]? = some a) (hj : l[j]? = some b) (ha : p a = true) (hb : p b = true) : i = j := by
  induction l generalizing i j with
  | nil => simp at hi
  | cons x xs ih =>
    have hrest {n : Nat} {c : α} (hx : p x = true) (hn : xs[n]? = some c) (hc : p c = true) : False := by
      have hmem : c ∈ xs.filter p := List.mem_filter.mpr ⟨List.mem_of_getElem? hn, hc⟩
      have hpos := List.length_pos_of_mem hmem
      rw [List.filter_cons_of_pos hx, List.length_cons] at h
      omega
    have hle : (xs.filter p).length ≤ 1 := ((List.sublist_cons_self x xs).filter p).length_le.trans h
    match i, j with
    | 0, 0 => rfl
    | 0, j + 1 => exact (hrest (by simp_all) (by simpa using hj) hb).elim
    | i + 1, 0 => exact (hrest (by simp_all) (by simpa using hi) ha).elim
    | i + 1, j + 1 => exact congrArg _ (ih hle (by simpa using hi) (by simpa using hj))

/-- A table entry that is there, as the commit check reads the table. -/
theorem getElem?_of_valid {m : Table} {i : Nat} (h : (rosterCfgOf (m.getD i [])).valid = true) :
    (m.map rosterCfgOf)[i]? = some (rosterCfgOf (m.getD i [])) := by
  rw [List.getD_eq_getElem?_getD] at h ⊢
  rw [List.getElem?_map]
  cases hm : m[i]? with
  | none =>
    rw [hm] at h
    exact absurd h (by decide)
  | some e => rfl

/-- The commit check of the roster as a whole (R58). -/
theorem oneEachIn_of_allowed {m : Table} (h : rosterAllowed m = true) : OneEachIn m := by
  simp only [rosterAllowed, Bool.and_eq_true, decide_eq_true_eq, List.filter_filter] at h
  obtain ⟨⟨⟨hheater, hfridge⟩, -⟩, -⟩ := h
  intro k hk i _ j _ hi hik hj hjk
  have hone : ((m.map rosterCfgOf).filter fun c => decide (c.kind = k) && c.valid).length ≤ 1 := by
    rcases List.mem_cons.mp hk with rfl | hk
    · exact hheater
    · rw [List.mem_singleton.mp hk]
      exact hfridge
  exact index_unique_of_filter_le_one hone (getElem?_of_valid hi) (getElem?_of_valid hj)
    (by simp only [hi, hik, decide_true, Bool.and_true]) (by simp only [hj, hjk, decide_true, Bool.and_true])

/-- An entry replaced, with the commit check passed where the new one is valid. -/
theorem OneEachIn.set {m : Table} (h : OneEachIn m) {i : Nat} {e : Entry}
    (hall : (rosterCfgOf e).valid = true → rosterAllowed (m.set i e) = true) : OneEachIn (m.set i e) := by
  by_cases he : (rosterCfgOf e).valid = true
  · exact oneEachIn_of_allowed (hall he)
  · have hold {j : Nat} (hj : (rosterCfgOf ((m.set i e).getD j [])).valid = true) :
        (m.set i e).getD j [] = m.getD j [] := by
      simp only [List.getD_eq_getElem?_getD, List.getElem?_set] at hj ⊢
      split at hj
      · split at hj
        · exact absurd hj he
        · exact absurd hj (by decide)
      next hij => simp [hij]
    intro k hk a ha b hb hva hka hvb hkb
    have hsame := hold hva
    have hsame' := hold hvb
    rw [hsame] at hva hka
    rw [hsame'] at hvb hkb
    exact h k hk a ha b hb hva hka hvb hkb

theorem defaultRoster_oneEach : OneEachIn defaultRoster :=
  oneEachIn_of_allowed (by decide)

/-- What R69 asks of an entry of a kind: the fridge's is never left in SHEDDING, and it alone is protected, and then SHED only with
CUTOFF asserted. -/
def Standing.Lawful (k : LoadKind) (cutoff : Bool) (x : Standing) : Prop :=
  (k = .fridge → x.grant ≠ .shedding) ∧ (x.protect = true → k = .fridge ∧ (x.grant = .shed → cutoff = true))

namespace Standing.Lawful

variable {k : LoadKind} {c : Bool} {x : Standing}

theorem idle : Standing.idle.Lawful k c := by simp [Standing.Lawful, Standing.idle]

theorem requested (h : x.Lawful k c) : x.requested.Lawful k c := by
  cases hg : x.grant <;> simp_all [Standing.Lawful, Standing.requested]

theorem released (h : x.Lawful k c) (withStop : Bool) : (x.released withStop).Lawful k c := by
  cases hg : x.grant <;> cases withStop <;> simp_all [Standing.Lawful, Standing.released, Standing.releasedGrant]

theorem stopped (h : x.Lawful k c) : x.stopped.Lawful k c := by
  obtain ⟨hshedding, hprotect⟩ := h
  cases hg : x.grant <;> cases hw : x.want <;> simp_all [Standing.Lawful, Standing.stopped]

theorem granted (h : x.Lawful k c) : x.granted.Lawful k c := by
  simp_all [Standing.Lawful, Standing.granted]

theorem restored (h : x.Lawful k c) (c' : Bool) : x.restored.Lawful k c' := by
  simp_all [Standing.Lawful, Standing.restored]

/-- An entry of another kind than the fridge's is not protected and may go into SHEDDING. -/
theorem shedding (h : x.Lawful k c) (hk : k ≠ .fridge) (r : ShedReason) : (x.shedding r).Lawful k c := by
  simp_all [Standing.Lawful, Standing.shedding]

/-- The fridge's entry, shed and at once told that its stop is complete: unprotected, or with CUTOFF asserted. -/
theorem shedding_stopped (h : x.Lawful k c) (hp : x.protect = true → c = true) (r : ShedReason) :
    (x.shedding r).stopped.Lawful k c := by
  cases hw : x.want <;> simp_all [Standing.Lawful, Standing.shedding, Standing.stopped]

theorem shed (h : x.Lawful k true) : x.shed.Lawful k true := by
  simp_all [Standing.Lawful, Standing.shed]

theorem asserted (h : x.Lawful k c) : x.Lawful k true := by
  simp_all [Standing.Lawful]

theorem of_false (h : x.Lawful k false) : x.Lawful k c := by
  simp_all [Standing.Lawful]

theorem flagged (h : x.Lawful k c) {p : Bool} (hp : p = true → k = .fridge) : (x.flagged p).Lawful k true := by
  simp_all [Standing.Lawful, Standing.flagged]

/-- With no protected entry in SHED, the law holds whatever CUTOFF is. -/
theorem cleared (h : x.Lawful k c) (hn : ¬ (x.protect = true ∧ x.grant = .shed)) : x.Lawful k false := by
  simp_all [Standing.Lawful]

end Standing.Lawful

namespace RosterView

/-- The law of R69 for the valid entries, were CUTOFF as `c` says. -/
def LawfulAt (v : RosterView) (c : Bool) : Prop := ∀ i ∈ v.validEntries, (v.standing i).Lawful (v.cfg i).kind c

/-- The law of R69. -/
def Lawful (v : RosterView) : Prop := v.LawfulAt v.cutoff

variable {v w : RosterView} {c : Bool} {i : Nat}

theorem LawfulAt.modify (h : v.LawfulAt c) {f : Standing → Standing}
    (hf : i ∈ v.validEntries → (f (v.standing i)).Lawful (v.cfg i).kind c) : (v.modify i f).LawfulAt c :=
  fun j hj => standing_modify_cases v i j f (fun hij => hij ▸ hf (hij ▸ hj)) (h j hj)

theorem LawfulAt.reslots (h : v.LawfulAt c) (hw : v.Reslots w) : w.LawfulAt c := by
  intro j hj
  rw [hw.standing j, cfg_congr hw.table]
  exact h j (validEntries_congr hw.table ▸ hj)

theorem LawfulAt.ownerMove {k : LoadKind} (h : v.LawfulAt c) (hm : OwnerMove k v w) : w.LawfulAt c := by
  intro j hj
  have htable := ownerMove_table hm
  rw [cfg_congr htable]
  exact ownerMove_standing (P := Standing.Lawful (v.cfg j).kind c) hm (h j (validEntries_congr htable ▸ hj))
    (fun _ => .requested) (fun _ => .stopped) fun b _ hx => hx.released b

theorem Lawful.ownerMove {k : LoadKind} (h : v.Lawful) (hm : OwnerMove k v w) : w.Lawful := by
  unfold Lawful
  rw [ownerMove_cutoff hm]
  exact LawfulAt.ownerMove h hm

/-- The one valid entry of a kind is the first. -/
theorem first_eq_of_oneEach {k : LoadKind} (h : OneEachIn v.table) (hk : k ∈ [LoadKind.heater, .fridge]) (hi : i ∈ v.validEntries)
    (hik : (v.cfg i).kind = k) : v.first k = some i := by
  cases hf : v.first k with
  | none => exact absurd hik (by simpa using List.find?_eq_none.mp hf i hi)
  | some j =>
    obtain ⟨hj, hjk⟩ := mem_of_first hf
    obtain ⟨hi16, hvi⟩ := mem_validEntries.mp hi
    obtain ⟨hj16, hvj⟩ := mem_validEntries.mp hj
    exact congrArg some (h k hk j hj16 i hi16 hvj hjk hvi hik)

theorem modify_modify (v : RosterView) (i : Nat) (f g : Standing → Standing) :
    (v.modify i f).modify i g = v.modify i (g ∘ f) := by
  simp [RosterView.modify, List.modify_modify_eq]

theorem Reslots.modify (h : v.Reslots w) (i : Nat) (f : Standing → Standing) : (v.modify i f).Reslots (w.modify i f) where
  table := h.table
  standings := congrArg (·.modify i f) h.standings
  cutoff := h.cutoff
  served := h.served

/-- The fridge's entry shed, its owner's answer with it. -/
theorem LawfulAt.shedFridge (h : v.LawfulAt c) (hone : OneEachIn v.table) (hi : i ∈ v.validEntries)
    (hk : (v.cfg i).kind = .fridge) (hp : (v.standing i).protect = true → c = true) {r : ShedReason}
    (hw : (v.modify i (Standing.shedding r)).Reslots w) : (w.stopFirst .fridge).LawfulAt c := by
  have hfirst : w.first .fridge = some i := by
    rw [first_congr hw.table]
    exact first_eq_of_oneEach (v := v.modify i (Standing.shedding r)) hone (by simp) hi hk
  have hboth : ((v.modify i (Standing.shedding r)).modify i Standing.stopped).LawfulAt c := by
    rw [modify_modify]
    exact h.modify fun _ => (h i hi).shedding_stopped hp r
  have hstop : w.stopFirst .fridge = w.modify i Standing.stopped := by simp [stopFirst, hfirst]
  rw [hstop]
  exact hboth.reslots (hw.modify i _)

theorem LawfulAt.emergencyOne (h : v.LawfulAt true) (hone : OneEachIn v.table) (hi : i ∈ v.validEntries)
    (hm : EmergencyOne i v w) : w.LawfulAt true := by
  cases hm with
  | owner _ hk hs =>
    exact kept_by_moves (I := fun u => u.LawfulAt true) LawfulAt.ownerMove (h.modify fun _ => (h i hi).shedding hk _) hs
  | fridge _ hk => exact h.shedFridge hone hi hk (fun _ => rfl) ⟨rfl, rfl, rfl, id⟩
  | waiting => exact h.modify fun _ => (h i hi).shed
  | shed => exact h.modify fun _ => h i hi
  | other => exact h

theorem LawfulAt.emergencyPass {is : List Nat} (h : v.LawfulAt true) (hone : OneEachIn v.table)
    (hi : ∀ i ∈ is, i ∈ v.validEntries) (hm : EmergencyPass is v w) : w.LawfulAt true ∧ w.table = v.table := by
  induction hm with
  | nil => exact ⟨h, rfl⟩
  | @cons i is v u w hm _ ih =>
    have htable := emergencyOne_table hm
    obtain ⟨hw, heq⟩ := ih (h.emergencyOne hone (hi i (by simp)) hm) (htable ▸ hone)
      fun j hj => validEntries_congr htable ▸ hi j (by simp [hj])
    exact ⟨hw, heq.trans htable⟩

theorem emergencyPass_cutoff {is : List Nat} (hm : EmergencyPass is v w) : w.cutoff = v.cutoff := by
  induction hm with
  | nil => rfl
  | cons hm _ ih => exact ih.trans (emergencyOne_cutoff hm)

theorem LawfulAt.emergency {v₁ v₂ : RosterView} (h : v.LawfulAt true) (hone : OneEachIn v.table)
    (hon : EmergencyPass (v.inGrant .on) v.emptied v₁) (hwaiting : EmergencyPass (v.inGrant .waiting) v₁ v₂)
    (hshed : EmergencyPass (v.inGrant .shed) v₂ w) : w.LawfulAt true ∧ w.table = v.table := by
  have hin (u : RosterView) (hu : u.table = v.table) (g : Grant) (i : Nat) (hi : i ∈ v.inGrant g) : i ∈ u.validEntries :=
    validEntries_congr hu ▸ (mem_inGrant.mp hi).1
  have hempty : v.emptied.LawfulAt true := h
  obtain ⟨h₁, ht₁⟩ := hempty.emergencyPass hone (hin v.emptied rfl _) hon
  obtain ⟨h₂, ht₂⟩ := h₁.emergencyPass (ht₁ ▸ hone) (hin v₁ ht₁ _) hwaiting
  obtain ⟨h₃, ht₃⟩ := h₂.emergencyPass (ht₂ ▸ ht₁ ▸ hone) (hin v₂ (ht₂.trans ht₁) _) hshed
  exact ⟨h₃, ht₃.trans (ht₂.trans ht₁)⟩

/-! ### Reading the protect flags, and the restores (R69) -/

theorem foldl_table {f : RosterView → Nat → RosterView} (hf : ∀ u i, (f u i).table = u.table) (is : List Nat) (v : RosterView) :
    (is.foldl f v).table = v.table :=
  List.foldlRecOn (motive := fun u => u.table = v.table) is f rfl fun u hu i _ => (hf u i).trans hu

theorem foldl_cutoff {f : RosterView → Nat → RosterView} (hf : ∀ u i, (f u i).cutoff = u.cutoff) (is : List Nat)
    (v : RosterView) : (is.foldl f v).cutoff = v.cutoff :=
  List.foldlRecOn (motive := fun u => u.cutoff = v.cutoff) is f rfl fun u hu i _ => (hf u i).trans hu

@[simp] theorem readProtect_table (v : RosterView) (p : Bool) : (v.readProtect p).table = v.table := by
  unfold readProtect
  exact foldl_table (fun u i => modify_table u i _) _ v

@[simp] theorem readProtect_cutoff (v : RosterView) (p : Bool) : (v.readProtect p).cutoff = v.cutoff := by
  unfold readProtect
  exact foldl_cutoff (fun u i => modify_cutoff u i _) _ v

@[simp] theorem restoreProtected_table (v : RosterView) (i : Nat) : (v.restoreProtected i).table = v.table := by
  unfold restoreProtected
  split <;> rfl

@[simp] theorem restoreProtected_cutoff (v : RosterView) (i : Nat) : (v.restoreProtected i).cutoff = v.cutoff := by
  unfold restoreProtected
  split <;> rfl

@[simp] theorem protectRestored_table (v : RosterView) : v.protectRestored.table = v.table :=
  foldl_table restoreProtected_table _ v

@[simp] theorem protectRestored_cutoff (v : RosterView) : v.protectRestored.cutoff = v.cutoff :=
  foldl_cutoff restoreProtected_cutoff _ v

theorem LawfulAt.readProtect (h : v.LawfulAt true) (p : Bool) : (v.readProtect p).LawfulAt true := by
  have hkept : (v.readProtect p).LawfulAt true ∧ (v.readProtect p).table = v.table := by
    refine List.foldlRecOn (motive := fun u : RosterView => u.LawfulAt true ∧ u.table = v.table) _ _ ⟨h, rfl⟩ fun u hu i _ => ?_
    obtain ⟨hu, htable⟩ := hu
    refine ⟨hu.modify fun hi => (hu i hi).flagged fun hp => ?_, htable⟩
    rw [cfg_congr htable]
    simpa using And.left (by simpa using hp)
  exact hkept.1

theorem restoreProtected_ne {j : Nat} (h : i ≠ j) : (v.restoreProtected i).standing j = v.standing j := by
  unfold restoreProtected
  split
  · exact standing_modify_ne h _
  · rfl

/-- The entry a restore has looked at is not protected and SHED any more. -/
theorem restoreProtected_cleared (v : RosterView) (i : Nat) :
    ¬ (((v.restoreProtected i).standing i).protect = true ∧ ((v.restoreProtected i).standing i).grant = .shed) := by
  unfold restoreProtected
  split
  next h =>
    rw [standing_modify]
    split
    · simp [Standing.restored]
    next hlen =>
      have hidle : v.standing i = Standing.idle := by
        have : v.standings.length ≤ i := by simpa using hlen
        simp [standing, List.getD_eq_getElem?_getD, List.getElem?_eq_none this]
      simp [hidle, Standing.idle]
  next h => exact h

theorem LawfulAt.restoreProtected (h : v.LawfulAt true) (i : Nat) : (v.restoreProtected i).LawfulAt true := by
  unfold RosterView.restoreProtected
  split
  · exact h.modify fun hi => (h i hi).restored _
  · exact h

/-- Restoring the entries of a list clears them, and leaves clear what was. -/
theorem LawfulAt.foldl_restoreProtected (is : List Nat) (h : v.LawfulAt true)
    (hclear : ∀ j ∈ v.validEntries, j ∉ is → ¬ ((v.standing j).protect = true ∧ (v.standing j).grant = .shed)) :
    (is.foldl RosterView.restoreProtected v).LawfulAt false := by
  induction is generalizing v with
  | nil => exact fun j hj => (h j hj).cleared (hclear j hj (by simp))
  | cons i is ih =>
    refine ih (h.restoreProtected i) fun j hj hnot => ?_
    by_cases hij : i = j
    · exact hij ▸ restoreProtected_cleared v i
    · rw [restoreProtected_ne hij]
      exact hclear j (validEntries_congr (v.restoreProtected_table i) ▸ hj) (by simp [hnot, Ne.symm hij])

theorem LawfulAt.protectRestored (h : v.LawfulAt true) : v.protectRestored.LawfulAt false :=
  h.foldl_restoreProtected _ fun _ hj hnot => absurd hj hnot

/-! ### Every move -/

theorem LawfulAt.asserted (h : v.LawfulAt c) : v.LawfulAt true := fun i hi => (h i hi).asserted

theorem LawfulAt.of_false (h : v.LawfulAt false) : v.Lawful := fun i hi => (h i hi).of_false

/-- A table entry replaced: what it was, by another of its kind, or renewed. -/
theorem LawfulAt.put {e : Entry} (h : v.LawfulAt c)
    (hkind : ((v.put i e).cfg i).valid = true → i < 16 → (v.standing i).Lawful ((v.put i e).cfg i).kind c) :
    (v.put i e).LawfulAt c := by
  intro j hj
  obtain ⟨hj16, hvalid⟩ := mem_validEntries.mp hj
  by_cases hij : i = j
  · subst hij
    exact hkind hvalid hj16
  · rw [put_cfg_ne hij] at hvalid ⊢
    exact h j (mem_validEntries.mpr ⟨hj16, hvalid⟩)

/-- Renewed, an entry is at rest, whatever it has become. -/
theorem LawfulAt.renew {e : Entry} (h : v.LawfulAt c) : ((v.put i e).modify i fun _ => Standing.idle).LawfulAt c := by
  intro j hj
  by_cases hij : i = j
  · subst hij
    rw [standing_modify]
    split
    · exact .idle
    next hlen =>
      have : v.standings.length ≤ i := by simpa [RosterView.put] using hlen
      have hidle : v.standing i = Standing.idle := by
        simp [standing, List.getD_eq_getElem?_getD, List.getElem?_eq_none this]
      rw [put_standing, hidle]
      exact .idle
  · obtain ⟨hj16, hvalid⟩ := mem_validEntries.mp hj
    have hcfg : ((v.put i e).modify i fun _ => Standing.idle).cfg j = v.cfg j := put_cfg_ne hij e
    rw [standing_modify_ne hij, put_standing, hcfg]
    exact h j (mem_validEntries.mpr ⟨hj16, hcfg ▸ hvalid⟩)

/-- Every move of the roster keeps at most one HEATER and one FRIDGE entry. -/
theorem oneEach_move (h : OneEachIn v.table) (hm : RosterMove v w) : OneEachIn w.table := by
  cases hm with
  | owner hm => exact ownerMove_table hm ▸ h
  | grant | restore | cutoffAsserts => exact h
  | shed _ _ hs => exact hs.table ▸ h
  | shedFridge _ _ _ hs =>
    rw [stopFirst_table, hs.table]
    exact h
  | emergency _ hon hwaiting hshed =>
    have hpass {is : List Nat} {v w : RosterView} (hm : EmergencyPass is v w) : w.table = v.table := by
      induction hm with
      | nil => rfl
      | cons hm _ ih => exact ih.trans (emergencyOne_table hm)
    rw [hpass hshed, hpass hwaiting, hpass hon]
    exact h
  | read _ p => split <;> simpa using h
  | cutoffClears => simpa using h
  | put hall | renew hall => exact h.set hall
  | restart => exact defaultRoster_oneEach

/-- Every move of the roster keeps the law of R69, where there is one FRIDGE entry at most. -/
theorem Lawful.move (h : v.Lawful) (hone : OneEachIn v.table) (hm : RosterMove v w) : w.Lawful := by
  cases hm with
  | owner hm => exact h.ownerMove hm
  | @grant _ i hg => exact LawfulAt.modify h fun hi => (h i hi).granted
  | @restore _ i hg => exact LawfulAt.modify h fun hi => (h i hi).restored _
  | @shed _ _ i hon hk hs =>
    have hi := (mem_inGrant.mp hon).1
    unfold Lawful
    rw [hs.cutoff]
    exact (LawfulAt.modify h fun _ => (h i hi).shedding hk _).reslots hs.toReslots
  | shedFridge hon hk hp hs =>
    unfold Lawful
    rw [stopFirst_cutoff, hs.cutoff]
    exact LawfulAt.shedFridge h hone (mem_inGrant.mp hon).1 hk (by simp [hp]) hs.toReslots
  | emergency hcutoff hon hwaiting hshed =>
    unfold Lawful at h ⊢
    rw [hcutoff] at h
    rw [emergencyPass_cutoff hshed, emergencyPass_cutoff hwaiting, emergencyPass_cutoff hon]
    exact hcutoff ▸ (h.emergency hone hon hwaiting hshed).1
  | read _ p =>
    have hread := (LawfulAt.asserted h).readProtect p
    split
    next hc =>
      unfold Lawful
      rw [readProtect_cutoff, hc]
      exact hread
    next => exact hread.protectRestored.of_false
  | cutoffAsserts => exact LawfulAt.asserted h
  | cutoffClears => exact (LawfulAt.protectRestored (v := { v with cutoff := false }) (LawfulAt.asserted h)).of_false
  | put _ hvalid hkind =>
    refine LawfulAt.put h fun hv hi => ?_
    rw [hkind hv]
    exact h _ (mem_validEntries.mpr ⟨hi, hvalid ▸ hv⟩)
  | renew => exact LawfulAt.renew h
  | restart => exact fun i _ => by rw [reset_standing]; exact .idle

end RosterView

end Sys2Proof.Machine
end

section
/-! PROOF. What the heater, the fridge and the lights do to the roster is made of owners' moves (chapters 4, 6, 7 and 8). -/

namespace Sys2Proof.Machine

set_option Elab.async false -- one theorem after another: each would otherwise take a thread with its own large stack

/-- `t` is reached from `s` by moves of the owner of a kind, as far as the roster's view goes. -/
def OwnerMoves (k : LoadKind) (s t : State) : Prop := Relation.ReflTransGen (OwnerMove k) s.rosterView t.rosterView

namespace OwnerMoves

variable {k : LoadKind} {s t u : State}

theorem same (h : t.rosterView = s.rosterView) : OwnerMoves k s t := by
  unfold OwnerMoves
  rw [h]

theorem refl : OwnerMoves k s s := same rfl

theorem one (h : OwnerMove k s.rosterView t.rosterView) : OwnerMoves k s t := .single h

theorem trans (h : OwnerMoves k s t) (h' : OwnerMoves k t u) : OwnerMoves k s u := Relation.ReflTransGen.trans h h'

/-- Then a change outside the roster, its table and the accountant. -/
theorem frame (h : OwnerMoves k s t) (hf : u.roster = t.roster ∧ u.tables = t.tables ∧ u.energy = t.energy) :
    OwnerMoves k s u :=
  h.trans (same (State.rosterView_eq hf))

/-- Then an operation outside the roster, its table and the accountant. -/
theorem keep (h : OwnerMoves k s t) (g : State → State)
    (hg : ∀ u, (g u).roster = u.roster ∧ (g u).tables = u.tables ∧ (g u).energy = u.energy := by simp) :
    OwnerMoves k s (g t) :=
  h.frame (hg t)

theorem modHeater (h : OwnerMoves k s t) (f : Heater → Heater) : OwnerMoves k s (t.modHeater f) := h.frame (by simp)

theorem modFridge (h : OwnerMoves k s t) (f : Fridge → Fridge) : OwnerMoves k s (t.modFridge f) := h.frame (by simp)

theorem modRet (h : OwnerMoves k s t) (f : Retention → Retention) : OwnerMoves k s (t.modRet f) := h.frame (by simp)

theorem raise (h : OwnerMoves k s t) (c : NoticeClass) (d : List Byte) : OwnerMoves k s (raise c d t) := h.frame (by simp)

theorem modLights (h : OwnerMoves k s t) (f : Lights → Lights) : OwnerMoves k s (t.modLights f) := h.frame (by simp)

theorem modPanel (h : OwnerMoves k s t) (f : Panel → Panel) : OwnerMoves k s (t.modPanel f) := h.frame (by simp)

theorem modChannel (h : OwnerMoves k s t) (c : Nat) (f : Channel → Channel) : OwnerMoves k s (t.modChannel c f) :=
  h.frame (by simp)

/-- Then what the owner does to the first entry of its kind. -/
theorem onEntry (h : OwnerMoves k s t) {f : Nat → State → State}
    (hf : ∀ i u, u.entryOfKind k = some i → OwnerMoves k u (f i u)) : OwnerMoves k s (onEntry k f t) := by
  unfold Machine.onEntry
  split
  next i hi => exact h.trans (hf i t hi)
  next => exact h

theorem ite {c : Prop} [Decidable c] (h : c → OwnerMoves k s t) (h' : ¬ c → OwnerMoves k s u) :
    OwnerMoves k s (if c then t else u) := by
  split
  next hc => exact h hc
  next hc => exact h' hc

end OwnerMoves

section
variable (k : LoadKind) (i : Nat) (s : State)

theorem request_moves : OwnerMoves k s (request i s) :=
  .one (request_rosterView i s ▸ .request _ i)

theorem stopComplete_moves : OwnerMoves k s (stopComplete i s) :=
  .one (stopComplete_rosterView i s ▸ .stop _ i)

theorem giveUpPlace_moves : OwnerMoves k s (giveUpPlace i s) :=
  .one (.free (giveUpPlace_frees i s))

theorem surgeDone_moves : OwnerMoves k s (surgeDone i s) := by
  rcases surgeDone_rosterView i s with h | h
  · exact .same h
  · exact .one (.free h)

theorem release_moves (withStop : Bool) : OwnerMoves k s (release withStop i s) := by
  rcases release_rosterView withStop i s with ⟨hoff, h⟩ | h
  · exact .one (h ▸ .release withStop hoff)
  · exact .one (.leave withStop h)

end

theorem askSlot_moves {k : LoadKind} {i : Nat} {s : State} (h : s.entryOfKind k = some i) : OwnerMoves k s (askSlot i s) := by
  rcases askSlot_rosterView i s with hs | ⟨hon, hout, hs⟩
  · exact .same hs
  · exact .one (.ask h hon hout hs)

namespace OwnerMoves

variable {k : LoadKind} {s t : State}

theorem thenRequest (h : OwnerMoves k s t) : OwnerMoves k s (Machine.onEntry k request t) :=
  h.onEntry fun i u _ => request_moves k i u

theorem thenStopComplete (h : OwnerMoves k s t) : OwnerMoves k s (Machine.onEntry k stopComplete t) :=
  h.onEntry fun i u _ => stopComplete_moves k i u

theorem thenRelease (h : OwnerMoves k s t) (withStop : Bool) : OwnerMoves k s (Machine.onEntry k (release withStop) t) :=
  h.onEntry fun i u _ => release_moves k i u withStop

theorem thenSurgeDone (h : OwnerMoves k s t) : OwnerMoves k s (Machine.onEntry k surgeDone t) :=
  h.onEntry fun i u _ => surgeDone_moves k i u

theorem thenGiveUpPlace (h : OwnerMoves k s t) : OwnerMoves k s (Machine.onEntry k giveUpPlace t) :=
  h.onEntry fun i u _ => giveUpPlace_moves k i u

theorem thenAskSlot (h : OwnerMoves k s t) : OwnerMoves k s (Machine.onEntry k askSlot t) :=
  h.onEntry fun _ _ => askSlot_moves

/-- Then a release of an entry that is wanted. -/
theorem thenReleaseWanted (h : OwnerMoves k s t) (withStop : Bool) :
    OwnerMoves k s (Machine.onEntry k (fun i u => if (u.live i).want then release withStop i u else u) t) :=
  h.onEntry fun i u _ => .ite (fun _ => release_moves k i u withStop) fun _ => .refl

end OwnerMoves

/-! ### The heater (chapter 6) -/

theorem heaterAsk_moves (s : State) : OwnerMoves .heater s (heaterAsk s) :=
  .ite (fun _ => OwnerMoves.refl.thenAskSlot) fun _ => .refl

theorem heaterStart_moves (s : State) : OwnerMoves .heater s (heaterStart s) :=
  .ite (fun _ => OwnerMoves.refl.thenRequest.frame (by simp)) fun _ => .refl

theorem endStopping_moves (s : State) : OwnerMoves .heater s (endStopping s) := by
  have hstart := (OwnerMoves.refl (k := .heater) (s := s)).modHeater fun h => { h with purge := none }
  simp only [endStopping]
  split
  · exact hstart.thenRequest.modHeater _
  · exact hstart.thenStopComplete.modHeater _
  · split
    · exact hstart.thenStopComplete.modHeater _
    · exact hstart.thenStopComplete.thenRequest.modHeater _
  · exact (hstart.thenRelease false).modHeater _
  · exact hstart.modHeater _

theorem endRetry_moves (s : State) : OwnerMoves .heater s (endRetry s) := by
  have hstart := (OwnerMoves.refl (k := .heater) (s := s)).modHeater fun h => { h with purge := none }
  exact .ite (fun _ => hstart.modHeater _) fun _ => (hstart.thenRelease false).modHeater _

theorem endLockoutPurge_moves (s : State) : OwnerMoves .heater s (endLockoutPurge s) :=
  OwnerMoves.refl.thenStopComplete.modHeater _

theorem heaterAtIdle_moves (s : State) : OwnerMoves .heater s (heaterAtIdle s) := by
  unfold heaterAtIdle
  refine .ite (fun _ => ?_) fun _ => .refl
  split
  · exact endStopping_moves s
  · exact endRetry_moves s
  · exact .ite (fun _ => endLockoutPurge_moves s) fun _ => .refl
  · exact .refl

theorem heaterTests_moves (s : State) : OwnerMoves .heater s (heaterTests s) :=
  (heaterAtIdle_moves s).trans ((heaterStart_moves _).trans (heaterAsk_moves _))

theorem demandEnds_moves (s : State) : OwnerMoves .heater s (demandEnds s) := by
  have hstop : OwnerMoves .heater s (commandStop .stopping s) := OwnerMoves.refl.frame (by simp)
  unfold demandEnds
  split
  · exact (OwnerMoves.refl.thenRelease false).frame (by simp)
  · exact hstop.thenRelease true
  · exact hstop.thenRelease true
  · exact OwnerMoves.refl.thenReleaseWanted true
  · exact .refl

@[simp] theorem takeLevel_rosterView (s : State) : (takeLevel s).rosterView = s.rosterView :=
  State.rosterView_eq (by simp)

@[simp] theorem remarked_rosterView (s : State) : s.remarked.rosterView = s.rosterView :=
  State.rosterView_eq (by simp [State.remarked])

theorem heaterRefresh_eq (s : State) :
    heaterRefresh s = heaterDuty (heaterTests (takeLevel
      (if ((heaterMarks s).heater.demand && !(heaterMarks s).demandNow) = true then demandEnds s.remarked else s.remarked))) := rfl

theorem heaterRefresh_moves (s : State) : OwnerMoves .heater s (heaterRefresh s) := by
  have hmarks : OwnerMoves .heater s s.remarked := .same (remarked_rosterView s)
  rw [heaterRefresh_eq]
  refine OwnerMoves.trans ?_ ((heaterTests_moves _).trans (.same (heaterDuty_rosterView _)))
  refine OwnerMoves.trans ?_ (.same (takeLevel_rosterView _))
  exact .ite (fun _ => hmarks.trans (demandEnds_moves _)) fun _ => hmarks

theorem failing_moves (s : State) (nodeFault : Bool) : OwnerMoves .heater s (s.failing nodeFault) := by
  have hstopped : OwnerMoves .heater s s.stopped := OwnerMoves.refl.frame (by simp [State.stopped])
  have hgiven : OwnerMoves .heater s s.givenBack := .ite (fun _ => hstopped.thenSurgeDone) fun _ => hstopped
  exact .ite (fun _ => hgiven.raise _ _) fun _ => hgiven

theorem heaterFails_moves (nodeFault : Bool) (s : State) : OwnerMoves .heater s (heaterFails nodeFault s) := by
  rw [heaterFails_eq]
  refine .ite (fun _ => ?_) fun _ => failing_moves s nodeFault
  exact ((((failing_moves s nodeFault).thenRelease true).raise _ _).modHeater _).modRet _

theorem startSucceeds_moves (s : State) : OwnerMoves .heater s (startSucceeds s) :=
  (((OwnerMoves.refl.modHeater _).thenSurgeDone).modRet _).modHeater _

theorem heaterEdge_moves (s : State) : OwnerMoves .heater s (heaterEdge s) := by
  unfold heaterEdge
  split
  · exact OwnerMoves.refl.modHeater _
  · exact OwnerMoves.refl.modHeater _
  · exact startSucceeds_moves s
  · exact heaterFails_moves false s
  · exact heaterFails_moves true s
  · exact .ite (fun _ => heaterFails_moves false s) fun _ => .refl
  · exact .refl
  · exact heaterFails_moves true s
  · exact heaterFails_moves false s
  · exact .refl

theorem heaterPhase_moves (s : State) : OwnerMoves .heater s (heaterPhase s) := by
  rw [heaterPhase_eq]
  exact (heaterEdge_moves s).trans (heaterRefresh_moves _)

theorem heaterGranted_moves (s : State) : OwnerMoves .heater s (heaterGranted s) :=
  .ite (fun _ => heaterRefresh_moves s) fun _ =>
    ((OwnerMoves.refl.thenRelease false).frame (by simp)).trans (heaterRefresh_moves _)

theorem heaterShed_moves (s : State) : OwnerMoves .heater s (heaterShed s) := by
  unfold heaterShed
  refine OwnerMoves.trans ?_ (heaterRefresh_moves _)
  split
  · exact OwnerMoves.refl.frame (by simp)
  · exact OwnerMoves.refl.frame (by simp)
  · exact OwnerMoves.refl.frame (by simp)
  · exact OwnerMoves.refl.thenStopComplete
  · exact OwnerMoves.refl.thenStopComplete
  · exact .refl

theorem heaterNodeLeft_moves (s : State) : OwnerMoves .heater s (heaterNodeLeft s) := by
  have hstop : OwnerMoves .heater s (commandStop .stopping s) := OwnerMoves.refl.frame (by simp)
  unfold heaterNodeLeft
  refine OwnerMoves.trans ?_ (heaterRefresh_moves _)
  split
  · exact hstop.thenRelease true
  · exact hstop.thenRelease true
  · exact (OwnerMoves.refl.thenRelease true).frame (by simp)
  · exact (OwnerMoves.refl.thenRelease false).frame (by simp)
  · exact .refl

theorem purgeExpires_moves (s : State) : OwnerMoves .heater s (purgeExpires s) := by
  have hstart := (OwnerMoves.refl (k := .heater) (s := s)).modHeater fun h => { h with purge := none }
  have hraised (c : Prop) [Decidable c] (d : List Byte) : OwnerMoves .heater s
      (if c then raise .heaterFault d (s.modHeater fun h => { h with purge := none })
        else s.modHeater fun h => { h with purge := none }) :=
    .ite (fun _ => hstart.raise _ _) fun _ => hstart
  simp only [purgeExpires]
  refine OwnerMoves.trans ?_ (heaterRefresh_moves _)
  split
  · refine .ite (fun _ => ?_) fun _ => ((hraised _ _).thenRelease false).modHeater _
    refine .ite (fun _ => (hraised _ _).thenStopComplete.modHeater _) fun _ => ?_
    exact .ite (fun _ => (hraised _ _).thenStopComplete.thenRequest.modHeater _) fun _ =>
      (hraised _ _).thenStopComplete.modHeater _
  · exact ((hraised _ _).thenRelease false).modHeater _
  · refine OwnerMoves.modHeater ?_ _
    exact .ite (fun _ => (hraised _ _).thenStopComplete) fun _ => (hraised _ _).thenRelease false
  · exact hraised _ _

theorem levelHoldExpires_moves (s : State) : OwnerMoves .heater s (levelHoldExpires s) :=
  (OwnerMoves.refl.modHeater _).trans (.same ((heaterDuty_rosterView _).trans (takeLevel_rosterView _)))

theorem heatReset_moves (s : State) : OwnerMoves .heater s (heatReset s) :=
  .ite (fun _ => OwnerMoves.trans (OwnerMoves.refl.frame (by simp)) (heaterRefresh_moves _)) fun _ => .refl

theorem heatSet_moves (v : Int) (s : State) : OwnerMoves .heater s (heatSet v s) :=
  OwnerMoves.trans (OwnerMoves.refl.frame (by simp)) (heaterRefresh_moves _)

theorem openWindow_moves (n : Nat) (s : State) : OwnerMoves .heater s (openWindow n s) :=
  OwnerMoves.trans (OwnerMoves.refl.frame (by simp)) (heaterRefresh_moves _)

theorem closeWindow_moves (s : State) : OwnerMoves .heater s (closeWindow s) :=
  OwnerMoves.trans (OwnerMoves.refl.frame (by simp)) (heaterRefresh_moves _)

theorem heaterMinute_moves (s : State) : OwnerMoves .heater s (heaterMinute s) :=
  OwnerMoves.trans (OwnerMoves.refl.frame (by simp)) (heaterRefresh_moves _)

theorem manualExpires_moves (s : State) : OwnerMoves .heater s (manualExpires s) :=
  OwnerMoves.trans (OwnerMoves.refl.frame (by simp)) (heaterRefresh_moves _)

theorem ignitionExpires_moves (s : State) : OwnerMoves .heater s (ignitionExpires s) :=
  .ite (fun _ => (heaterFails_moves false s).trans (heaterRefresh_moves _)) fun _ => .refl

/-! ### The fridge (chapter 7) -/

theorem fridgeWant_moves (s : State) : OwnerMoves .fridge s (fridgeWant s) := by
  have hwant := (OwnerMoves.refl (k := .fridge) (s := s)).modFridge fun f => { f with state := .want }
  have hasked (c : Prop) [Decidable c] : OwnerMoves .fridge s
      (if c then onEntry .fridge askSlot (s.modFridge fun f => { f with state := .want })
        else s.modFridge fun f => { f with state := .want }) :=
    .ite (fun _ => hwant.thenAskSlot) fun _ => hwant
  exact .ite (fun _ => (hasked _).modFridge _) fun _ => hasked _

theorem fridgeCutIn_moves (s : State) : OwnerMoves .fridge s (fridgeCutIn s) := by
  unfold fridgeCutIn
  split
  · exact .ite (fun _ => fridgeWant_moves s) fun _ => .refl
  · exact .refl

theorem fridgeChecks_moves (s : State) : OwnerMoves .fridge s (fridgeChecks s) :=
  .ite (fun _ => fridgeWant_moves s) fun _ => .refl

theorem fridgeTo_moves (st : FridgeState) (s : State) : OwnerMoves .fridge s (fridgeTo st s) :=
  OwnerMoves.refl.frame (by simp)

theorem fridgeHeld_moves (s : State) : OwnerMoves .fridge s (fridgeHeld s) :=
  .ite (fun _ => (fridgeTo_moves .idleCold s).thenGiveUpPlace) fun _ => .refl

theorem fridgeCutOut_moves (s : State) : OwnerMoves .fridge s (fridgeCutOut s) :=
  .ite (fun _ => fridgeTo_moves .idleCold s) fun _ => .refl

theorem fridgeTests_moves (s : State) : OwnerMoves .fridge s (fridgeTests s) := by
  unfold fridgeTests
  split
  · exact fridgeCutIn_moves s
  · exact fridgeHeld_moves s
  · exact fridgeCutOut_moves s
  · exact .refl

theorem fridgeBegin_moves (s : State) : OwnerMoves .fridge s (fridgeBegin s) :=
  (OwnerMoves.refl.thenRequest.trans (fridgeTo_moves _ _)).trans (fridgeTests_moves _)

theorem setProtect_moves (v : Bool) (s : State) : OwnerMoves .fridge s (setProtect v s) :=
  OwnerMoves.refl.frame (by simp)

theorem fridgeStop_moves (st : FridgeState) (s : State) : OwnerMoves .fridge s (fridgeStop st s) :=
  (((fridgeTo_moves st s).thenGiveUpPlace.thenReleaseWanted false).trans (setProtect_moves false _)).modFridge _

theorem fridgeFault_moves (c : FridgeCause) (s : State) : OwnerMoves .fridge s (fridgeFault c s) :=
  (fridgeStop_moves .fault s).modFridge _

theorem fridgeFaultTests_moves (s : State) : OwnerMoves .fridge s (fridgeFaultTests s) := by
  have hcleared : OwnerMoves .fridge s (s.modFridge fun f => { f with cause := none }) := OwnerMoves.refl.frame (by simp)
  refine .ite (fun _ => ?_) fun _ => ?_
  · exact .ite (fun _ => OwnerMoves.refl.frame (by simp)) fun _ => fridgeFault_moves .nodeFault s
  · refine .ite (fun _ => ?_) fun _ => .refl
    exact .ite (fun _ => hcleared.trans (fridgeBegin_moves _)) fun _ => hcleared.trans (fridgeTo_moves .off _)

theorem fridgeNews_moves (s : State) : OwnerMoves .fridge s (fridgeNews s) :=
  (fridgeFaultTests_moves s).trans (fridgeChecks_moves _)

theorem fridgeRefresh_moves (s : State) : OwnerMoves .fridge s (fridgeRefresh s) :=
  (fridgeFaultTests_moves s).trans ((fridgeTests_moves _).trans (fridgeChecks_moves _))

theorem fridgeProtectTest_moves (s : State) : OwnerMoves .fridge s (fridgeProtectTest s) :=
  OwnerMoves.refl.frame (by simp)

theorem fridgeMessage_moves (s : State) : OwnerMoves .fridge s (fridgeMessage s) :=
  (fridgeRefresh_moves s).trans (fridgeProtectTest_moves _)

theorem fridgeNodeLeft_moves (s : State) : OwnerMoves .fridge s (fridgeNodeLeft s) := by
  refine OwnerMoves.trans ?_ (fridgeNews_moves _)
  exact .ite (fun _ => fridgeFault_moves .nodeLost s) fun _ => .refl

theorem setFridgeMode_moves (on : Bool) (s : State) : OwnerMoves .fridge s (setFridgeMode on s) := by
  have hset : OwnerMoves .fridge s (s.modFridge fun f => { f with on := on }) := OwnerMoves.refl.frame (by simp)
  refine .ite (fun _ => .refl) fun _ => .ite (fun _ => ?_) fun _ => ?_
  · exact .ite (fun _ => hset.trans (fridgeBegin_moves _)) fun _ => hset
  · exact .ite (fun _ => hset.trans (fridgeStop_moves .off _)) fun _ => hset

theorem fridgeSet_moves (v : Int) (s : State) : OwnerMoves .fridge s (fridgeSet v s) :=
  (OwnerMoves.refl.frame (by simp)).trans (fridgeRefresh_moves _)

theorem fridgeTick_moves (surplus : Bool) (s : State) : OwnerMoves .fridge s (fridgeTick surplus s) :=
  (OwnerMoves.refl.frame (by simp)).trans (fridgeRefresh_moves _)

theorem minimumOnExpires_moves (s : State) : OwnerMoves .fridge s (minimumOnExpires s) :=
  (OwnerMoves.refl.frame (by simp)).trans (fridgeTests_moves _)

theorem minimumOffExpires_moves (s : State) : OwnerMoves .fridge s (minimumOffExpires s) :=
  (OwnerMoves.refl.frame (by simp)).trans (fridgeChecks_moves _)

theorem surgeHoldExpires_moves (s : State) : OwnerMoves .fridge s (surgeHoldExpires s) :=
  OwnerMoves.thenSurgeDone (OwnerMoves.refl.frame (by simp))

theorem protectExpires_moves (s : State) : OwnerMoves .fridge s (protectExpires s) :=
  (OwnerMoves.refl.frame (by simp)).trans (setProtect_moves _ _)

theorem fridgeStartUp_moves (s : State) : OwnerMoves .fridge s (fridgeStartUp s) := by
  have hset (b : Bool) : OwnerMoves .fridge s
      (s.modFridge fun f => { f with on := b, setPoint := s.climate.fridgeSet, minOff := some 0 }) := OwnerMoves.refl.frame (by simp)
  exact .ite (fun _ => (hset _).trans (fridgeBegin_moves _)) fun _ => hset _

/-- A shed of the fridge's entry is answered at once by a stop complete (R137). -/
theorem fridgeShed_rosterView (s : State) : (fridgeShed s).rosterView = s.rosterView.stopFirst .fridge := by
  have hstop (t : State) (ht : t.rosterView = s.rosterView) :
      (onEntry .fridge stopComplete t).rosterView = s.rosterView.stopFirst .fridge := by
    unfold onEntry RosterView.stopFirst
    rw [State.entryOfKind_eq_view, ht]
    cases s.rosterView.first .fridge with
    | none => exact ht
    | some i => exact (stopComplete_rosterView i t).trans (by rw [ht])
  refine hstop _ ?_
  split
  · exact State.rosterView_eq (by simp)
  · rfl

/-! ### The lights (chapter 8) -/

theorem OwnerMoves.forEach {k : LoadKind} {s t : State} (h : OwnerMoves k s t) (is : List Nat) {f : Nat → State → State}
    (hf : ∀ i u, OwnerMoves k u (f i u)) : OwnerMoves k s (t.forEach is f) := by
  unfold State.forEach
  induction is generalizing t with
  | nil => exact h
  | cons i is ih => exact ih (h.trans (hf i t))

theorem lightTest_moves (i : Nat) (s : State) : OwnerMoves .lights s (lightTest i s) := by
  have hduty : OwnerMoves .lights s (setDuty i (s.lightDuty i) s) := .same (by simp)
  refine .ite (fun _ => .ite (fun _ => hduty) fun _ => hduty.trans (request_moves _ i _)) fun _ => ?_
  exact .ite (fun _ => hduty.trans (release_moves _ i _ false)) fun _ => hduty

theorem OwnerMoves.lightTests {s t : State} (h : OwnerMoves .lights s t) : OwnerMoves .lights s (lightTests t) :=
  h.forEach _ lightTest_moves

theorem sceneAction_moves (n : Nat) (s : State) : OwnerMoves .lights s (sceneAction n s) :=
  (OwnerMoves.refl.forEach channels fun _ _ => .ite (fun _ => OwnerMoves.refl.modChannel _ _) fun _ => .refl).lightTests

theorem lightsOff_moves (s : State) : OwnerMoves .lights s (lightsOff s) :=
  (OwnerMoves.refl.forEach channels fun _ _ => OwnerMoves.refl.modChannel _ _).lightTests

theorem lightStep_moves (d : Int) (s : State) : OwnerMoves .lights s (lightStep d s) :=
  (OwnerMoves.refl.forEach channels fun _ _ => .ite (fun _ => OwnerMoves.refl.modChannel _ _) fun _ => .refl).lightTests

theorem sunriseStart_moves (lead : Nat) (s : State) : OwnerMoves .lights s (sunriseStart lead s) := by
  refine OwnerMoves.lightTests (OwnerMoves.modLights (OwnerMoves.forEach .refl channels fun _ _ => ?_) _)
  exact .ite (fun _ => OwnerMoves.refl.modChannel _ _) fun _ => .refl

theorem cycleStep_moves (s : State) : OwnerMoves .lights s (cycleStep s) :=
  ((((OwnerMoves.refl.modLights _).forEach channels fun _ _ => OwnerMoves.refl.modChannel _ _)).modPanel _).lightTests

end Sys2Proof.Machine
end

section
/-! PROOF. The rest clock, the actions, the signals and the berth loop move the roster by its owners' moves only (chapters 1 to 3, 8 and
9). -/

namespace Sys2Proof.Machine

set_option Elab.async false -- one theorem after another: each would otherwise take a thread with its own large stack

/-- `t` is reached from `s` by moves of the roster. -/
def RosterMoves (s t : State) : Prop := Relation.ReflTransGen RosterMove s.rosterView t.rosterView

theorem OwnerMoves.roster {k : LoadKind} {s t : State} (h : OwnerMoves k s t) : RosterMoves s t :=
  Relation.ReflTransGen.mono (fun _ _ => RosterMove.owner) _ _ h

namespace RosterMoves

variable {s t u : State}

theorem same (h : t.rosterView = s.rosterView) : RosterMoves s t := by
  unfold RosterMoves
  rw [h]

theorem refl : RosterMoves s s := same rfl

theorem one (h : RosterMove s.rosterView t.rosterView) : RosterMoves s t := .single h

theorem trans (h : RosterMoves s t) (h' : RosterMoves t u) : RosterMoves s u := Relation.ReflTransGen.trans h h'

/-- Then moves of an owner. -/
theorem owner {k : LoadKind} (h : RosterMoves s t) (h' : OwnerMoves k t u) : RosterMoves s u := h.trans h'.roster

/-- Then a change outside the roster, its table and the accountant. -/
theorem frame (h : RosterMoves s t) (hf : u.roster = t.roster ∧ u.tables = t.tables ∧ u.energy = t.energy) : RosterMoves s u :=
  h.trans (same (State.rosterView_eq hf))

/-- Then an operation outside the roster, its table and the accountant. -/
theorem keep (h : RosterMoves s t) (g : State → State)
    (hg : ∀ u, (g u).roster = u.roster ∧ (g u).tables = u.tables ∧ (g u).energy = u.energy := by simp) :
    RosterMoves s (g t) :=
  h.frame (hg t)

theorem ite {c : Prop} [Decidable c] (h : c → RosterMoves s t) (h' : ¬ c → RosterMoves s u) :
    RosterMoves s (if c then t else u) := by
  split
  next hc => exact h hc
  next hc => exact h' hc

theorem forEach (h : RosterMoves s t) (is : List Nat) {f : Nat → State → State} (hf : ∀ i u, RosterMoves u (f i u)) :
    RosterMoves s (t.forEach is f) := by
  unfold State.forEach
  induction is generalizing t with
  | nil => exact h
  | cons i is ih => exact ih (h.trans (hf i t))

theorem raise (h : RosterMoves s t) (c : NoticeClass) (d : List Byte) : RosterMoves s (raise c d t) := h.frame (by simp)

theorem modSetup (h : RosterMoves s t) (f : Setup → Setup) : RosterMoves s (t.modSetup f) := h.frame (by simp)

/-- Then an operation unless a condition holds. -/
theorem iteElse {c : Prop} {_ : Decidable c} (h : RosterMoves s t) {f : State → State} (hf : ∀ u, RosterMoves u (f u)) :
    RosterMoves s (if c then t else f t) := by
  split
  · exact h
  · exact h.trans (hf t)

/-- Then the standby conditions looked at. -/
theorem qualify (h : RosterMoves s t) : RosterMoves s (qualify t) := h.keep Machine.qualify

end RosterMoves

/-! ### The wake minute, the rest record and start-up: the heater's window alone moves the roster (R114, R176) -/

theorem movePreheat_moves (w : Option Nat) (s : State) : OwnerMoves .heater s (movePreheat w s) := by
  unfold movePreheat
  split
  · refine .ite (fun _ => ?_) fun _ => OwnerMoves.refl.modRet _
    exact .ite (fun _ => (OwnerMoves.refl.modRet _).trans (closeWindow_moves _)) fun _ =>
      (OwnerMoves.refl.modRet _).trans (openWindow_moves _ _)
  · exact .ite (fun _ => .refl) fun _ => OwnerMoves.refl.modRet _
  · exact .refl

theorem workOutWake_moves (s : State) : OwnerMoves .heater s (workOutWake s) := by
  refine .ite (fun _ => .refl) fun _ => ?_
  refine (OwnerMoves.keep (OwnerMoves.keep (OwnerMoves.keep ?_ formWake) formPreheat) formSunrise)
  exact OwnerMoves.trans (OwnerMoves.refl.frame (by simp)) (movePreheat_moves _ _)

theorem markServed_moves (w : Warning) (s : State) : OwnerMoves .heater s (markServed w s) := by
  unfold markServed
  split
  · exact OwnerMoves.refl.frame (by simp)
  · exact OwnerMoves.refl.frame (by simp)
  · exact OwnerMoves.trans (OwnerMoves.refl.frame (by simp)) (workOutWake_moves _)
  · exact .refl

theorem activate_moves (w : Warning) (s : State) : OwnerMoves .heater s (activate w s) :=
  OwnerMoves.trans (OwnerMoves.refl.frame (by simp)) (markServed_moves _ _)

theorem checkComplete_moves (s : State) : OwnerMoves .heater s (checkComplete s) := by
  refine .ite (fun _ => OwnerMoves.trans (OwnerMoves.refl.frame (by simp)) (workOutWake_moves _)) fun _ => ?_
  exact .ite (fun _ => OwnerMoves.keep (OwnerMoves.trans (OwnerMoves.refl.frame (by simp)) (workOutWake_moves _)) lightRestChanged)
    fun _ => .refl

theorem openRest_moves (s : State) : OwnerMoves .heater s (openRest s) :=
  OwnerMoves.keep (OwnerMoves.trans (OwnerMoves.refl.frame (by simp)) (workOutWake_moves _)) lightRestOpened

theorem confirmRest_moves (s : State) : OwnerMoves .heater s (confirmRest s) := by
  refine .ite (fun _ => ?_) fun _ => .refl
  refine OwnerMoves.trans (OwnerMoves.keep (OwnerMoves.trans ?_ (checkComplete_moves _)) formLeads) (workOutWake_moves _)
  exact OwnerMoves.refl.frame (by simp)

theorem closeRest_moves (s : State) : OwnerMoves .heater s (closeRest s) :=
  OwnerMoves.trans (OwnerMoves.refl.frame (by simp [State.ite_frame])) (workOutWake_moves _)

/-- The retained warnings as start-up queues them again (R182). -/
def State.requeued (s : State) : State :=
  let s := (s.modRest fun r => { r with wake := State.heldWake s }).modRet fun r =>
    { r with queue := r.queue.filter fun w => w.kind != .breakSoon }
  match s.ret.active with
  | some a =>
    let s := s.modRet fun r => { r with active := none }
    if a.kind = .breakSoon then s
    else enqueue { kind := a.kind, index := a.index, due := s.ret.clock, figure := a.entryFigure } s
  | none => s

/-- A retained preheat as start-up takes it up again (R182). -/
def State.preheatResumed (s : State) : State :=
  match s.ret.preheat with
  | some p =>
    if p.isOpen ∧ s.ret.clock < p.wake + 30 then openWindow (p.wake + 30) s
    else s.modRet fun r => { r with preheat := some { p with isOpen := false } }
  | none => s

theorem restStartUp_eq (s : State) :
    restStartUp s = refreshIdle (judgeStale (lightRestChanged (workOutWake s.requeued).preheatResumed)) := rfl

theorem requeued_moves (s : State) : OwnerMoves .heater s s.requeued := by
  unfold State.requeued
  dsimp only
  split
  · exact OwnerMoves.refl.frame (by simp [State.ite_frame])
  · exact OwnerMoves.refl.frame (by simp)

theorem preheatResumed_moves (s : State) : OwnerMoves .heater s s.preheatResumed := by
  unfold State.preheatResumed
  split
  · exact .ite (fun _ => openWindow_moves _ s) fun _ => OwnerMoves.refl.modRet _
  · exact .refl

theorem restStartUp_moves (s : State) : OwnerMoves .heater s (restStartUp s) := by
  rw [restStartUp_eq]
  have hfront := (requeued_moves s).trans ((workOutWake_moves _).trans (preheatResumed_moves _))
  exact ((hfront.keep lightRestChanged).keep judgeStale).keep refreshIdle

/-! ### The due sweep, the minute and the news (R161 to R181) -/

theorem dealWith_moves (w : Warning) (s : State) : RosterMoves s (dealWith w s) := by
  unfold dealWith
  split
  · exact (OwnerMoves.trans (OwnerMoves.refl.frame (by simp)) (openWindow_moves _ _)).roster
  · exact (OwnerMoves.trans (OwnerMoves.refl.frame (by simp)) (sunriseStart_moves _ _)).roster
  · exact (OwnerMoves.trans (OwnerMoves.refl.keep displace) (activate_moves w _)).roster

theorem sweepN_moves (n : Nat) (s : State) : RosterMoves s (sweepN n s) := by
  induction n generalizing s with
  | zero => exact .refl
  | succ n ih =>
    unfold sweepN
    split
    · exact (RosterMoves.trans (RosterMoves.refl.frame (by simp)) (dealWith_moves _ _)).trans (ih _)
    · exact .refl

theorem restEnd_moves (s : State) : RosterMoves s (restEnd s) :=
  RosterMoves.keep (.ite (fun _ => sweepN_moves 32 s) fun _ => .refl) refreshIdle

/-- Then the end of a handling of the rest clock. -/
theorem RosterMoves.restEnd {s t : State} (h : RosterMoves s t) : RosterMoves s (restEnd t) := h.trans (restEnd_moves t)

theorem restMinute_moves (s : State) : RosterMoves s (restMinute s) := by
  refine RosterMoves.restEnd (RosterMoves.keep (RosterMoves.keep ?_ refreshIdle) formPreheat)
  exact (OwnerMoves.trans (OwnerMoves.refl.frame (by simp)) (checkComplete_moves _)).roster

/-- What a store into DRIVER_ACTIVITY makes of the rest (R165, R168, R169). -/
def State.restFollowed (s : State) : State :=
  if (s.signal 0).value = 0 then (if s.restOpen then confirmRest s else openRest s)
  else if s.restOpen then closeRest s
  else s

theorem restFollowed_moves (s : State) : OwnerMoves .heater s s.restFollowed :=
  .ite (fun _ => .ite (fun _ => confirmRest_moves s) fun _ => openRest_moves s) fun _ =>
    .ite (fun _ => closeRest_moves s) fun _ => .refl

theorem activityStored_moves (s : State) : RosterMoves s (activityStored s) := by
  have hleft : OwnerMoves .heater s (if (s.rest.driving && !s.drive) = true then leaveDrive s else s) :=
    .ite (fun _ => OwnerMoves.refl.keep leaveDrive) fun _ => .refl
  have hfollowed := hleft.trans (restFollowed_moves _)
  refine RosterMoves.restEnd (RosterMoves.keep ?_ judgeStale)
  have hdriving := hfollowed.roster.keep fun u => u.modRest fun r => { r with driving := true }
  exact .ite (fun _ => hdriving.keep formBreaks) fun _ => hfollowed.roster

theorem activityLost_moves (s : State) : RosterMoves s (activityLost s) := by
  refine RosterMoves.restEnd (RosterMoves.keep ?_ judgeStale)
  exact .ite (fun _ => RosterMoves.refl.keep leaveDrive) fun _ => .refl

theorem remainingStored_moves (formsNow : Bool) (s : State) : RosterMoves s (remainingStored formsNow s) :=
  RosterMoves.restEnd (.ite (fun _ => RosterMoves.refl.keep formBreaks) fun _ => .refl)

theorem timeStored_moves (s : State) : RosterMoves s (timeStored s) := by
  refine RosterMoves.restEnd ?_
  split
  · exact .ite (fun _ => RosterMoves.refl.frame (by simp)) fun _ => .refl
  · exact .refl

theorem ignitionStored_moves (s : State) : RosterMoves s (ignitionStored s) :=
  RosterMoves.restEnd (.ite (fun _ => RosterMoves.refl.keep (endKinds [.wake])) fun _ => .refl)

theorem restProfile_moves (p : Nat) (s : State) : RosterMoves s (restProfile p s) := by
  refine RosterMoves.restEnd (RosterMoves.keep (RosterMoves.owner ?_ (workOutWake_moves _)) formPreheat)
  refine RosterMoves.keep (RosterMoves.keep ?_ formLeads) formBreaks
  refine .ite (fun _ => ?_) fun _ => RosterMoves.refl.frame (by simp)
  exact (OwnerMoves.trans (OwnerMoves.refl.frame (by simp)) (checkComplete_moves _)).roster

theorem alarmSet_moves (m : Nat) (s : State) : RosterMoves s (alarmSet m s) :=
  RosterMoves.restEnd (OwnerMoves.trans (OwnerMoves.refl.frame (by simp)) (workOutWake_moves _)).roster

theorem acknowledge_moves (s : State) : RosterMoves s (acknowledge s) :=
  RosterMoves.restEnd (RosterMoves.refl.keep endActive)

theorem repeatExpires_moves (s : State) : RosterMoves s (repeatExpires s) := by
  refine RosterMoves.restEnd ?_
  split
  · exact .ite (fun _ => RosterMoves.refl.frame (by simp)) fun _ => RosterMoves.refl.frame (by simp)
  · exact .refl

theorem windowClosed_moves (s : State) : RosterMoves s (windowClosed s) :=
  RosterMoves.restEnd (RosterMoves.refl.frame (by simp))

theorem preheatNews_moves (s : State) : RosterMoves s (preheatNews s) :=
  RosterMoves.restEnd (RosterMoves.refl.keep formPreheat)

theorem heaterInputs_moves (s : State) : RosterMoves s (heaterInputs s) := by
  unfold heaterInputs
  refine RosterMoves.trans (.ite (fun _ => .refl) fun _ => ?_) (heaterRefresh_moves _).roster
  exact RosterMoves.trans (RosterMoves.refl.frame (by simp)) (preheatNews_moves _)

theorem heatModeAction_moves (n : Nat) (s : State) : RosterMoves s (heatModeAction n s) := by
  have hset : OwnerMoves .heater s (setHeatMode n s) := OwnerMoves.refl.keep (setHeatMode n)
  exact .ite (fun _ => (hset.trans (closeWindow_moves _)).roster.trans (windowClosed_moves _)) fun _ =>
    (hset.trans (heaterRefresh_moves _)).roster

theorem windowExpires_moves (s : State) : RosterMoves s (windowExpires s) :=
  (closeWindow_moves s).roster.trans (windowClosed_moves _)

theorem firstSweep_moves (s : State) : RosterMoves s (firstSweep s) :=
  .ite (fun _ => .refl) fun _ => RosterMoves.restEnd (RosterMoves.refl.frame (by simp))

end Sys2Proof.Machine
end

section
/-! PROOF. The outlets, the actions, the signals and the berth loop's owners move the roster by its moves only (chapters 1 to 4). -/

namespace Sys2Proof.Machine

set_option Elab.async false -- one theorem after another: each would otherwise take a thread with its own large stack

/-! ### Outlets and actions (R52, R78, R79) -/

theorem outletApply_moves (o : Nat) (s : State) : RosterMoves s (outletApply o s) := by
  unfold outletApply
  split
  next i _ => exact .ite (fun _ => (request_moves .outlet i s).roster) fun _ => (release_moves .outlet i s false).roster
  next => exact .refl

theorem setOutlet_moves (o : Nat) (on : Bool) (s : State) : RosterMoves s (setOutlet o on s) :=
  RosterMoves.trans (t := s.modRoster fun r => { r with outlets := r.outlets.set o on }) (.same rfl) (outletApply_moves o _)

theorem outletLost_moves (p : Nat) (s : State) : RosterMoves s (outletLost p s) :=
  (setOutlet_moves _ _ _).trans (setOutlet_moves _ _ _)

theorem heatStep_moves (d : Int) (s : State) : OwnerMoves .heater s (heatStep d s) :=
  heatSet_moves _ s

theorem perform_moves (code : Nat) (a : Int) (s : State) : RosterMoves s (perform code a s) := by
  unfold perform
  split
  · exact heatModeAction_moves _ s
  · exact (heatSet_moves _ s).roster
  · exact (heatStep_moves _ s).roster
  · exact (heatReset_moves s).roster
  · exact (setFridgeMode_moves _ s).roster
  · exact (fridgeSet_moves _ s).roster
  · exact (sceneAction_moves _ s).roster
  · exact (lightsOff_moves s).roster
  · exact (lightStep_moves _ s).roster
  · exact setOutlet_moves _ _ s
  · exact acknowledge_moves s
  · exact restProfile_moves _ s
  · exact alarmSet_moves _ s
  · exact .refl

theorem handAction_moves (src : ActionSource) (code : Nat) (a : Int) (s : State) : RosterMoves s (handAction src code a s) := by
  unfold handAction
  split
  · exact (RosterMoves.refl.frame (by simp)).trans (perform_moves _ _ _)
  · exact RosterMoves.refl.frame (by simp)

theorem press_moves (entry : Nat) (s : State) : RosterMoves s (press entry s) :=
  .ite (fun _ => .refl) fun _ => (handAction_moves _ _ _ _).qualify

theorem pressTimes_moves (entry n : Nat) (s : State) : RosterMoves s (pressTimes entry n s) := by
  induction n generalizing s with
  | zero => exact .refl
  | succ n ih => exact (press_moves entry s).trans (ih _)

theorem dispatch_moves (n : Nat) (old new : List Nat) (s : State) : RosterMoves s (dispatch n old new s) :=
  RosterMoves.refl.forEach _ fun _ _ => (pressTimes_moves _ _ _).trans (pressTimes_moves _ _ _)

theorem panelMessage_moves (p : Nat) (s : State) : RosterMoves s (panelMessage p s) := by
  refine .ite (fun _ => ?_) fun _ => .refl
  split
  · exact (dispatch_moves _ _ _ s).keep (setBaseline _ _)
  · exact RosterMoves.refl.frame (by simp)

/-! ### Signals (R8, R12 to R14) -/

theorem tellStored_moves (n : Nat) (fresh : Bool) (s : State) : RosterMoves s (tellStored n fresh s) := by
  refine RosterMoves.trans (RosterMoves.refl.keep (takeMark n)) ?_
  unfold tellStored
  dsimp only
  split
  · exact activityStored_moves _
  · exact remainingStored_moves _ _
  · exact timeStored_moves _
  · exact timeStored_moves _
  · exact heaterInputs_moves _
  · exact ignitionStored_moves _
  · exact heaterInputs_moves _
  · exact .refl

theorem tellLost_moves (n : Nat) (s : State) : RosterMoves s (tellLost n s) := by
  refine RosterMoves.trans (RosterMoves.refl.keep (takeMark n)) ?_
  unfold tellLost
  dsimp only
  split
  · exact activityLost_moves _
  · exact restEnd_moves _
  · exact restEnd_moves _
  · exact restEnd_moves _
  · exact heaterInputs_moves _
  · exact restEnd_moves _
  · exact heaterInputs_moves _
  · exact .refl

theorem storeSignal_moves (n : Nat) (v : Int) (s : State) : RosterMoves s (storeSignal n v s) := by
  unfold storeSignal
  dsimp only
  refine .ite (fun _ => RosterMoves.refl.keep countClamp) fun _ => ?_
  refine RosterMoves.trans ?_ (tellStored_moves _ _ _)
  exact RosterMoves.refl.frame (by simp [State.ite_frame])

theorem turnStale_moves (n : Nat) (s : State) : RosterMoves s (turnStale n s) :=
  .ite (fun _ => RosterMoves.trans (RosterMoves.refl.frame (by simp)) (tellLost_moves n _)) fun _ => .refl

theorem redefine_moves (n : Nat) (s : State) : RosterMoves s (redefine n s) :=
  RosterMoves.trans (RosterMoves.refl.frame (by simp)) (tellLost_moves n _)

theorem useValue_moves (e : IngressEntry) (v : Int) (s : State) : RosterMoves s (useValue e v s) := by
  have hstored : RosterMoves s (if e.stores then storeSignal e.target v s else s) :=
    .ite (fun _ => storeSignal_moves _ _ _) fun _ => .refl
  exact .ite (fun _ => hstored.trans (handAction_moves _ _ _ _)) fun _ => hstored

theorem matchFrame_moves (f : RxFrame) (s : State) : RosterMoves s (matchFrame f s) := by
  unfold matchFrame
  split
  · exact RosterMoves.refl.frame (by simp)
  · refine .ite (fun _ => ?_) fun _ => handAction_moves _ _ _ s
    split
    · exact RosterMoves.refl.frame (by simp)
    · exact .ite (fun _ => useValue_moves _ _ s) fun _ => .refl

/-! ### Nodes that come and go (R38 to R42, R79) -/

theorem tellLeft_moves (p : Nat) (s : State) : RosterMoves s (tellLeft p s) := by
  unfold tellLeft
  split
  · exact (heaterNodeLeft_moves s).roster
  · exact (fridgeNodeLeft_moves s).roster
  · exact RosterMoves.refl.frame (by simp)
  · exact outletLost_moves p s
  · exact .refl

theorem tellStaleMark_moves (p : Nat) (s : State) : RosterMoves s (tellStaleMark p s) := by
  unfold tellStaleMark
  split
  · exact heaterInputs_moves s
  · exact (fridgeNews_moves s).roster
  · have hbaseline : RosterMoves s (setBaseline (s.panelNumber p) none s) := RosterMoves.refl.frame (by simp)
    exact .ite (fun _ => hbaseline.trans (heaterInputs_moves _)) fun _ => hbaseline
  · exact .refl

theorem tellPresent_moves (p : Nat) (s : State) : RosterMoves s (tellPresent p s) := by
  unfold tellPresent
  split
  · exact (heaterRefresh_moves s).roster
  · exact (fridgeNews_moves s).roster
  · exact RosterMoves.refl.frame (by simp)
  · exact .refl

theorem loseNode_moves (st : Presence) (p : Nat) (s : State) : RosterMoves s (loseNode st p s) := by
  refine RosterMoves.keep (RosterMoves.trans ?_ (tellStaleMark_moves p _)) (raisePresence p)
  have hmarked : RosterMoves s (s.modNode p fun r => { r with presence := st, count := 0, stale := true }) :=
    RosterMoves.refl.frame (by simp)
  exact .ite (fun _ => hmarked.trans (tellLeft_moves p _)) fun _ => hmarked

theorem gainNode_moves (p : Nat) (s : State) : RosterMoves s (gainNode p s) := by
  have htold : RosterMoves s (tellPresent p (s.modNode p fun r => { r with presence := .present, count := 0 })) :=
    RosterMoves.trans (RosterMoves.refl.frame (by simp)) (tellPresent_moves p _)
  exact .ite (fun _ => htold.keep (raisePresence p)) fun _ => htold

theorem loopFails_moves (s : State) : RosterMoves s (loopFails s) := by
  have hlost : RosterMoves s ((s.modTx fun t => { t with failed := true }).forEach positions fun p t =>
      if (t.node p).presence = .present then loseNode .lost p t else t) :=
    RosterMoves.forEach (RosterMoves.refl.frame (by simp)) _ fun p u => .ite (fun _ => loseNode_moves _ p u) fun _ => .refl
  exact hlost.raise _ _

theorem foreignMessage_moves (p : Nat) (s : State) : RosterMoves s (foreignMessage p s) := by
  have hnoted : RosterMoves s (s.modNode p fun r => { r with result := .foreign }) := RosterMoves.refl.frame (by simp)
  exact .ite (fun _ => hnoted) fun _ => hnoted.trans (loseNode_moves _ p _)

theorem markAllStale_moves (s : State) : RosterMoves s (markAllStale s) :=
  RosterMoves.forEach (RosterMoves.refl.frame (by simp)) _ tellStaleMark_moves

/-- A position whose record and messages a node map commit has done away with (R37). -/
def State.positionEmptied (p : Nat) (k : NodeKind) (s : State) : State :=
  ((s.modNode p fun _ => NodeRec.never (seekingFor k)).modLoopPos p fun x =>
    { x with unechoed := [], stall := false, lastEcho := none, raise := true }).modRx fun r =>
      { r with
        parts := r.parts.modify p fun a => { a with dropped := true }
        ready := r.ready.map fun m => if m.position = p then { m with dropped := true } else m }

/-- The owner of a position that has gone told, where its node was PRESENT. -/
def State.leftTold (s : State) (was : Prop) [Decidable was] (p : Nat) : State := if was then tellLeft p s else s

theorem resetPosition_eq (p : Nat) (k : NodeKind) (s : State) :
    resetPosition p k s =
      if (s.node p).stale then (s.positionEmptied p k).leftTold ((s.node p).presence = .present) p
      else tellStaleMark p ((s.positionEmptied p k).leftTold ((s.node p).presence = .present) p) := rfl

theorem leftTold_moves (s : State) (was : Prop) [Decidable was] (p : Nat) : RosterMoves s (s.leftTold was p) :=
  .ite (fun _ => tellLeft_moves p s) fun _ => .refl

theorem resetPosition_moves (p : Nat) (k : NodeKind) (s : State) : RosterMoves s (resetPosition p k s) := by
  have hemptied : RosterMoves s (s.positionEmptied p k) := RosterMoves.refl.frame (by simp [State.positionEmptied])
  have hleft := hemptied.trans (leftTold_moves _ ((s.node p).presence = .present) p)
  rw [resetPosition_eq]
  exact .ite (fun _ => hleft) fun _ => hleft.trans (tellStaleMark_moves p _)

theorem loopWake_moves (s : State) : RosterMoves s (loopWake s) := by
  refine RosterMoves.forEach (RosterMoves.forEach (RosterMoves.forEach ?_ _ tellLeft_moves) _ tellStaleMark_moves) _ ?_
  · exact RosterMoves.refl.frame (by simp)
  · exact fun _ _ => RosterMoves.refl.frame (by simp)

end Sys2Proof.Machine
end

section
/-! PROOF. The budget tick and the voltage watch move the roster by its moves only (R65 to R69, R95 to R102). -/

namespace Sys2Proof.Machine

set_option Elab.async false -- one theorem after another: each would otherwise take a thread with its own large stack

/-! ### What the laws do not read -/

/-- Two states are of one view if they agree in the roster, its table and CUTOFF. -/
theorem State.rosterView_eq_of {s t : State} (hr : t.roster = s.roster) (ht : t.tables.roster = s.tables.roster)
    (hc : t.energy.cutoff.asserted = s.energy.cutoff.asserted) : t.rosterView = s.rosterView := by
  simp [State.rosterView, hr, ht, hc]

theorem State.modEnergy_rosterView (s : State) {f : Energy → Energy} (hf : ∀ e, (f e).cutoff.asserted = e.cutoff.asserted) :
    (s.modEnergy f).rosterView = s.rosterView :=
  State.rosterView_eq_of rfl rfl (hf _)

theorem State.modLevel_rosterView (s : State) (l : WatchLevel) {f : Level → Level} (hf : ∀ x, (f x).asserted = x.asserted) :
    (s.modLevel l f).rosterView = s.rosterView :=
  s.modEnergy_rosterView fun e => by
    cases l with
    | low => rfl
    | cutoff => exact hf e.cutoff

theorem State.modLow_rosterView (s : State) (f : Level → Level) : (s.modLevel .low f).rosterView = s.rosterView :=
  s.modEnergy_rosterView fun _ => rfl

@[simp] theorem Level.count_asserted (voltage v : Nat) (x : Level) : (x.count voltage v).asserted = x.asserted := by
  unfold Level.count
  split <;> rfl

namespace RosterMoves

variable {s t : State}

/-- Then a change of the accountant that leaves CUTOFF as it is. -/
theorem modEnergy (h : RosterMoves s t) {f : Energy → Energy} (hf : ∀ e, (f e).cutoff.asserted = e.cutoff.asserted) :
    RosterMoves s (t.modEnergy f) :=
  h.trans (.same (t.modEnergy_rosterView hf))

/-- Then a change of a level's counts. -/
theorem modLevel (h : RosterMoves s t) (l : WatchLevel) {f : Level → Level} (hf : ∀ x, (f x).asserted = x.asserted) :
    RosterMoves s (t.modLevel l f) :=
  h.trans (.same (t.modLevel_rosterView l hf))

end RosterMoves

theorem substitute_moves (s : State) : RosterMoves s (substitute s) := by
  have hcount (i : Int) {f : Energy → Energy} (hf : ∀ e, (f e).cutoff.asserted = e.cutoff.asserted) :
      RosterMoves s ((integrate i s).modEnergy f) :=
    (RosterMoves.refl.keep (integrate i)).modEnergy hf
  refine .ite (fun _ => RosterMoves.refl.modEnergy fun _ => rfl) fun _ => ?_
  split
  · exact .ite (fun _ => hcount _ fun _ => rfl) fun _ => hcount _ fun _ => rfl
  · exact hcount _ fun _ => rfl

theorem countFull_moves (i : Int) (v : Nat) (s : State) : RosterMoves s (countFull i v s) :=
  RosterMoves.refl.modEnergy fun _ => rfl

theorem estimate_moves (i : Int) (v : Nat) (s : State) : RosterMoves s (estimate i v s) :=
  .ite (fun _ => RosterMoves.modEnergy (RosterMoves.refl.frame (by simp)) fun _ => rfl) fun _ => .refl

theorem fullCharge_moves (s : State) : RosterMoves s (fullCharge s) :=
  RosterMoves.modEnergy (RosterMoves.refl.frame (by simp)) fun _ => rfl

theorem resetCounts_moves (l : WatchLevel) (s : State) : RosterMoves s (resetCounts l s) :=
  RosterMoves.refl.modLevel l fun _ => rfl

/-! ### Operations done to every entry of a list -/

theorem State.forEach_rosterView {f : Nat → State → State} {g : RosterView → Nat → RosterView}
    (h : ∀ i t, (f i t).rosterView = g t.rosterView i) (is : List Nat) (s : State) :
    (s.forEach is f).rosterView = is.foldl g s.rosterView := by
  unfold State.forEach
  induction is generalizing s with
  | nil => rfl
  | cons i is ih => rw [List.foldl_cons, List.foldl_cons, ih, h]

theorem forEach_rosterView_same {f : Nat → State → State} (h : ∀ i t, (f i t).rosterView = t.rosterView) (is : List Nat)
    (s : State) : (s.forEach is f).rosterView = s.rosterView := by
  rw [State.forEach_rosterView (g := fun v _ => v) h]
  simp

/-! ### Restores and the protect flags (R68, R69) -/

theorem raiseLoadShed_rosterView (restored : Bool) (i : Nat) (s : State) : (raiseLoadShed restored i s).rosterView = s.rosterView :=
  State.rosterView_eq (by simp)

theorem restore_of_shed {i : Nat} {s : State} (h : (s.live i).grant = .shed) :
    (restore i s).rosterView = s.rosterView.modify i Standing.restored := by
  rw [restore, if_pos h, raiseLoadShed_rosterView]
  exact s.modLive_rosterView i fun _ => rfl

theorem restore_of_not_shed {i : Nat} {s : State} (h : (s.live i).grant ≠ .shed) : restore i s = s := if_neg h

theorem restore_moves (i : Nat) (s : State) : RosterMoves s (restore i s) := by
  by_cases h : (s.live i).grant = .shed
  · exact .one (restore_of_shed h ▸ .restore (by simpa using h))
  · rw [restore_of_not_shed h]
    exact .refl

theorem protectRestores_rosterView (s : State) : (protectRestores s).rosterView = s.rosterView.protectRestored := by
  refine State.forEach_rosterView (fun i t => ?_) s.validEntries s
  by_cases hg : (t.live i).grant = .shed
  · by_cases hp : (t.live i).protect = true
    · simp [RosterView.restoreProtected, hg, hp, restore_of_shed]
    · simp [RosterView.restoreProtected, hp]
  · simp [RosterView.restoreProtected, hg, restore_of_not_shed]

/-- One entry's protect flag as the tick reads it (R69, R95). -/
def State.flagRead (s : State) (i : Nat) : State := s.modLive i fun l => { l with protect := s.protectRequest i }

/-- One entry's working copy as the tick reads it (R95). -/
def State.workRead (s : State) (i : Nat) : State := s.modLive i fun l => { l with work := (s.cfg i).work }

/-- The fridge's duty, the working copies and the ranks as the tick reads them, after the protect flags (R95, step 1). -/
def State.workingRead (s : State) : State :=
  reorderQueue ((fridgeDutyTick s).forEach (fridgeDutyTick s).validEntries fun i t => t.workRead i)

theorem readRoster_eq (s : State) :
    readRoster s =
      let t := (s.forEach s.validEntries fun i t => t.flagRead i).workingRead
      if t.energy.cutoff.asserted then t else protectRestores t := rfl

theorem flagRead_rosterView (s : State) (i : Nat) :
    (s.flagRead i).rosterView = s.rosterView.modify i (Standing.flagged (s.protectRequest i)) :=
  s.modLive_rosterView i fun _ => rfl

/-- The protect flags of the entries of a list, read from the fridge controller of `s`. -/
theorem forEach_flagRead_rosterView {s t : State} (hf : t.fridge = s.fridge) (ht : t.tables = s.tables) (is : List Nat) :
    (t.forEach is fun i u => u.flagRead i).rosterView =
      is.foldl (fun w i => w.modify i (Standing.flagged ((s.rosterView.cfg i).kind == .fridge && s.fridge.protectRequest)))
        t.rosterView := by
  unfold State.forEach
  induction is generalizing t with
  | nil => rfl
  | cons i is ih =>
    have hp : t.protectRequest i = ((s.rosterView.cfg i).kind == .fridge && s.fridge.protectRequest) := by
      simp [State.protectRequest, State.cfg_eq_view, RosterView.cfg, State.rosterView, hf, ht]
    rw [List.foldl_cons, List.foldl_cons, ih (t := t.flagRead i) hf ht, flagRead_rosterView, hp]

theorem workRead_rosterView (i : Nat) (s : State) : (s.workRead i).rosterView = s.rosterView :=
  s.modLive_rosterView_same i fun _ => rfl

theorem workingRead_rosterView (s : State) : s.workingRead.rosterView = s.rosterView := by
  rw [State.workingRead, reorderQueue_rosterView, forEach_rosterView_same workRead_rosterView]
  exact State.rosterView_eq (by simp)

theorem readRoster_moves (s : State) : RosterMoves s (readRoster s) := by
  rw [readRoster_eq]
  set t := (s.forEach s.validEntries fun i t => t.flagRead i).workingRead with ht
  have hview : t.rosterView = s.rosterView.readProtect s.fridge.protectRequest :=
    (workingRead_rosterView _).trans (forEach_flagRead_rosterView rfl rfl _)
  have hcutoff : t.energy.cutoff.asserted = s.rosterView.cutoff :=
    (congrArg RosterView.cutoff hview).trans (RosterView.readProtect_cutoff _ _)
  have hread : (if t.energy.cutoff.asserted then t else protectRestores t).rosterView =
      if s.rosterView.cutoff then s.rosterView.readProtect s.fridge.protectRequest
      else (s.rosterView.readProtect s.fridge.protectRequest).protectRestored := by
    rw [hcutoff]
    split
    · exact hview
    · rw [protectRestores_rosterView, hview]
  exact .one (hread ▸ .read _ _)

/-! ### Grants and sheds (R65 to R67) -/

theorem tellGranted_moves (i : Nat) (s : State) : RosterMoves s (tellGranted i s) := by
  unfold tellGranted
  split
  · exact (heaterGranted_moves s).roster
  · exact (fridgeNews_moves s).roster
  · exact .refl

theorem grant_moves (i : Nat) (s : State) : RosterMoves s (grant i s) := by
  refine .ite (fun h => ?_) fun _ => .refl
  have hview : (s.modLive i fun l => { l with grant := .on, reason := .none }).rosterView =
      s.rosterView.modify i Standing.granted := s.modLive_rosterView i fun _ => rfl
  exact RosterMoves.trans (.one (hview ▸ .grant (by simpa using h))) (tellGranted_moves i _)

/-- An owner other than the fridge's answers a shed by its own moves. -/
theorem tellShed_moves {i : Nat} {s : State} (hk : (s.cfg i).kind ≠ .fridge) :
    OwnerMoves (s.cfg i).kind s (tellShed i s) := by
  unfold tellShed
  split
  next h => exact h ▸ heaterShed_moves s
  next h => exact absurd h hk
  next h => exact stopComplete_moves _ i s
  next h => exact stopComplete_moves _ i s

theorem tellShed_fridge {i : Nat} {s : State} (hk : (s.cfg i).kind = .fridge) :
    (tellShed i s).rosterView = s.rosterView.stopFirst .fridge := by
  unfold tellShed
  rw [hk]
  exact fridgeShed_rosterView s

theorem State.mem_eligible {s : State} {i : Nat} (h : i ∈ s.eligible) :
    i ∈ s.rosterView.inGrant .on ∧ (s.rosterView.standing i).protect = false := by
  obtain ⟨hon, hfree⟩ := List.mem_filter.mp h
  refine ⟨s.inGrant_eq_view .on ▸ hon, ?_⟩
  simp only [Bool.and_eq_true, Bool.not_eq_true'] at hfree
  simpa using hfree.2

theorem budgetShed_moves {i : Nat} {s : State} (h : i ∈ s.eligible) : RosterMoves s (budgetShed i s) := by
  obtain ⟨hon, hp⟩ := s.mem_eligible h
  have hgrant : (s.live i).grant = .on := by simpa using (RosterView.mem_inGrant.mp hon).2
  rw [budgetShed, if_pos hgrant]
  dsimp only
  set t := s.modLive i fun l => { l with grant := .shedding, reason := .budget } with ht
  have hview : t.rosterView = s.rosterView.modify i (Standing.shedding .budget) := s.modLive_rosterView i fun _ => rfl
  set u := raiseLoadShed false i (giveUpPlace i t) with hu
  have hfrees : (s.rosterView.modify i (Standing.shedding .budget)).Frees i u.rosterView := by
    rw [hu, raiseLoadShed_rosterView, ← hview]
    exact giveUpPlace_frees i t
  have hcfg : (u.cfg i).kind = (s.rosterView.cfg i).kind := by
    rw [State.cfg_eq_view, RosterView.cfg_congr hfrees.table]
    rfl
  by_cases hk : (s.rosterView.cfg i).kind = .fridge
  · refine .one ?_
    rw [tellShed_fridge (hcfg.trans hk)]
    exact .shedFridge hon hk hp hfrees
  · exact RosterMoves.trans (.one (.shed hon hk hfrees)) (tellShed_moves (by rwa [hcfg])).roster

/-- The entry that the others outrank is one of them. -/
theorem State.lowest_mem {s : State} {is : List Nat} {i : Nat} (h : s.lowest is = some i) : i ∈ is := by
  induction is generalizing i with
  | nil => cases h
  | cons j js ih =>
    unfold State.lowest at h
    split at h
    next k hk =>
      split at h
      · exact Option.some.inj h ▸ List.mem_cons_of_mem _ (ih hk)
      · exact Option.some.inj h ▸ List.mem_cons_self
    next => exact Option.some.inj h ▸ List.mem_cons_self

theorem shedStep_moves (d p : Nat) (s : State) : RosterMoves s (shedStep d p s) := by
  unfold shedStep
  split
  next i hi => exact budgetShed_moves (State.lowest_mem hi)
  next => exact RosterMoves.refl.raise _ _

/-! ### The emergency shed (R67) -/

theorem emergencyOne_view (i : Nat) (s : State) : EmergencyOne i s.rosterView (emergencyOne i s).rosterView := by
  unfold emergencyOne
  split
  next hg =>
    set t := raiseLoadShed false i (s.modLive i fun l => { l with grant := .shedding, reason := .emergency })
    have hview : t.rosterView = s.rosterView.modify i (Standing.shedding .emergency) :=
      (raiseLoadShed_rosterView false i _).trans (s.modLive_rosterView i fun _ => rfl)
    have hcfg : t.cfg i = s.rosterView.cfg i := by
      rw [State.cfg_eq_view, hview]
      rfl
    have hon : (s.rosterView.standing i).grant = .on := by simpa using hg
    by_cases hk : (s.rosterView.cfg i).kind = .fridge
    · rw [tellShed_fridge (hcfg ▸ hk), hview]
      exact .fridge hon hk
    · have hmoves : OwnerMoves (s.rosterView.cfg i).kind t (tellShed i t) := hcfg ▸ tellShed_moves (hcfg ▸ hk)
      exact .owner hon hk (hview ▸ hmoves)
  next hg =>
    rw [raiseLoadShed_rosterView, s.modLive_rosterView i (g := Standing.shed) fun _ => rfl]
    exact .waiting (by simpa using hg)
  next hg =>
    rw [s.modLive_rosterView i (g := Standing.emergency) fun _ => rfl]
    exact .shed (by simpa using hg)
  next hon _ _ => exact .other (by simpa using hon)

theorem emergencyPass_view (is : List Nat) (s : State) :
    EmergencyPass is s.rosterView (s.forEach is emergencyOne).rosterView := by
  unfold State.forEach
  induction is generalizing s with
  | nil => exact .nil _
  | cons i is ih => exact .cons (emergencyOne_view i s) (ih _)

theorem emergencyShed_moves {s : State} (h : s.energy.cutoff.asserted = true) : RosterMoves s (emergencyShed s) := by
  simp only [emergencyShed, s.inGrant_eq_view]
  have hon := emergencyPass_view (s.rosterView.inGrant .on) (s.modRoster fun r => { r with queue := [], holder := none })
  exact .one (.emergency h hon (emergencyPass_view _ _) (emergencyPass_view _ _))

/-! ### The tick's decisions (R97 to R100) -/

theorem grantAll_moves (n : Nat) (is : List Nat) (s : State) : RosterMoves s (grantAll n is s) := by
  induction n generalizing is s with
  | zero => exact .refl
  | succ n ih =>
    unfold grantAll
    split
    next i _ => exact (grant_moves i s).trans (ih _ _)
    next => exact .refl

theorem decideSurplus_moves (s : State) : RosterMoves s (decideSurplus s) := by
  have hall := grantAll_moves 16 (s.inGrant .waiting) s
  simp only [decideSurplus]
  split
  next i _ => exact hall.trans (restore_moves i _)
  next => exact hall

theorem restoreStep_moves (p : Nat) (s : State) : RosterMoves s (restoreStep p s) := by
  unfold restoreStep
  split
  next i _ => exact .ite (fun _ => restore_moves i s) fun _ => .refl
  next => exact .refl

theorem decideNormal_moves (d p : Nat) (s : State) : RosterMoves s (decideNormal d p s) := by
  refine .ite (fun _ => shedStep_moves d p s) fun _ => ?_
  split
  next i _ => exact .ite (fun _ => grant_moves i s) fun _ => restoreStep_moves p s
  next => exact restoreStep_moves p s

theorem decideLow_moves (d p : Nat) (s : State) : RosterMoves s (decideLow d p s) := by
  refine .ite (fun _ => shedStep_moves d p s) fun _ => ?_
  have hshed : RosterMoves s (if p < d then shedStep d p s else s) := .ite (fun _ => shedStep_moves d p s) fun _ => .refl
  dsimp only
  split
  next i _ => exact hshed.trans (grant_moves i _)
  next => exact hshed

theorem decideTick_moves {m : Mode} {s : State} (hm : m = .cutoff → s.energy.cutoff.asserted = true) (d p : Nat) :
    RosterMoves s (decideTick m d p s) := by
  cases m with
  | cutoff => exact emergencyShed_moves (hm rfl)
  | low => exact decideLow_moves d p s
  | surplus => exact decideSurplus_moves s
  | normal => exact decideNormal_moves d p s

theorem State.asserted_of_chooseMode {s : State} (h : s.chooseMode = .cutoff) : s.energy.cutoff.asserted = true := by
  by_contra hc
  rw [State.chooseMode, if_neg hc] at h
  split at h
  · cases h
  · split at h <;> cases h

theorem budgetTickBody_moves (s : State) : RosterMoves s (budgetTickBody s) := by
  refine RosterMoves.owner ?_ (fridgeTick_moves _ _)
  refine RosterMoves.trans ((readRoster_moves s).modEnergy ?_) (decideTick_moves ?_ _ _)
  · exact fun _ => rfl
  · exact State.asserted_of_chooseMode

theorem budgetTick_moves (s : State) : RosterMoves s (budgetTick s) := .ite (fun _ => budgetTickBody_moves s) fun _ => .refl

/-! ### The voltage watch (R101, R69) -/

theorem assertLevel_moves (l : WatchLevel) (s : State) : RosterMoves s (assertLevel l s) := by
  refine RosterMoves.keep ?_ (raiseLevel l true)
  cases l with
  | low => exact .same (s.modLow_rosterView _)
  | cutoff => exact .one (.cutoffAsserts _)

theorem raiseLevel_rosterView (l : WatchLevel) (begun : Bool) (s : State) : (raiseLevel l begun s).rosterView = s.rosterView :=
  State.rosterView_eq (by simp)

theorem clearLevel_moves (l : WatchLevel) (s : State) : RosterMoves s (clearLevel l s) := by
  cases l with
  | low => exact .same ((raiseLevel_rosterView .low false _).trans (s.modLow_rosterView _))
  | cutoff =>
    have hview : (clearLevel .cutoff s).rosterView = ({ s.rosterView with cutoff := false } : RosterView).protectRestored := by
      refine (protectRestores_rosterView _).trans (congrArg RosterView.protectRestored ?_)
      exact raiseLevel_rosterView .cutoff false _
    exact .one (hview ▸ .cutoffClears _)

theorem energyDues_moves (s : State) : RosterMoves s (energyDues s) := by
  have hassert (l : WatchLevel) (t : State) : RosterMoves t (if t.assertDue l then assertLevel l t else t) :=
    .ite (fun _ => assertLevel_moves l t) fun _ => .refl
  have hclear (l : WatchLevel) (t : State) : RosterMoves t (if t.clearDue l then clearLevel l t else t) :=
    .ite (fun _ => clearLevel_moves l t) fun _ => .refl
  have hlevels := (((hassert .cutoff s).trans (hclear .cutoff _)).trans (hassert .low _)).trans (hclear .low _)
  exact .ite (fun _ => hlevels.trans (fullCharge_moves _)) fun _ => hlevels

theorem batteryMessage_moves (i : Int) (v : Nat) (s : State) : RosterMoves s (batteryMessage i v s) := by
  refine RosterMoves.trans (RosterMoves.trans ?_ (estimate_moves i v _)) (countFull_moves i v _)
  refine RosterMoves.modLevel ?_ .low fun x => x.count_asserted _ _
  refine RosterMoves.modLevel ?_ .cutoff fun x => x.count_asserted _ _
  refine RosterMoves.modEnergy ?_ ?_
  · exact (energyDues_moves s).keep (integrate i)
  · exact fun _ => rfl

end Sys2Proof.Machine
end

section
/-! PROOF. The berth loop, the minute and the power states move the roster by its moves only (chapters 2 and 11). -/

namespace Sys2Proof.Machine

set_option Elab.async false -- one theorem after another: each would otherwise take a thread with its own large stack

/-! ### Accepted messages (R34 to R43) -/

theorem lightFaults_moves (p : Nat) (s : State) : RosterMoves s (lightFaults p s) := RosterMoves.refl.keep (lightFaults p)

theorem tellAccepted_moves (p : Nat) (old : NodeRec) (s : State) : RosterMoves s (tellAccepted p old s) := by
  have hoff (c : Bool) (o : Nat) (t : State) : RosterMoves t (if c then setOutlet o false t else t) :=
    .ite (fun _ => setOutlet_moves o false t) fun _ => .refl
  unfold tellAccepted
  dsimp only
  split
  · split
    · exact batteryMessage_moves _ _ s
    · exact .refl
  · refine RosterMoves.trans ?_ (heaterInputs_moves _)
    exact .ite (fun _ => (heaterPhase_moves s).roster) fun _ => .refl
  · refine RosterMoves.owner ?_ (fridgeMessage_moves _)
    exact .ite (fun _ => (fridgeNews_moves s).roster) fun _ => .refl
  · exact .ite (fun _ => lightFaults_moves p s) fun _ => .refl
  · exact .ite (fun _ => (panelMessage_moves p s).trans (heaterInputs_moves _)) fun _ => panelMessage_moves p s
  · exact (hoff _ _ s).trans (hoff _ _ _)
  · exact .refl

theorem acceptMessage_moves (p seq : Nat) (d : Decoded) (s : State) : RosterMoves s (acceptMessage p seq d s) :=
  RosterMoves.trans (RosterMoves.refl.frame (by simp)) (tellAccepted_moves p _ _)

theorem testMessage_moves (m : ReadyMsg) (s : State) : RosterMoves s (testMessage m s) := by
  refine .ite (fun _ => .refl) fun _ => .ite (fun _ => foreignMessage_moves _ s) fun _ => ?_
  split
  · exact acceptMessage_moves _ _ _ s
  · exact .refl

theorem takeMessage_moves (s : State) : RosterMoves s (takeMessage s) := by
  unfold takeMessage
  split
  · exact RosterMoves.qualify (RosterMoves.trans (RosterMoves.refl.frame (by simp)) (testMessage_moves _ _))
  · exact .refl

theorem presenceDues_moves (s : State) : RosterMoves s (presenceDues s) :=
  RosterMoves.refl.forEach _ fun p t =>
    .ite (fun _ => (gainNode_moves p t).qualify) fun _ => .ite (fun _ => (loseNode_moves .lost p t).qualify) fun _ => .refl

theorem drainReceived_moves (s : State) : RosterMoves s (drainReceived s) := by
  have htaken : RosterMoves s (s.forEach (List.range s.rx.ready.length) fun _ t => takeMessage t) :=
    RosterMoves.refl.forEach _ fun _ t => takeMessage_moves t
  exact .ite (fun _ => (htaken.keep receivedCycleEnds).trans (presenceDues_moves _)) fun _ =>
    htaken.trans (presenceDues_moves _)

/-! ### The receive side (R24 to R33) -/

theorem loseSync_moves (toSearch : Bool) (s : State) : RosterMoves s (loseSync toSearch s) :=
  RosterMoves.trans (RosterMoves.frame (drainReceived_moves s) (by simp)) (markAllStale_moves _)

theorem markerBit_moves (b : Bool) (s : State) : RosterMoves s (markerBit b s) := by
  have htaken : RosterMoves s { s with rx := s.rx.nextRound b } := .same rfl
  rw [markerBit_eq]
  exact .ite (fun _ => htaken.trans (loseSync_moves _ _)) fun _ => htaken

theorem syncBit_moves (i : Nat) (b : Bool) (s : State) : RosterMoves s (syncBit i b s) := by
  refine .ite (fun _ => markerBit_moves b s) fun _ => .ite (fun _ => ?_) fun _ => .refl
  exact .ite (fun _ => RosterMoves.refl.keep (slotDone _)) fun _ => RosterMoves.refl.frame (by simp)

theorem receiveBit_moves (i : Nat) (b : Bool) (s : State) : RosterMoves s (receiveBit i b s) := by
  refine .ite (fun _ => .refl) fun _ => ?_
  have hpushed : RosterMoves s (s.modRx fun x => { x with hist := x.hist.modify i (Hist.push b) }) :=
    RosterMoves.refl.frame (by simp)
  dsimp only
  split
  · exact hpushed.keep (searchBit i)
  · exact hpushed.keep (confirmBit i b _)
  · exact hpushed.trans (syncBit_moves i b _)
  · exact hpushed

theorem receiveRound_moves (bits : BitVec 121) (s : State) : RosterMoves s (receiveRound bits s) :=
  RosterMoves.keep (RosterMoves.refl.forEach _ fun i t => receiveBit_moves i _ t)
    fun u => u.modTx fun t => { t with round := (t.round + 1) % 8 }

theorem receivedRound_moves (bits : BitVec 121) (s : State) : RosterMoves s (receivedRound bits s) :=
  .ite (fun _ => receiveRound_moves bits s) fun _ => RosterMoves.refl.keep roundEnds

theorem reframe_moves (s : State) : RosterMoves s (reframe s) :=
  .ite (fun _ => loseSync_moves true s) fun _ => RosterMoves.refl.frame (by simp)

/-! ### The transmit cycle (R22, R84, R103, R147, R171) -/

theorem endCycle_moves (s : State) : RosterMoves s (endCycle s) := by
  refine RosterMoves.trans (RosterMoves.owner (RosterMoves.modEnergy ?_ ?_) (cycleStep_moves _)) (firstSweep_moves _)
  · exact RosterMoves.trans (RosterMoves.refl.frame (by simp)) (substitute_moves _)
  · exact fun _ => rfl

theorem transmitCycle_moves (s : State) : RosterMoves s (transmitCycle s) :=
  .ite (fun _ => (endCycle_moves s).keep beginCycle) fun _ => RosterMoves.refl.keep roundEnds

/-! ### The minute and the power states (R161, R199 to R201) -/

theorem wake_moves (st : PowerState) (s : State) : RosterMoves s (wake st s) := by
  refine RosterMoves.keep (RosterMoves.keep (RosterMoves.forEach ?_ _ turnStale_moves) startTransmit) noticeDueIfAny
  exact RosterMoves.trans (RosterMoves.refl.frame (by simp)) (loopWake_moves _)

theorem minutePasses_moves (s : State) : RosterMoves s (minutePasses s) := by
  have hminute := ((restMinute_moves s).owner (heaterMinute_moves _)).keep energyMinute
  exact .ite (fun _ => hminute.trans (wake_moves .quiet _)) fun _ => hminute

theorem canWakes_moves (s : State) : RosterMoves s (canWakes s) :=
  .ite (fun _ => wake_moves .run s) fun _ => .ite (fun _ => .refl) fun _ => RosterMoves.refl.keep canActivity

theorem wakeLine_moves (e : WakeEdge) (s : State) : RosterMoves s (wakeLine e s) :=
  .ite (fun _ => wake_moves .quiet s) fun _ => .refl

/-- The state as entry to STANDBY finds the accountant (R200, R21). -/
def State.fallingAsleep (s : State) : State :=
  let s := s.modPower fun p => { p with state := .standby, standbyTimer := none, quietTimer := none }
  let s := (s.modBus Bus.sleep).modNotices fun n => { n with waiting := none }
  s.modTx fun t => { t with finishing := true }

theorem enterStandby_eq (s : State) : enterStandby s = lightSleep (energySleep s.fallingAsleep) := rfl

theorem enterStandby_moves (s : State) : RosterMoves s (enterStandby s) := by
  rw [enterStandby_eq]
  refine RosterMoves.keep (RosterMoves.modEnergy ?_ ?_) lightSleep
  · exact RosterMoves.refl.frame (by simp [State.fallingAsleep])
  · exact fun _ => rfl

theorem standbyExpires_moves (s : State) : RosterMoves s (standbyExpires s) :=
  .ite (fun _ => enterStandby_moves s) fun _ => .refl

end Sys2Proof.Machine
end

section
/-! PROOF. Commits move the roster by its moves only (R58, R80, R81, R186 to R189), and so do the other setup requests. -/

namespace Sys2Proof.Machine

set_option Elab.async false -- one theorem after another: each would otherwise take a thread with its own large stack

/-! ### Table entries replaced (R186) -/

theorem Tables.setEntry_roster {t : Tables} {n : Nat} (hn : n ≠ 5) (i : Nat) (e : Entry) : (t.setEntry n i e).roster = t.roster := by
  unfold Tables.setEntry Tables.put
  split
  case h_6 => exact absurd rfl hn
  all_goals rfl

/-- Then a table entry replaced, of another table than the roster's. -/
theorem RosterMoves.putEntry {s t : State} (h : RosterMoves s t) {n : Nat} (hn : n ≠ 5) (i : Nat) (e : Entry) :
    RosterMoves s (putEntry n i e t) :=
  h.trans (.same (State.rosterView_eq_of rfl (Tables.setEntry_roster hn i e) rfl))

theorem commitBus_moves (e : Entry) (s : State) : RosterMoves s (commitBus e s) := by
  have hput : RosterMoves s (putEntry 0 0 e s) := RosterMoves.refl.putEntry (by simp) 0 e
  exact .ite (fun _ => hput.frame (by simp)) fun _ => hput.frame (by simp)

theorem commitEnergy_moves (e : Entry) (s : State) : RosterMoves s (commitEnergy e s) := by
  have hput : RosterMoves s (capCharge (putEntry 0 1 e s)) := (RosterMoves.refl.putEntry (by simp) 1 e).keep capCharge
  refine RosterMoves.iteElse (f := fun u => u.modEnergy fun x => { x with fullCount := 0 }) ?_ ?_
  · exact (hput.iteElse (resetCounts_moves .low)).iteElse (resetCounts_moves .cutoff)
  · exact fun u => RosterMoves.refl.modEnergy fun _ => rfl

theorem commitClimate_moves (e : Entry) (s : State) : RosterMoves s (commitClimate e s) := by
  have hput : RosterMoves s (putEntry 0 2 e s) := RosterMoves.refl.putEntry (by simp) 2 e
  refine RosterMoves.owner (RosterMoves.owner ?_ (heaterRefresh_moves _)) (fridgeRefresh_moves _)
  have hheat (v : Int) (u : State) : RosterMoves u (heatSet v u) := (heatSet_moves v u).roster
  have hmode (on : Bool) (u : State) : RosterMoves u (setFridgeMode on u) := (setFridgeMode_moves on u).roster
  have hfridge (v : Int) (u : State) : RosterMoves u (fridgeSet v u) := (fridgeSet_moves v u).roster
  exact (((hput.iteElse (heatModeAction_moves _)).iteElse (hheat _)).iteElse (hmode _)).iteElse (hfridge _)

theorem commitEgress_moves (i : Nat) (e : Entry) (s : State) : RosterMoves s (commitEgress i e s) :=
  RosterMoves.frame (RosterMoves.refl.putEntry (n := 2) (by simp) i e) (by simp [commitEgress])

theorem commitNodeMap_moves (p : Nat) (e : Entry) (s : State) : RosterMoves s (commitNodeMap p e s) := by
  refine RosterMoves.owner (RosterMoves.trans ?_ (heaterInputs_moves _)) (fridgeRefresh_moves _)
  refine RosterMoves.forEach (RosterMoves.forEach ?_ _ fun n t => ?_) _ fun c t => ?_
  · exact RosterMoves.trans (RosterMoves.refl.forEach _ fun q t => resetPosition_moves q _ t) (.same rfl)
  · exact .ite (fun _ => .refl) fun _ => RosterMoves.refl.frame (by simp)
  · exact .ite (fun _ => .refl) fun _ => RosterMoves.refl.frame (by simp)

/-! ### A roster entry committed (R58, R80, R81) -/

theorem tellEntry_moves (i : Nat) (s : State) : RosterMoves s (tellEntry i s) := by
  have hasked (k : LoadKind) (c : Prop) [Decidable c] : OwnerMoves k s (if c then request i s else s) :=
    .ite (fun _ => request_moves k i s) fun _ => .refl
  unfold tellEntry
  split
  · exact ((hasked .heater _).trans (heaterRefresh_moves _)).roster
  · exact ((hasked .fridge _).trans (fridgeRefresh_moves _)).roster
  · exact (OwnerMoves.lightTests .refl).roster
  · exact outletApply_moves _ s

/-- What the check of a roster entry lets through (R58, R81). -/
theorem checkRoster_iff {s : State} {i : Nat} {e : Entry} (h : checkRoster s i e = true) :
    ((rosterCfgOf e).valid = true → rosterAllowed (s.rosterView.table.set i e) = true) ∧
      ((s.cfg i).valid = true → rebinds (s.cfg i) (rosterCfgOf e) = true → (s.live i).grant = .idle) := by
  simp only [checkRoster, Bool.and_eq_true, Bool.or_eq_true, Bool.not_eq_true', beq_iff_eq, Bool.and_eq_false_iff] at h
  obtain ⟨hallowed, hidle⟩ := h
  refine ⟨fun hv => ?_, fun hv hr => ?_⟩
  · rcases hallowed with hinvalid | ⟨-, hallowed⟩
    · simp [hv] at hinvalid
    · exact hallowed
  · rcases hidle with (hinvalid | hkept) | hidle
    · simp [hv] at hinvalid
    · simp [hr] at hkept
    · exact hidle

theorem rebinds_eq_false {old new : RosterCfg} :
    rebinds old new = false ↔ old.valid = new.valid ∧ (new.valid = true → old.kind = new.kind ∧ old.binding = new.binding) := by
  simp only [rebinds, Bool.or_eq_false_iff, bne_eq_false_iff_eq, Bool.and_eq_false_iff]
  cases new.valid <;> simp

/-- The configuration of the entry replaced: the new one's, or the old one outside the table. -/
theorem RosterView.put_cfg (v : RosterView) (i : Nat) (e : Entry) :
    (v.put i e).cfg i = rosterCfgOf e ∨ (v.put i e).cfg i = v.cfg i := by
  simp only [RosterView.cfg, RosterView.put, List.getD_eq_getElem?_getD, List.getElem?_set_self']
  cases v.table[i]? with
  | none => exact .inr rfl
  | some _ => exact .inl rfl

theorem commitRoster_moves {i : Nat} {e : Entry} {s : State} (h : checkRoster s i e = true) :
    RosterMoves s (commitRoster i e s) := by
  obtain ⟨hallowed, hidle⟩ := checkRoster_iff h
  set u := putEntry 5 i e s with hu
  have hrenew (x : Live) (hx : x.standing = .idle) (hr : rebinds (s.cfg i) (u.cfg i) = true) :
      RosterMoves s (u.modLive i fun _ => x) := by
    refine .one ?_
    rw [u.modLive_rosterView i (g := fun _ => Standing.idle) fun _ => hx]
    refine .renew hallowed fun hv => ?_
    rcases s.rosterView.put_cfg i e with hnew | hold
    · simpa using hidle hv (hnew ▸ hr)
    · have hold : u.cfg i = s.cfg i := hold
      have hsame : rebinds (s.cfg i) (u.cfg i) = false := rebinds_eq_false.mpr (by simp [hold])
      simp [hsame] at hr
  have hput (hv : (u.cfg i).valid = (s.cfg i).valid) (hk : (u.cfg i).valid = true → (u.cfg i).kind = (s.cfg i).kind) :
      RosterMoves s u := .one (.put hallowed hv hk)
  unfold commitRoster
  dsimp only
  rw [← hu]
  split
  next hr =>
    obtain ⟨hv, hk⟩ := rebinds_eq_false.mp (by simpa using hr)
    exact hput hv.symm fun hn => (hk hn).1.symm
  next hr =>
    have hr : rebinds (s.cfg i) (u.cfg i) = true := by simpa using hr
    split
    · have hgone := hrenew (Live.init Working.init) rfl hr
      exact .ite (fun _ => hgone.trans (.same rfl)) fun _ => hgone
    next hvalid =>
      have hvalid : (u.cfg i).valid = true := by simpa using hvalid
      split
      next hsame =>
        simp only [Bool.and_eq_true, beq_iff_eq] at hsame
        refine RosterMoves.trans ?_ (tellEntry_moves i _)
        exact (hput (hvalid.trans hsame.1.symm) fun _ => hsame.2.symm).trans (.same (u.modLive_rosterView_same i fun _ => rfl))
      next =>
        have hset : RosterMoves s (setUpEntry i u) := hrenew (Live.init (u.cfg i).work) rfl hr
        refine RosterMoves.trans ?_ (tellEntry_moves i _)
        exact .ite (fun _ => hset.frame (by simp)) fun _ => hset

/-- A commit of an entry that has passed its check (R189). -/
theorem commitEntry_moves {t i : Nat} {e : Entry} {s : State} (h : s.checkEntry t i e = true) :
    RosterMoves s (commitEntry t i e s) := by
  unfold commitEntry
  refine RosterMoves.modSetup ?_ _
  split
  · exact commitBus_moves e s
  · exact commitEnergy_moves e s
  · exact commitClimate_moves e s
  · exact commitEgress_moves _ e s
  · exact (RosterMoves.refl.putEntry (by simp) _ e).trans (redefine_moves _ _)
  · exact commitNodeMap_moves _ e s
  · exact commitRoster_moves h
  · have hput : RosterMoves s (putEntry 9 i e s) := RosterMoves.refl.putEntry (by simp) i e
    exact .ite (fun _ => hput.trans (restProfile_moves _ _)) fun _ => hput
  · exact (RosterMoves.refl.putEntry (by simp) _ e).trans (preheatNews_moves _)
  · exact RosterMoves.refl.putEntry (by assumption) _ e

end Sys2Proof.Machine
end

section
/-! PROOF. Every command but START_UP moves the roster by its moves, and so do settling and a passing second. -/

namespace Sys2Proof.Machine

set_option Elab.async false -- one theorem after another: each would otherwise take a thread with its own large stack

/-! ### Setup requests (R184 to R195) -/

theorem tryCommit_moves (c : Cursor) (parts : List (List Byte)) (s : State) : RosterMoves s (tryCommit c parts s).2 := by
  have hdropped : RosterMoves s (dropStaging s) := RosterMoves.refl.keep dropStaging
  simp only [tryCommit]
  split
  · exact hdropped
  · split
    next hcheck => exact (hdropped.trans (commitEntry_moves hcheck)).modSetup _
    next => exact hdropped

theorem stagePart_moves (c : Cursor) (parts : List (List Byte)) (s : State) : RosterMoves s (stagePart c parts s).2 := by
  unfold stagePart
  split
  · exact tryCommit_moves c parts s
  · exact RosterMoves.refl.modSetup _

theorem wrpDecide_moves (c : Cursor) (part : Nat) (b : List Byte) (s : State) : RosterMoves s (wrpDecide c part b s).2 := by
  have hdropped : RosterMoves s (dropStaging s) := RosterMoves.refl.keep dropStaging
  unfold wrpDecide
  split
  · exact .refl
  · split
    · exact hdropped
    · split
      · split
        · exact hdropped
        · exact stagePart_moves _ _ s
      · split
        · split
          · exact stagePart_moves _ _ s
          · exact hdropped
        · exact hdropped

theorem wrpRequest_moves (d : List Byte) (s : State) : RosterMoves s (wrpRequest d s).state := by
  unfold wrpRequest
  split
  · exact .refl
  · exact wrpDecide_moves _ _ _ s

theorem selRequest_moves (d : List Byte) (s : State) : RosterMoves s (selRequest d s).state := by
  simp only [selRequest]
  split
  · exact RosterMoves.refl.modSetup _
  · exact .refl

theorem rdpRequest_moves (d : List Byte) (s : State) : RosterMoves s (rdpRequest d s).state := by
  simp only [rdpRequest]
  repeat' split
  all_goals exact RosterMoves.refl.frame (by simp)

theorem whenIdle_moves {s : State} {a : Answer} (h : RosterMoves s a.state) : RosterMoves s (whenIdle s a).state := by
  unfold whenIdle
  split
  · exact .refl
  · exact h

theorem savRequest_moves (s : State) : RosterMoves s (savRequest s).state := whenIdle_moves (.same rfl)

theorem lckRequest_moves (s : State) : RosterMoves s (lckRequest s).state := by
  refine whenIdle_moves ?_
  split
  · exact .refl
  · split
    · exact .refl
    · exact RosterMoves.refl.modSetup _

theorem arrangeRestart_moves (c : ResetCause) (s : State) : RosterMoves s (arrangeRestart c s) := RosterMoves.refl.modSetup _

theorem actRequest_moves (d : List Byte) (s : State) : RosterMoves s (actRequest d s).state := by
  simp only [actRequest]
  split
  · exact .refl
  · split <;> exact handAction_moves _ _ _ s

theorem staRequest_moves (d : List Byte) (s : State) : RosterMoves s (staRequest d s).state := by
  simp only [staRequest]
  repeat' split
  all_goals exact RosterMoves.refl.frame (by simp)

theorem answer_moves (r : Bool) (d : List Byte) {f : State → Answer} (hf : ∀ t, RosterMoves t (f t).state) (s : State) :
    RosterMoves s (answer r d f s) := by
  have hdropped : RosterMoves s (dropReceived s) := RosterMoves.refl.keep dropReceived
  refine RosterMoves.keep ?_ (offerResponse _)
  split
  · split
    · exact hdropped
    · exact hdropped.trans (hf _)
  · exact hdropped

theorem onRequest_moves (code : Nat) (r : Bool) {f : List Byte → State → Answer} (hf : ∀ d t, RosterMoves t (f d t).state)
    (s : State) : RosterMoves s (onRequest code r f s) := by
  unfold onRequest
  split
  · exact .ite (fun _ => answer_moves r _ (hf _) s) fun _ => .refl
  · exact .refl

theorem answerUnknown_moves (s : State) : RosterMoves s (answerUnknown s) := by
  unfold answerUnknown
  split
  · exact .ite (fun _ => answer_moves false _ (fun _ => .refl) s) fun _ => .refl
  · exact .refl

theorem discardNoTag_moves (s : State) : RosterMoves s (discardNoTag s) := by
  unfold discardNoTag
  split
  · exact .ite (fun _ => RosterMoves.refl.keep dropReceived) fun _ => .refl
  · exact .refl

theorem saveEnds_moves (good : Bool) (s : State) : RosterMoves s (saveEnds good s) := RosterMoves.refl.keep (saveEnds good)

theorem lockWriteEnds_moves (good : Bool) (s : State) : RosterMoves s (lockWriteEnds good s) :=
  RosterMoves.refl.keep (lockWriteEnds good)

/-! ### Resets (R202, R193) -/

theorem resetWith_moves (c : ResetCause) (s : State) : RosterMoves s (resetWith c s) := .one (.restart s.rosterView)

theorem restartNow_moves (s : State) : RosterMoves s (restartNow s) := by
  unfold restartNow
  split
  · exact resetWith_moves _ s
  · exact .refl

/-! ### The cab bus (chapter 1) -/

theorem ingressTakes_moves (s : State) : RosterMoves s (ingressTakes s) := by
  unfold ingressTakes
  split
  · exact .ite (fun _ => (RosterMoves.refl.keep dropReceived).trans (matchFrame_moves _ _)) fun _ => .refl
  · exact .refl

theorem signalStaleStep_moves (n : Nat) (s : State) : RosterMoves s (signalStaleStep n s) :=
  .ite (fun _ => (turnStale_moves n s).qualify) fun _ => .refl

/-! ### The steps that follow (assumption 2) -/

theorem levelAssertStep_moves (l : WatchLevel) (s : State) : RosterMoves s (levelAssertStep l s) :=
  .ite (fun _ => (assertLevel_moves l s).qualify) fun _ => .refl

theorem levelClearStep_moves (l : WatchLevel) (s : State) : RosterMoves s (levelClearStep l s) :=
  .ite (fun _ => (clearLevel_moves l s).qualify) fun _ => .refl

theorem estimateCloseStep_moves (s : State) : RosterMoves s (estimateCloseStep s) :=
  .ite (fun _ => RosterMoves.refl.modEnergy fun _ => rfl) fun _ => .refl

theorem blindStep_moves (s : State) : RosterMoves s (blindStep s) :=
  .ite (fun _ => RosterMoves.refl.modEnergy fun _ => rfl) fun _ => .refl

theorem fullChargeStep_moves (s : State) : RosterMoves s (fullChargeStep s) := .ite (fun _ => fullCharge_moves s) fun _ => .refl

theorem loopFailedStep_moves (s : State) : RosterMoves s (loopFailedStep s) :=
  .ite (fun _ => (loopFails_moves s).qualify) fun _ => .refl

theorem manualLimitStep_moves (s : State) : RosterMoves s (manualLimitStep s) :=
  .ite (fun _ => (manualExpires_moves s).roster.qualify) fun _ => .refl

theorem preheatCloseStep_moves (s : State) : RosterMoves s (preheatCloseStep s) :=
  .ite (fun _ => (windowExpires_moves s).qualify) fun _ => .refl

theorem nodePresentStep_moves (p : Nat) (s : State) : RosterMoves s (nodePresentStep p s) :=
  .ite (fun _ => gainNode_moves p s) fun _ => .refl

theorem nodeLostStep_moves (p : Nat) (s : State) : RosterMoves s (nodeLostStep p s) :=
  .ite (fun _ => loseNode_moves .lost p s) fun _ => .refl

theorem receivedCycleEndStep_moves (s : State) : RosterMoves s (receivedCycleEndStep s) :=
  .ite (fun _ => RosterMoves.refl.keep receivedCycleEnds) fun _ => .refl

theorem dueSteps_moves (s : State) : RosterMoves s (dueSteps s) := by
  have hsignals : RosterMoves s (s.forEach (List.range 32) signalStaleStep) := RosterMoves.refl.forEach _ signalStaleStep_moves
  have hdrained := hsignals.trans (drainReceived_moves _)
  have hcutoff := (hdrained.trans (levelAssertStep_moves .cutoff _)).trans (levelClearStep_moves .cutoff _)
  have hlow := (hcutoff.trans (levelAssertStep_moves .low _)).trans (levelClearStep_moves .low _)
  have hcharge := ((hlow.trans (fullChargeStep_moves _)).trans (blindStep_moves _)).trans (estimateCloseStep_moves _)
  have hstall := hcharge.forEach positions fun p t => RosterMoves.refl.keep (commandStallStep p)
  have hloop := (hstall.keep windowEndStep).trans (loopFailedStep_moves _)
  exact (hloop.trans (manualLimitStep_moves _)).trans (preheatCloseStep_moves _)

theorem settle_moves (s : State) : RosterMoves s (settle s) := by
  refine .ite (fun _ => .refl) fun _ => .ite (fun _ => restartNow_moves s) fun _ => ?_
  have hbefore : RosterMoves s (egressSettle 17 (admissionStep (admissionStep (busOffStep s)))) := RosterMoves.refl.frame (by simp)
  exact ((hbefore.trans (dueSteps_moves _)).keep admissionStep).keep admissionStep

theorem external_moves {f : State → State} (hf : ∀ t, RosterMoves t (f t)) (s : State) : RosterMoves s (external f s) :=
  .ite (fun _ => settle_moves s) fun _ => ((settle_moves s).trans (hf _)).qualify

theorem internal_moves {f : State → State} (hf : ∀ t, RosterMoves t (f t)) (s : State) : RosterMoves s (internal f s) :=
  .ite (fun _ => .refl) fun _ => (hf s).qualify

/-! ### Passing seconds (assumption 3) -/

theorem whenRuns_moves (timer : State → Option Nat) {f : State → State} (hf : ∀ t, RosterMoves t (f t)) (s : State) :
    RosterMoves s (whenRuns (timer s) f s) :=
  .ite (fun _ => hf s) fun _ => .refl

theorem surgeLimitExpires_moves (s : State) : RosterMoves s (surgeLimitExpires s) := by
  unfold surgeLimitExpires
  split
  next h _ => exact (surgeDone_moves .heater h.entry s).roster
  next => exact .refl

/-- Then an expiry, where its timer is found at its limit. -/
theorem RosterMoves.expireIf {s t : State} (h : RosterMoves s t) {c : State → Bool} {f : State → State}
    (hf : ∀ u, RosterMoves u (f u)) : RosterMoves s (expireIf c f t) :=
  .ite (fun _ => h.trans (hf t)) fun _ => h

theorem timersExpire_moves (protecting : Bool) (s : State) : RosterMoves s (timersExpire protecting s) := by
  have owner {k : LoadKind} {f : State → State} (hf : ∀ t, OwnerMoves k t (f t)) (t : State) : RosterMoves t (qualify (f t)) :=
    (hf t).roster.qualify
  unfold timersExpire
  have hquiet (t : State) : RosterMoves t (quietExpires t) := RosterMoves.refl.keep quietExpires
  have hnotice (t : State) : RosterMoves t (noticeRepeatExpires t) := RosterMoves.refl.keep noticeRepeatExpires
  have hwarning (t : State) : RosterMoves t (qualify (repeatExpires t)) := (repeatExpires_moves t).qualify
  refine (RosterMoves.expireIf ?_ hwarning).expireIf hnotice |>.expireIf hquiet
  refine (RosterMoves.expireIf ?_ (owner minimumOffExpires_moves)).expireIf (owner protectExpires_moves)
  refine (RosterMoves.expireIf ?_ (owner surgeHoldExpires_moves)).expireIf (owner minimumOnExpires_moves)
  refine (RosterMoves.expireIf ?_ (owner purgeExpires_moves)).expireIf (owner levelHoldExpires_moves)
  refine (RosterMoves.expireIf ?_ fun t => ?_).expireIf (owner ignitionExpires_moves)
  · exact .refl
  · exact (surgeLimitExpires_moves t).qualify

theorem secondCounted_moves (s : State) : RosterMoves s (secondCounted s) := by
  have hcounted : RosterMoves s (countSecond (roundEnds s)) :=
    (RosterMoves.refl.keep roundEnds).trans (.same (countSecond_rosterView _))
  exact hcounted.expireIf fun t => RosterMoves.refl.keep rejoinBus

theorem secondPasses_moves (s : State) : RosterMoves s (secondPasses s) := by
  have hexpired := ((secondCounted_moves s).trans (timersExpire_moves s.protectRuns _)).qualify
  rw [secondPasses_eq, secondExpired]
  exact (hexpired.expireIf enterStandby_moves).expireIf restartNow_moves

/-! ### Every command but START_UP -/

/-- What holds of the state an outcome carries holds of the state the step leads to. -/
theorem holds_of_next {P : State → Prop} {t u : State} (h : P u) (he : (.next u : Host.Outcome State Fault Refusal) = .next t) :
    P t := by
  cases he
  exact h

theorem exec_moves {c : Instr} {s t : State} (hc : ∀ d, c ≠ .startUp d) (ht : exec c s = .next t) : RosterMoves s t := by
  have request (code : Nat) (r : Bool) (f : List Byte → State → Answer) (hf : ∀ d t, RosterMoves t (f d t).state) :=
    external_moves (onRequest_moves code r hf) s
  have owner {k : LoadKind} (timer : State → Option Nat) {f : State → State} (hf : ∀ t, OwnerMoves k t (f t)) :=
    external_moves (whenRuns_moves timer fun t => (hf t).roster) s
  cases c with
  | frameReceived f =>
    by_cases hf : f.wellFormed
    · simp only [exec, execFrameReceived, hf, if_true] at ht
      exact holds_of_next (external_moves (fun t => RosterMoves.refl.keep (frameReceived f)) s) ht
    · simp [exec, execFrameReceived, hf] at ht
  | ingressMatch => exact holds_of_next (external_moves ingressTakes_moves s) ht
  | setupNoTag => exact holds_of_next (external_moves discardNoTag_moves s) ht
  | unknownRequest => exact holds_of_next (external_moves answerUnknown_moves s) ht
  | idReq => exact holds_of_next (request _ _ _ fun _ _ => .refl) ht
  | selReq => exact holds_of_next (request _ _ _ selRequest_moves) ht
  | wrpReq => exact holds_of_next (request _ _ _ wrpRequest_moves) ht
  | rdpReq => exact holds_of_next (request _ _ _ rdpRequest_moves) ht
  | savReq => exact holds_of_next (request _ _ _ fun _ => savRequest_moves) ht
  | saveComplete ok => exact holds_of_next (external_moves (saveEnds_moves ok) s) ht
  | defReq => exact holds_of_next (request _ _ _ fun _ t => whenIdle_moves (arrangeRestart_moves .defaults t)) ht
  | lckReq => exact holds_of_next (request _ _ _ fun _ => lckRequest_moves) ht
  | lockWriteComplete ok => exact holds_of_next (external_moves (lockWriteEnds_moves ok) s) ht
  | clrReq => exact holds_of_next (request _ _ _ fun _ t => RosterMoves.refl.frame (by simp [clrRequest])) ht
  | actReq => exact holds_of_next (request _ _ _ actRequest_moves) ht
  | rfrReq => exact holds_of_next (request _ _ _ fun _ => reframe_moves) ht
  | rstReq => exact holds_of_next (request _ _ _ fun _ => arrangeRestart_moves .restart) ht
  | staReq => exact holds_of_next (request _ _ _ staRequest_moves) ht
  | restartTrigger => exact holds_of_next (internal_moves restartNow_moves s) ht
  | signalStale n => exact holds_of_next (internal_moves (signalStaleStep_moves n.val) s) ht
  | batteryBlindSet => exact holds_of_next (internal_moves blindStep_moves s) ht
  | loopFailedAssert => exact holds_of_next (internal_moves loopFailedStep_moves s) ht
  | receivedCycleEnd => exact holds_of_next (internal_moves receivedCycleEndStep_moves s) ht
  | statusMessage => exact holds_of_next (internal_moves takeMessage_moves s) ht
  | nodePresent p => exact holds_of_next (internal_moves (nodePresentStep_moves p.val) s) ht
  | nodeLost p => exact holds_of_next (internal_moves (nodeLostStep_moves p.val) s) ht
  | estimateWindowClose => exact holds_of_next (internal_moves estimateCloseStep_moves s) ht
  | levelAssert l => exact holds_of_next (internal_moves (levelAssertStep_moves l) s) ht
  | levelClear l => exact holds_of_next (internal_moves (levelClearStep_moves l) s) ht
  | fullChargeEvent => exact holds_of_next (internal_moves fullChargeStep_moves s) ht
  | manualLimitExpiry => exact holds_of_next (internal_moves manualLimitStep_moves s) ht
  | preheatWindowClose => exact holds_of_next (internal_moves preheatCloseStep_moves s) ht
  | transmitCycle => exact holds_of_next (external_moves transmitCycle_moves s) ht
  | receivedRound bits => exact holds_of_next (external_moves (receivedRound_moves bits) s) ht
  | budgetTick => exact holds_of_next (external_moves budgetTick_moves s) ht
  | surgeLimitExpiry => exact holds_of_next (external_moves surgeLimitExpires_moves s) ht
  | ignitionTimeout => exact holds_of_next (owner (fun t => t.heater.ignition) ignitionExpires_moves) ht
  | purgeLimit => exact holds_of_next (owner (fun t => t.heater.purge) purgeExpires_moves) ht
  | levelHoldExpiry => exact holds_of_next (owner (fun t => t.heater.levelHold) levelHoldExpires_moves) ht
  | minimumOnExpiry => exact holds_of_next (owner (fun t => t.fridge.minOn) minimumOnExpires_moves) ht
  | minimumOffExpiry => exact holds_of_next (owner (fun t => t.fridge.minOff) minimumOffExpires_moves) ht
  | surgeHoldExpiry => exact holds_of_next (owner (fun t => t.fridge.surgeHold) surgeHoldExpires_moves) ht
  | protectTimerExpiry =>
    exact holds_of_next (external_moves (fun t => .ite (fun _ => (protectExpires_moves t).roster) fun _ => .refl) s) ht
  | minuteTick => exact holds_of_next (external_moves minutePasses_moves s) ht
  | repeatTimerExpiry => exact holds_of_next (external_moves (whenRuns_moves (fun t => t.rest.repeatTimer) repeatExpires_moves) s) ht
  | standbyEntry => exact holds_of_next (external_moves standbyExpires_moves s) ht
  | canWake => exact holds_of_next (external_moves canWakes_moves s) ht
  | wakeLineEdge e => exact holds_of_next (external_moves (wakeLine_moves e) s) ht
  | reset c => exact holds_of_next (resetWith_moves c s) ht
  | startUp d => exact absurd rfl (hc d)
  | signalAgeTick | egressPass | frameTransmitted | transmitError | busOffRecovery | noticeRepeat | quietTimerExpiry =>
    exact holds_of_next (external_moves (fun t => RosterMoves.refl.frame (by simp)) s) ht
  | egressCountdownExpiry | busOff | priorityFrameAdmitted | errorWindowEnd | commandStall =>
    exact holds_of_next (internal_moves (fun t => RosterMoves.refl.frame (by simp)) s) ht

end Sys2Proof.Machine
end

section
/-! PROOF. What START_UP makes of the roster (R60, R203), what a step makes of it, and the statements on the surge places, the entries and
the protected loads (O12, O13, O17). -/

namespace Sys2Proof.Machine

set_option Elab.async false -- one theorem after another: each would otherwise take a thread with its own large stack

/-! ### START_UP (R203) -/

/-- A roster table taken over, with its valid entries set up afresh (R60). -/
def RosterView.started (v : RosterView) (m : Table) : RosterView :=
  ({ v with table := m } : RosterView).validEntries.foldl (fun w i => w.modify i fun _ => Standing.idle) { v with table := m }

/-- `w` is reached from `v` by owners' moves. -/
def RosterView.Owned (v w : RosterView) : Prop := Relation.ReflTransGen (fun v w => ∃ k, OwnerMove k v w) v w

theorem OwnerMoves.owned {k : LoadKind} {s t : State} (h : OwnerMoves k s t) : s.rosterView.Owned t.rosterView :=
  Relation.ReflTransGen.mono (fun _ _ hm => ⟨k, hm⟩) _ _ h

/-- The part with the image loaded and the retention area checked: start-up before its blocks start (R203). -/
def State.imageLoaded (s : State) (d : StoreDamage) : State :=
  let l := loadImage s.power.cause (s.store.damaged d)
  let lost := l.cause ≠ .powerOn ∧ d.retention
  let s := { s with store := l.store, tables := l.tables }
  let s := s.modSetup fun x => { x with image := l.image, lock := l.lock }
  let s := s.modPower fun p => { p with cause := if lost then .powerOn else l.cause }
  if lost then s.modRet fun _ => Retention.init s.energySettings.capacity else s

/-- The part with its nodes and its roster entries set up, the accountant not yet started (R203, step 6). -/
def State.entriesSetUp (s : State) : State := (nodesStartUp s).forEach (nodesStartUp s).validEntries setUpEntry

/-- The part whose blocks have started but for the fridge, the rest clock and the heater's demand (R203, step 6). -/
def State.accountantStarted (s : State) : State :=
  (egressStartUp (energyStartUp (s.power.cause == .powerOn) s)).modPanel fun p =>
    { p with backlight := (egressStartUp (energyStartUp (s.power.cause == .powerOn) s)).lightSettings.dayBacklight }

theorem startUpWith_eq (d : StoreDamage) (s : State) :
    startUpWith d s = openReception (heaterRefresh (restStartUp (fridgeStartUp (heaterStartUp
      (s.imageLoaded d).entriesSetUp.accountantStarted)))) := rfl

theorem imageLoaded_rosterView (s : State) (d : StoreDamage) :
    (s.imageLoaded d).rosterView =
      { s.rosterView with table := (loadImage s.power.cause (s.store.damaged d)).tables.roster } := by
  unfold State.imageLoaded
  dsimp only
  split <;> rfl

theorem setUpEntry_rosterView (i : Nat) (s : State) :
    (setUpEntry i s).rosterView = s.rosterView.modify i fun _ => Standing.idle :=
  s.modLive_rosterView i fun _ => rfl

theorem entriesSetUp_rosterView (s : State) (d : StoreDamage) :
    (s.imageLoaded d).entriesSetUp.rosterView =
      s.rosterView.started (loadImage s.power.cause (s.store.damaged d)).tables.roster := by
  have hnodes : (nodesStartUp (s.imageLoaded d)).rosterView = (s.imageLoaded d).rosterView := State.rosterView_eq (by simp)
  rw [State.entriesSetUp, State.forEach_rosterView (g := fun w i => w.modify i fun _ => Standing.idle) setUpEntry_rosterView,
    State.validEntries_eq_view, hnodes, imageLoaded_rosterView]
  rfl

theorem energyStartUp_rosterView (powerOn : Bool) (s : State) : (energyStartUp powerOn s).rosterView = s.rosterView := by
  unfold energyStartUp
  split
  · exact ((setCharge _ _).modEnergy_rosterView fun _ => rfl).trans (State.rosterView_eq (by simp))
  · exact State.rosterView_eq (by simp)

theorem accountantStarted_rosterView (s : State) : s.accountantStarted.rosterView = s.rosterView :=
  (State.rosterView_eq (by simp [State.accountantStarted])).trans (energyStartUp_rosterView (s.power.cause == .powerOn) s)

/-- START_UP takes over the table of the image, sets its entries up afresh, and lets the owners ask. -/
theorem startUpWith_owned (d : StoreDamage) (s : State) :
    (s.rosterView.started (loadImage s.power.cause (s.store.damaged d)).tables.roster).Owned
      (qualify (startUpWith d s)).rosterView := by
  set u := (s.imageLoaded d).entriesSetUp.accountantStarted with hu
  have hview : u.rosterView = s.rosterView.started (loadImage s.power.cause (s.store.damaged d)).tables.roster :=
    (accountantStarted_rosterView _).trans (entriesSetUp_rosterView s d)
  have hfridge : OwnerMoves .fridge u (fridgeStartUp (heaterStartUp u)) :=
    (OwnerMoves.refl.keep heaterStartUp).trans (fridgeStartUp_moves _)
  have hheater : OwnerMoves .heater (fridgeStartUp (heaterStartUp u))
      (qualify (openReception (heaterRefresh (restStartUp (fridgeStartUp (heaterStartUp u)))))) :=
    (((restStartUp_moves _).trans (heaterRefresh_moves _)).keep openReception).keep qualify
  rw [← hview, startUpWith_eq]
  exact Relation.ReflTransGen.trans hfridge.owned hheater.owned

/-! ### Every step -/

/-- A step moves the roster by its moves, or it is a START_UP that finds the part held. -/
theorem step_rosterView {s t : State} (ht : step s = .next t) :
    Relation.ReflTransGen RosterMove s.rosterView t.rosterView ∨
      s.phase = .held ∧ ∃ d, (s.rosterView.started (loadImage s.power.cause (s.store.damaged d)).tables.roster).Owned t.rosterView := by
  cases hp : s.pending with
  | nil =>
    simp only [step, hp] at ht
    exact .inl (holds_of_next (external_moves secondPasses_moves s) ht)
  | cons c rest =>
    simp only [step, hp] at ht
    by_cases hc : ∃ d, c = .startUp d
    · obtain ⟨d, rfl⟩ := hc
      simp only [exec, execStartUp, Host.Outcome.next.injEq] at ht
      split at ht
      next hheld => exact .inr ⟨hheld, d, ht ▸ startUpWith_owned d { s with pending := rest }⟩
      next => exact .inl (ht ▸ .refl)
    · exact .inl (exec_moves (s := { s with pending := rest }) (fun d hd => hc ⟨d, hd⟩) ht)

/-- A property that every move of the roster keeps, and that START_UP establishes in a part held, is kept by every step. -/
theorem kept_by_step {I : RosterView → Prop} {s t : State} (hs : I s.rosterView) (hI : ∀ {v w}, I v → RosterMove v w → I w)
    (hstart : s.phase = .held → ∀ m, I (s.rosterView.started m)) (ht : step s = .next t) : I t.rosterView := by
  rcases step_rosterView ht with hmoves | ⟨hheld, d, howned⟩
  · exact kept_by_moves (I := I) hI hs hmoves
  · exact kept_by_moves (I := I) (fun hv ⟨_, hm⟩ => hI hv (.owner hm)) (hstart hheld _) howned

/-! ### A table taken over -/

namespace RosterView

theorem started_cases {P : RosterView → Prop} (v : RosterView) (m : Table) (hv : P { v with table := m })
    (hmodify : ∀ w i, P w → P (w.modify i fun _ => Standing.idle)) : P (v.started m) :=
  List.foldlRecOn (motive := P) _ _ hv fun w hw i _ => hmodify w i hw

theorem LivesOk.started {v : RosterView} (h : v.LivesOk) (m : Table) : (v.started m).LivesOk :=
  started_cases v m h fun _ _ hw => hw.modify .idle

theorem started_slot (v : RosterView) (m : Table) : (v.started m).slot = v.slot :=
  started_cases (P := fun w => w.slot = v.slot) v m rfl fun _ _ hw => hw

theorem started_idle {v : RosterView} (h : ∀ i, v.standing i = Standing.idle) (m : Table) (i : Nat) :
    (v.started m).standing i = Standing.idle :=
  started_cases (P := fun w => w.standing i = Standing.idle) v m (h i) fun w j hw =>
    standing_modify_cases (P := (· = Standing.idle)) w j i _ (fun _ => rfl) hw

theorem lawful_of_idle {v : RosterView} (h : ∀ i, v.standing i = Standing.idle) : v.Lawful := fun i _ => h i ▸ .idle

end RosterView

/-- A part held in reset has no surge place taken and no entry on its way (R60, R76). -/
theorem held_rosterView {s : State} (hok : s.HeldOk) (h : s.phase = .held) : s.rosterView = RosterView.reset := by
  rw [hok h]
  rfl

/-! ### The statements in terms of the view -/

theorem State.slot_eq (s : State) :
    s.rosterView.slot = ((s.roster.holder.toList.map (·.entry)) ++ s.roster.queue.map (·.entry) : List Nat) := by
  simp only [RosterView.slot, State.rosterView]
  cases s.roster.holder <;> rfl

theorem State.slotOk_iff (s : State) : s.SlotOk ↔ s.rosterView.SlotOk := by
  have hserved : s.rosterView.Served ↔ (s.roster.holder = none → s.roster.queue = []) := by
    simp [RosterView.Served, State.rosterView]
  have hon : (∀ i ∈ s.rosterView.slot, (s.rosterView.cfg i).valid = true ∧ (s.rosterView.standing i).grant = .on) ↔
      (∀ h, s.roster.holder = some h → (s.cfg h.entry).valid = true ∧ (s.live h.entry).grant = .on) ∧
        ∀ p ∈ s.roster.queue, (s.cfg p.entry).valid = true ∧ (s.live p.entry).grant = .on := by
    simp only [s.slot_eq, Multiset.mem_coe, List.mem_append, List.mem_map, Option.mem_toList, or_imp,
      forall_exists_index, and_imp, forall_and, forall_apply_eq_imp_iff₂, State.grant_eq_view, ← State.cfg_eq_view]
    tauto
  constructor
  · rintro ⟨hholder, hqueue, hnodup, hfree⟩
    exact ⟨hon.mpr ⟨hholder, hqueue⟩, s.slot_eq ▸ Multiset.coe_nodup.mpr hnodup, hserved.mpr hfree⟩
  · rintro ⟨hall, hnodup, hfree⟩
    obtain ⟨hholder, hqueue⟩ := hon.mp hall
    exact ⟨hholder, hqueue, Multiset.coe_nodup.mp (s.slot_eq ▸ hnodup), hserved.mp hfree⟩

theorem State.livesOk_iff (s : State) : (∀ l ∈ s.roster.live, l.Ok) ↔ s.rosterView.LivesOk := by
  constructor
  · intro h i
    simp only [RosterView.standing, State.rosterView, List.getD_eq_getElem?_getD, List.getElem?_map]
    cases hl : s.roster.live[i]? with
    | none => exact .idle
    | some l => exact h l (List.mem_of_getElem? hl)
  · intro h l hl
    obtain ⟨i, hi⟩ := List.getElem?_of_mem hl
    have hok := h i
    simp only [RosterView.standing, State.rosterView, List.getD_eq_getElem?_getD, List.getElem?_map, hi] at hok
    exact hok

theorem State.protectLaw_iff (s : State) : s.ProtectLaw ↔ s.rosterView.Lawful := by
  simp only [State.ProtectLaw, RosterView.Lawful, RosterView.LawfulAt, Standing.Lawful, State.grant_eq_view, State.protect_eq_view]
  rfl

theorem State.oneEach_iff (s : State) : s.OneEach ↔ OneEachIn s.rosterView.table := s.tables.oneEach_iff

/-- Settles O12: every move of the roster keeps the surge places right, and START_UP finds none taken. -/
theorem surgePlacesStayOn : Obligations.SurgePlacesStayOn := by
  intro s t hheld hslot ht
  rw [State.slotOk_iff] at hslot ⊢
  refine kept_by_step hslot RosterView.SlotOk.move (fun h m => .empty ?_) ht
  rw [RosterView.started_slot, held_rosterView hheld h]
  rfl

/-- Settles O17: every move of the roster keeps the law where there is one FRIDGE entry at most, and START_UP finds every entry at rest. -/
theorem protectedLoadsStayUnlessCutoff : Obligations.ProtectedLoadsStayUnlessCutoff := by
  intro s t hheld _ hone hlaw ht
  rw [State.protectLaw_iff] at hlaw ⊢
  rw [State.oneEach_iff] at hone
  rcases step_rosterView ht with hmoves | ⟨h, d, howned⟩
  · have hboth := kept_by_moves (I := fun v => OneEachIn v.table ∧ v.Lawful)
      (fun ⟨hv, hw⟩ hm => ⟨RosterView.oneEach_move hv hm, hw.move hv hm⟩) ⟨hone, hlaw⟩ hmoves
    exact hboth.2
  · refine kept_by_moves (I := RosterView.Lawful) (fun hv ⟨_, hm⟩ => hv.ownerMove hm) ?_ howned
    exact RosterView.lawful_of_idle (RosterView.started_idle (held_rosterView hheld h ▸ RosterView.reset_standing) _)

/-- Every step keeps want and shed reason of every entry in agreement with its grant state. -/
theorem step_livesOk {s t : State} (hs : ∀ l ∈ s.roster.live, l.Ok) (ht : step s = .next t) : ∀ l ∈ t.roster.live, l.Ok := by
  rw [State.livesOk_iff] at hs ⊢
  exact kept_by_step hs RosterView.LivesOk.move (fun _ m => hs.started m) ht

end Sys2Proof.Machine
end

section
/-! PROOF. The images of the store keep one HEATER and one FRIDGE entry (R58, R191 to R193, R203; O13). -/

namespace Sys2Proof.Machine

set_option Elab.async false -- one theorem after another: each would otherwise take a thread with its own large stack

/-- Every image in the store and the one being written has at most one valid HEATER and one valid FRIDGE entry (R58). -/
def Store.ImagesOk (x : Store) : Prop := ∀ c : ImageCopy, some c ∈ x.copies ∨ x.writing = some c → OneEachIn c.tables.roster

theorem State.imagesOneEach_iff (s : State) : s.ImagesOneEach ↔ s.store.ImagesOk := by
  simp only [State.ImagesOneEach, Store.ImagesOk, Tables.oneEach_iff]

namespace Store.ImagesOk

variable {x y : Store}

/-- No images but those there were. -/
theorem of_le (h : x.ImagesOk) (hle : ∀ c, some c ∈ y.copies ∨ y.writing = some c → some c ∈ x.copies ∨ x.writing = some c) :
    y.ImagesOk :=
  fun c hc => h c (hle c hc)

/-- A save begun: the image it writes is that of the tables in force (R191). -/
theorem saving (h : x.ImagesOk) {t : Tables} (ht : OneEachIn t.roster) (n : Nat) :
    ({ x with writing := some (makeCopy n t) } : Store).ImagesOk := by
  rintro c (hc | hc)
  · exact h c (.inl hc)
  · exact Option.some.inj hc ▸ ht

/-- A save ended well: the image written is one of the copies (R191). -/
theorem saved (h : x.ImagesOk) :
    ({ x with copies := x.copies.set x.target x.writing, current := some x.target, writing := none } : Store).ImagesOk := by
  refine h.of_le fun c hc => ?_
  rcases hc with hc | hc
  · exact (List.mem_or_eq_of_mem_set hc).imp id Eq.symm
  · cases hc

theorem tear (h : x.ImagesOk) : x.tear.ImagesOk := by
  unfold Store.tear
  split
  · refine h.of_le fun c hc => ?_
    rcases hc with hc | hc
    · rcases List.mem_or_eq_of_mem_set hc with hc | hc
      · exact .inl hc
      · cases hc
    · cases hc
  · exact h

theorem erased (h : x.ImagesOk) : x.erased.ImagesOk :=
  h.of_le fun c hc => hc.imp (fun hc => by simp [Store.erased] at hc) id

theorem mem_of_getD {k : Nat} {c : ImageCopy} (h : x.copies.getD k none = some c) : some c ∈ x.copies := by
  rw [List.getD_eq_getElem?_getD] at h
  cases hk : x.copies[k]? with
  | none => simp [hk] at h
  | some o =>
    rw [hk, Option.getD_some] at h
    exact h ▸ List.mem_of_getElem? hk

theorem damaged (h : x.ImagesOk) (d : StoreDamage) : (x.damaged d).ImagesOk := by
  have hkept {lost : Bool} {k : Nat} {c : ImageCopy} (hc : some c = if lost then none else x.copies.getD k none) :
      some c ∈ x.copies := by
    split at hc
    · cases hc
    · exact mem_of_getD hc.symm
  refine h.of_le fun c hc => hc.imp (fun hc => ?_) id
  rcases List.mem_pair.mp hc with hc | hc
  · exact hkept hc
  · exact hkept hc

/-- A copy that checks is one of the images. -/
theorem good (h : x.ImagesOk) {k : Nat} {c : ImageCopy} (hc : x.good k = some c) : OneEachIn c.tables.roster := by
  refine h c (.inl ?_)
  unfold Store.good at hc
  split at hc
  next c' hk =>
    split at hc
    · exact Option.some.inj hc ▸ mem_of_getD hk
    · cases hc
  next => cases hc

theorem loadDefaults (h : x.ImagesOk) (c : ResetCause) :
    (loadDefaults x c).store.ImagesOk ∧ OneEachIn (loadDefaults x c).tables.roster :=
  ⟨h.erased, defaultRoster_oneEach⟩

/-- What start-up loads is an image of the store or the defaults, and it adds no image (R203). -/
theorem loadImage (h : x.ImagesOk) (c : ResetCause) :
    (loadImage c x).store.ImagesOk ∧ OneEachIn (loadImage c x).tables.roster := by
  unfold Machine.loadImage
  dsimp only
  set y := if c = .defaults then x.erased else x with hy
  have hfound : y.ImagesOk := by
    rw [hy]
    split
    · exact h.erased
    · exact h
  split
  · exact hfound.loadDefaults c
  · split
    · exact hfound.loadDefaults c
    · exact hfound.loadDefaults c
    next hgood _ => exact ⟨hfound, hfound.good hgood⟩

end Store.ImagesOk

/-! ### Operations that keep the images right -/

/-- An operation that keeps the images right where the table in force is. -/
def KeepsImages (f : State → State) : Prop := ∀ s, OneEachIn s.rosterView.table → s.store.ImagesOk → (f s).store.ImagesOk

theorem KeepsImages.of_store {f : State → State} (h : ∀ s, (f s).store = s.store) : KeepsImages f := fun s _ hs => h s ▸ hs

theorem RosterMoves.oneEach {s t : State} (h : RosterMoves s t) (hs : OneEachIn s.rosterView.table) :
    OneEachIn t.rosterView.table :=
  kept_by_moves (I := fun v => OneEachIn v.table) RosterView.oneEach_move hs h

theorem resetWith_keepsImages (c : ResetCause) : KeepsImages (resetWith c) := fun _ _ hs => hs.tear

theorem restartNow_keepsImages : KeepsImages restartNow := by
  intro s hone hs
  unfold restartNow
  split
  · exact resetWith_keepsImages _ s hone hs
  · exact hs

theorem settle_keepsImages : KeepsImages settle := by
  intro s hone hs
  unfold settle
  split
  · exact hs
  · split
    · exact restartNow_keepsImages s hone hs
    · simpa using hs

theorem external_keepsImages {f : State → State} (hf : KeepsImages f) : KeepsImages (external f) := by
  intro s hone hs
  have hsettled := settle_keepsImages s hone hs
  simp only [external]
  split
  · exact hsettled
  · simpa using hf _ ((settle_moves s).oneEach hone) hsettled

theorem internal_keepsImages {f : State → State} (hf : KeepsImages f) : KeepsImages (internal f) := by
  intro s hone hs
  unfold internal
  split
  · exact hs
  · simpa using hf s hone hs

/-! ### Setup requests and the ends of writes (R184 to R193) -/

@[simp] theorem tryCommit_store (c : Cursor) (parts : List (List Byte)) (s : State) : (tryCommit c parts s).2.store = s.store := by
  simp only [tryCommit]
  split
  · simp
  · split <;> simp

@[simp] theorem stagePart_store (c : Cursor) (parts : List (List Byte)) (s : State) : (stagePart c parts s).2.store = s.store := by
  unfold stagePart
  split <;> simp

@[simp] theorem wrpDecide_store (c : Cursor) (part : Nat) (b : List Byte) (s : State) :
    (wrpDecide c part b s).2.store = s.store := by
  unfold wrpDecide
  repeat' split
  all_goals simp

theorem wrpRequest_store (d : List Byte) (s : State) : (wrpRequest d s).state.store = s.store := by
  unfold wrpRequest
  split <;> simp

theorem selRequest_store (d : List Byte) (s : State) : (selRequest d s).state.store = s.store := by
  simp only [selRequest]
  split <;> rfl

theorem rdpRequest_store (d : List Byte) (s : State) : (rdpRequest d s).state.store = s.store := by
  simp only [rdpRequest]
  repeat' split
  all_goals simp

theorem actRequest_store (d : List Byte) (s : State) : (actRequest d s).state.store = s.store := by
  simp only [actRequest]
  split
  · rfl
  · split <;> simp

theorem staRequest_store (d : List Byte) (s : State) : (staRequest d s).state.store = s.store := by
  simp only [staRequest]
  repeat' split
  all_goals rfl

theorem lckRequest_store (s : State) : (lckRequest s).state.store = s.store := by
  simp only [lckRequest, whenIdle]
  repeat' split
  all_goals rfl

theorem defRequest_store (s : State) : (defRequest s).state.store = s.store := by
  simp only [defRequest, whenIdle]
  split
  · rfl
  · simp

theorem savRequest_keepsImages : KeepsImages fun s => (savRequest s).state := by
  intro s hone hs
  simp only [savRequest, whenIdle]
  split
  · exact hs
  · exact hs.saving hone _

theorem offerResponse_store (f : TxFrame) (s : State) : (offerResponse f s).store = s.store := by simp

theorem answer_keepsImages (r : Bool) (d : List Byte) {f : State → Answer} (hf : KeepsImages fun s => (f s).state) :
    KeepsImages (answer r d f) := by
  intro s hone hs
  have hdropped : (dropReceived s).store.ImagesOk := by simpa using hs
  simp only [answer, offerResponse_store]
  split
  · split
    · exact hdropped
    · exact hf _ hone hdropped
  · exact hdropped

theorem onRequest_keepsImages (code : Nat) (r : Bool) {f : List Byte → State → Answer}
    (hf : ∀ d, KeepsImages fun s => (f d s).state) : KeepsImages (onRequest code r f) := by
  intro s hone hs
  unfold onRequest
  split
  · split
    · exact answer_keepsImages r _ (hf _) s hone hs
    · exact hs
  · exact hs

theorem answerUnknown_keepsImages : KeepsImages answerUnknown := by
  intro s hone hs
  unfold answerUnknown
  split
  · split
    · exact answer_keepsImages false _ (.of_store fun _ => rfl) s hone hs
    · exact hs
  · exact hs

theorem saveEnds_keepsImages (good : Bool) : KeepsImages (saveEnds good) := by
  intro s _ hs
  simp only [saveEnds]
  split
  · split
    · simpa using hs.saved
    · simpa using hs.tear
  · exact hs

theorem lockWriteEnds_keepsImages (good : Bool) : KeepsImages (lockWriteEnds good) := by
  intro s _ hs
  simp only [lockWriteEnds]
  split
  · split
    · exact hs
    · simpa using hs
  · exact hs

/-! ### Passing seconds -/

@[simp] theorem expireIf_store (c : State → Bool) (f : State → State) (s : State) (h : ∀ t, (f t).store = t.store) :
    (expireIf c f s).store = s.store := by
  unfold expireIf
  split
  · exact h s
  · rfl

theorem secondPasses_keepsImages : KeepsImages secondPasses := by
  intro s hone hs
  have hexpired : (secondExpired s).store = s.store := by simp [secondExpired, timersExpire, secondCounted]
  rw [secondPasses_eq, expireIf]
  split
  · rw [restartNow]
    split
    · exact (hexpired ▸ hs : (secondExpired s).store.ImagesOk).tear
    · exact hexpired ▸ hs
  · exact hexpired ▸ hs

/-! ### START_UP and every command -/

theorem startUpWith_tables (d : StoreDamage) (s : State) :
    (startUpWith d s).tables = (loadImage s.power.cause (s.store.damaged d)).tables ∧
      (startUpWith d s).store = (loadImage s.power.cause (s.store.damaged d)).store := by
  have hloaded : (s.imageLoaded d).tables = (loadImage s.power.cause (s.store.damaged d)).tables ∧
      (s.imageLoaded d).store = (loadImage s.power.cause (s.store.damaged d)).store := by
    unfold State.imageLoaded
    dsimp only
    split <;> exact ⟨rfl, rfl⟩
  have hblocks : startUpWith d s = openReception (blocksStartUp (s.imageLoaded d)) := rfl
  rw [hblocks]
  simpa using hloaded

theorem startUp_keepsImages (d : StoreDamage) : KeepsImages fun s => if s.phase = .held then qualify (startUpWith d s) else s := by
  intro s _ hs
  dsimp only
  split
  · simpa [(startUpWith_tables d s).2] using ((hs.damaged d).loadImage s.power.cause).1
  · exact hs

theorem imagesOk_of_next {t u : State} (h : u.store.ImagesOk) (he : (.next u : Host.Outcome State Fault Refusal) = .next t) :
    t.store.ImagesOk :=
  holds_of_next (P := fun u => u.store.ImagesOk) h he

theorem exec_imagesOk {c : Instr} {s t : State} (hone : OneEachIn s.rosterView.table) (hs : s.store.ImagesOk)
    (ht : exec c s = .next t) : t.store.ImagesOk := by
  have outside {f : State → State} (hf : KeepsImages f) := external_keepsImages hf s hone hs
  have inside {f : State → State} (hf : KeepsImages f) := internal_keepsImages hf s hone hs
  have request (code : Nat) (r : Bool) (f : List Byte → State → Answer) (hf : ∀ d t, (f d t).state.store = t.store) :=
    outside (onRequest_keepsImages code r fun d => .of_store (hf d))
  cases c with
  | frameReceived f =>
    by_cases hf : f.wellFormed
    · simp only [exec, execFrameReceived, hf, if_true] at ht
      exact imagesOk_of_next (outside (.of_store fun t => by simp)) ht
    · simp [exec, execFrameReceived, hf] at ht
  | unknownRequest => exact imagesOk_of_next (outside answerUnknown_keepsImages) ht
  | idReq => exact imagesOk_of_next (request _ _ _ fun _ _ => rfl) ht
  | selReq => exact imagesOk_of_next (request _ _ _ selRequest_store) ht
  | wrpReq => exact imagesOk_of_next (request _ _ _ wrpRequest_store) ht
  | rdpReq => exact imagesOk_of_next (request _ _ _ rdpRequest_store) ht
  | savReq => exact imagesOk_of_next (outside (onRequest_keepsImages _ _ fun _ => savRequest_keepsImages)) ht
  | saveComplete ok => exact imagesOk_of_next (outside (saveEnds_keepsImages ok)) ht
  | defReq => exact imagesOk_of_next (request _ _ _ fun _ => defRequest_store) ht
  | lckReq => exact imagesOk_of_next (request _ _ _ fun _ => lckRequest_store) ht
  | lockWriteComplete ok => exact imagesOk_of_next (outside (lockWriteEnds_keepsImages ok)) ht
  | clrReq => exact imagesOk_of_next (request _ _ _ fun _ t => by simp [clrRequest]) ht
  | actReq => exact imagesOk_of_next (request _ _ _ actRequest_store) ht
  | rfrReq => exact imagesOk_of_next (request _ _ _ fun _ t => by simp [rfrRequest]) ht
  | rstReq => exact imagesOk_of_next (request _ _ _ fun _ t => by simp [rstRequest]) ht
  | staReq => exact imagesOk_of_next (request _ _ _ staRequest_store) ht
  | restartTrigger => exact imagesOk_of_next (inside restartNow_keepsImages) ht
  | protectTimerExpiry => exact imagesOk_of_next (outside (.of_store fun t => by split <;> simp)) ht
  | reset c => exact imagesOk_of_next (resetWith_keepsImages c s hone hs) ht
  | startUp d => exact imagesOk_of_next (startUp_keepsImages d s hone hs) ht
  | signalStale | egressCountdownExpiry | priorityFrameAdmitted | batteryBlindSet | loopFailedAssert | errorWindowEnd
  | commandStall | receivedCycleEnd | statusMessage | nodePresent | nodeLost | estimateWindowClose | levelAssert
  | levelClear | fullChargeEvent | manualLimitExpiry | preheatWindowClose | busOff =>
    exact imagesOk_of_next (inside (.of_store fun t => by simp)) ht
  | ingressMatch | setupNoTag | frameTransmitted | transmitError | busOffRecovery | standbyEntry | signalAgeTick | egressPass
  | transmitCycle | receivedRound | budgetTick | surgeLimitExpiry | ignitionTimeout | purgeLimit | levelHoldExpiry
  | minimumOnExpiry | minimumOffExpiry | surgeHoldExpiry | minuteTick | repeatTimerExpiry | noticeRepeat
  | quietTimerExpiry | canWake | wakeLineEdge =>
    exact imagesOk_of_next (outside (.of_store fun t => by simp)) ht

theorem step_imagesOk {s t : State} (hone : OneEachIn s.rosterView.table) (hs : s.store.ImagesOk) (ht : step s = .next t) :
    t.store.ImagesOk := by
  cases hp : s.pending with
  | nil =>
    simp only [step, hp] at ht
    exact imagesOk_of_next (external_keepsImages secondPasses_keepsImages s hone hs) ht
  | cons c rest =>
    simp only [step, hp] at ht
    exact exec_imagesOk (s := { s with pending := rest }) hone hs ht

theorem started_table (v : RosterView) (m : Table) : (v.started m).table = m :=
  RosterView.started_cases (P := fun w => w.table = m) v m rfl fun _ _ hw => hw

/-- The table in force stays right: by every move, and by a START_UP that loads one of the images (R58, R203). -/
theorem step_oneEach {s t : State} (hone : OneEachIn s.rosterView.table) (hs : s.store.ImagesOk) (ht : step s = .next t) :
    OneEachIn t.rosterView.table := by
  rcases step_rosterView ht with hmoves | ⟨-, d, howned⟩
  · exact kept_by_moves (I := fun v => OneEachIn v.table) RosterView.oneEach_move hone hmoves
  · have htable := kept_by_moves
      (I := fun v => v.table = (loadImage s.power.cause (s.store.damaged d)).tables.roster)
      (fun hv ⟨_, hm⟩ => (RosterView.ownerMove_table hm).trans hv) (started_table _ _) howned
    exact htable ▸ ((hs.damaged d).loadImage s.power.cause).2

/-- Settles O13: entry by entry by every move of the roster, and for the tables by every commit, save and load. -/
theorem rosterEntriesStayConsistent : Obligations.RosterEntriesStayConsistent := by
  refine ⟨fun s t hs ht => step_livesOk hs ht, fun s t hone himages ht => ?_⟩
  rw [State.oneEach_iff] at hone ⊢
  rw [State.imagesOneEach_iff] at himages ⊢
  exact ⟨step_oneEach hone himages ht, step_imagesOk hone himages ht⟩

end Sys2Proof.Machine
end

section
/-! PROOF. What leaves the charge count and its residue as they were, operation by operation (R83; O11). -/

namespace Sys2Proof.Machine

set_option Elab.async false -- one theorem after another: each would otherwise take a thread with its own large stack

/-- The charge count with its residue: what integrating a current moves (R83). -/
def Retention.count (r : Retention) : Nat × Int := (r.charge, r.residue)

theorem Retention.count_def (r : Retention) : r.count = (r.charge, r.residue) := rfl

/-! ### Operations that leave the count (R83) -/

@[simp] theorem ite_count (c : Prop) [Decidable c] (s t : State) :
    (if c then s else t).ret.count = if c then s.ret.count else t.ret.count := by
  split <;> rfl

@[simp] theorem Retention.ite_count (c : Prop) [Decidable c] (r r' : Retention) :
    (if c then r else r').count = if c then r.count else r'.count := by
  split <;> rfl

@[simp] theorem forEach_count (s : State) (is : List Nat) (f : Nat → State → State) (h : ∀ i t, (f i t).ret.count = t.ret.count) :
    (s.forEach is f).ret.count = s.ret.count := by
  unfold State.forEach
  induction is generalizing s with
  | nil => rfl
  | cons i is ih => simp only [List.foldl_cons, ih, h]

@[simp] theorem Retention.count_eta (r : Retention) : (r.charge, r.residue) = r.count := rfl

@[simp] theorem Retention.count_mk (q : Nat) (r : Int) (e : Bool) (d f : Nat) (l : Bool) (c : Nat) (rest : RestRec) (p : Nat)
    (w : List Warning) (a : Option Active) (al lw : Option Nat) (pr : Option PreheatRec) :
    (Retention.mk q r e d f l c rest p w a al lw pr).count = (q, r) := rfl

@[simp] theorem State.modRestRec_count (f : RestRec → RestRec) (s : State) : (s.modRestRec f).ret.count = s.ret.count := by
  simp [State.modRestRec]

@[simp] theorem heaterFails_count (nodeFault : Bool) (s : State) : (heaterFails nodeFault s).ret.count = s.ret.count := by
  simp [heaterFails]

@[simp] theorem startSucceeds_count (s : State) : (startSucceeds s).ret.count = s.ret.count := by
  simp [startSucceeds]

@[simp] theorem heaterPhase_count (s : State) : (heaterPhase s).ret.count = s.ret.count := by
  simp only [heaterPhase]
  repeat' split
  all_goals simp

@[simp] theorem heatReset_count (s : State) : (heatReset s).ret.count = s.ret.count := by
  simp [heatReset]

@[simp] theorem ignitionExpires_count (s : State) : (ignitionExpires s).ret.count = s.ret.count := by
  simp [ignitionExpires]

@[simp] theorem enqueue_count (w : Warning) (s : State) : (enqueue w s).ret.count = s.ret.count := by
  simp [enqueue]

@[simp] theorem removeKind_count (k : WarnKind) (s : State) : (removeKind k s).ret.count = s.ret.count := by
  simp [removeKind]

@[simp] theorem endActive_count (s : State) : (endActive s).ret.count = s.ret.count := by
  simp only [endActive]
  repeat' split
  all_goals simp

@[simp] theorem endKinds_count (ks : List WarnKind) (s : State) : (endKinds ks s).ret.count = s.ret.count := by
  simp only [endKinds]
  repeat' split
  all_goals simp

@[simp] theorem displace_count (s : State) : (displace s).ret.count = s.ret.count := by
  simp only [displace]
  repeat' split
  all_goals simp

@[simp] theorem formPreheat_count (s : State) : (formPreheat s).ret.count = s.ret.count := by
  simp only [formPreheat]
  repeat' split
  all_goals simp

@[simp] theorem movePreheat_count (w : Option Nat) (s : State) : (movePreheat w s).ret.count = s.ret.count := by
  simp only [movePreheat]
  repeat' split
  all_goals simp

@[simp] theorem formWake_count (s : State) : (formWake s).ret.count = s.ret.count := by
  simp only [formWake]
  repeat' split
  all_goals simp

@[simp] theorem formSunrise_count (s : State) : (formSunrise s).ret.count = s.ret.count := by
  simp only [formSunrise]
  repeat' split
  all_goals simp

@[simp] theorem workOutWake_count (s : State) : (workOutWake s).ret.count = s.ret.count := by
  simp [workOutWake]

@[simp] theorem formLead_count (i : Nat) (s : State) : (formLead i s).ret.count = s.ret.count := by
  simp [formLead]

@[simp] theorem formLeads_count (s : State) : (formLeads s).ret.count = s.ret.count := by
  simp [formLeads]

@[simp] theorem formBreaks_count (s : State) : (formBreaks s).ret.count = s.ret.count := by
  simp only [formBreaks]
  repeat' split
  all_goals simp

@[simp] theorem leaveDrive_count (s : State) : (leaveDrive s).ret.count = s.ret.count := by
  simp [leaveDrive]

@[simp] theorem markServed_count (w : Warning) (s : State) : (markServed w s).ret.count = s.ret.count := by
  simp only [markServed]
  repeat' split
  all_goals simp

@[simp] theorem activate_count (w : Warning) (s : State) : (activate w s).ret.count = s.ret.count := by
  simp [activate]

@[simp] theorem dealWith_count (w : Warning) (s : State) : (dealWith w s).ret.count = s.ret.count := by
  simp only [dealWith]
  repeat' split
  all_goals simp

@[simp] theorem sweepN_count (n : Nat) (s : State) : (sweepN n s).ret.count = s.ret.count := by
  induction n generalizing s with
  | zero => rfl
  | succ n ih =>
    unfold sweepN
    split <;> simp [ih]

@[simp] theorem restEnd_count (s : State) : (restEnd s).ret.count = s.ret.count := by
  simp [restEnd]

@[simp] theorem checkComplete_count (s : State) : (checkComplete s).ret.count = s.ret.count := by
  simp [checkComplete]

@[simp] theorem openRest_count (s : State) : (openRest s).ret.count = s.ret.count := by
  simp [openRest]

@[simp] theorem confirmRest_count (s : State) : (confirmRest s).ret.count = s.ret.count := by
  simp [confirmRest]

@[simp] theorem closeRest_count (s : State) : (closeRest s).ret.count = s.ret.count := by
  simp [closeRest]

@[simp] theorem countMinute_count (s : State) : (countMinute s).ret.count = s.ret.count := by
  simp [countMinute]

@[simp] theorem restMinute_count (s : State) : (restMinute s).ret.count = s.ret.count := by
  simp [restMinute]

@[simp] theorem activityStored_count (s : State) : (activityStored s).ret.count = s.ret.count := by
  simp [activityStored]

@[simp] theorem activityLost_count (s : State) : (activityLost s).ret.count = s.ret.count := by
  simp [activityLost]

@[simp] theorem remainingStored_count (formsNow : Bool) (s : State) : (remainingStored formsNow s).ret.count = s.ret.count := by
  simp [remainingStored]

@[simp] theorem timeStored_count (s : State) : (timeStored s).ret.count = s.ret.count := by
  simp only [timeStored]
  repeat' split
  all_goals simp

@[simp] theorem ignitionStored_count (s : State) : (ignitionStored s).ret.count = s.ret.count := by
  simp [ignitionStored]

@[simp] theorem restProfile_count (p : Nat) (s : State) : (restProfile p s).ret.count = s.ret.count := by
  simp [restProfile]

@[simp] theorem alarmSet_count (m : Nat) (s : State) : (alarmSet m s).ret.count = s.ret.count := by
  simp [alarmSet]

@[simp] theorem acknowledge_count (s : State) : (acknowledge s).ret.count = s.ret.count := by
  simp [acknowledge]

@[simp] theorem repeatExpires_count (s : State) : (repeatExpires s).ret.count = s.ret.count := by
  simp only [repeatExpires]
  repeat' split
  all_goals simp

@[simp] theorem windowClosed_count (s : State) : (windowClosed s).ret.count = s.ret.count := by
  simp [windowClosed]

@[simp] theorem preheatNews_count (s : State) : (preheatNews s).ret.count = s.ret.count := by
  simp [preheatNews]

@[simp] theorem heaterInputs_count (s : State) : (heaterInputs s).ret.count = s.ret.count := by
  simp [heaterInputs]

@[simp] theorem heatModeAction_count (n : Nat) (s : State) : (heatModeAction n s).ret.count = s.ret.count := by
  simp [heatModeAction]

@[simp] theorem windowExpires_count (s : State) : (windowExpires s).ret.count = s.ret.count := by
  simp [windowExpires]

@[simp] theorem restStartUp_count (s : State) : (restStartUp s).ret.count = s.ret.count := by
  simp only [restStartUp]
  repeat' split
  all_goals simp

@[simp] theorem firstSweep_count (s : State) : (firstSweep s).ret.count = s.ret.count := by
  simp [firstSweep]

@[simp] theorem fridgeDutyTick_count (s : State) : (fridgeDutyTick s).ret.count = s.ret.count := by
  unfold fridgeDutyTick onEntry
  split <;> simp

@[simp] theorem readRoster_count (s : State) : (readRoster s).ret.count = s.ret.count := by
  simp [readRoster]

@[simp] theorem budgetTickBody_count (s : State) : (budgetTickBody s).ret.count = s.ret.count := by
  simp [budgetTickBody]

@[simp] theorem budgetTick_count (s : State) : (budgetTick s).ret.count = s.ret.count := by
  simp [budgetTick]

@[simp] theorem perform_count (code : Nat) (a : Int) (s : State) : (perform code a s).ret.count = s.ret.count := by
  simp only [perform]
  repeat' split
  all_goals simp

@[simp] theorem handAction_count (src : ActionSource) (code : Nat) (a : Int) (s : State) :
    (handAction src code a s).ret.count = s.ret.count := by
  simp only [handAction]
  repeat' split
  all_goals simp

@[simp] theorem press_count (entry : Nat) (s : State) : (press entry s).ret.count = s.ret.count := by
  simp [press]

@[simp] theorem pressTimes_count (e n : Nat) (s : State) : (pressTimes e n s).ret.count = s.ret.count := by
  induction n generalizing s with
  | zero => rfl
  | succ n ih => simp [pressTimes, ih]

@[simp] theorem dispatch_count (n : Nat) (old new : List Nat) (s : State) : (dispatch n old new s).ret.count = s.ret.count := by
  simp [dispatch]

@[simp] theorem panelMessage_count (p : Nat) (s : State) : (panelMessage p s).ret.count = s.ret.count := by
  simp only [panelMessage]
  repeat' split
  all_goals simp

@[simp] theorem tellStored_count (n : Nat) (fresh : Bool) (s : State) : (tellStored n fresh s).ret.count = s.ret.count := by
  simp only [tellStored]
  repeat' split
  all_goals simp

@[simp] theorem tellLost_count (n : Nat) (s : State) : (tellLost n s).ret.count = s.ret.count := by
  simp only [tellLost]
  repeat' split
  all_goals simp

@[simp] theorem storeSignal_count (n : Nat) (v : Int) (s : State) : (storeSignal n v s).ret.count = s.ret.count := by
  simp [storeSignal]

@[simp] theorem turnStale_count (n : Nat) (s : State) : (turnStale n s).ret.count = s.ret.count := by
  simp [turnStale]

@[simp] theorem redefine_count (n : Nat) (s : State) : (redefine n s).ret.count = s.ret.count := by
  simp [redefine]

@[simp] theorem useValue_count (e : IngressEntry) (v : Int) (s : State) : (useValue e v s).ret.count = s.ret.count := by
  simp [useValue]

@[simp] theorem matchFrame_count (f : RxFrame) (s : State) : (matchFrame f s).ret.count = s.ret.count := by
  simp only [matchFrame]
  repeat' split
  all_goals simp

@[simp] theorem tellStaleMark_count (p : Nat) (s : State) : (tellStaleMark p s).ret.count = s.ret.count := by
  simp only [tellStaleMark]
  repeat' split
  all_goals simp

@[simp] theorem loseNode_count (st : Presence) (p : Nat) (s : State) : (loseNode st p s).ret.count = s.ret.count := by
  simp [loseNode]

@[simp] theorem loopFails_count (s : State) : (loopFails s).ret.count = s.ret.count := by
  simp [loopFails]

@[simp] theorem foreignMessage_count (p : Nat) (s : State) : (foreignMessage p s).ret.count = s.ret.count := by
  simp [foreignMessage]

@[simp] theorem presenceDues_count (s : State) : (presenceDues s).ret.count = s.ret.count := by
  simp [presenceDues]

@[simp] theorem markAllStale_count (s : State) : (markAllStale s).ret.count = s.ret.count := by
  simp [markAllStale]

@[simp] theorem loopWake_count (s : State) : (loopWake s).ret.count = s.ret.count := by
  simp [loopWake]

@[simp] theorem resetPosition_count (p : Nat) (k : NodeKind) (s : State) : (resetPosition p k s).ret.count = s.ret.count := by
  simp [resetPosition]

@[simp] theorem commitClimate_count (e : Entry) (s : State) : (commitClimate e s).ret.count = s.ret.count := by
  simp [commitClimate]

@[simp] theorem commitNodeMap_count (p : Nat) (e : Entry) (s : State) : (commitNodeMap p e s).ret.count = s.ret.count := by
  simp [commitNodeMap]

@[simp] theorem commitRoster_count (i : Nat) (e : Entry) (s : State) : (commitRoster i e s).ret.count = s.ret.count := by
  simp [commitRoster]

@[simp] theorem signalsWake_count (s : State) : (signalsWake s).ret.count = s.ret.count := by
  simp [signalsWake]

@[simp] theorem wake_count (st : PowerState) (s : State) : (wake st s).ret.count = s.ret.count := by
  simp [wake]

@[simp] theorem signalStaleStep_count (n : Nat) (s : State) : (signalStaleStep n s).ret.count = s.ret.count := by
  simp [signalStaleStep]

@[simp] theorem loopFailedStep_count (s : State) : (loopFailedStep s).ret.count = s.ret.count := by
  simp [loopFailedStep]

@[simp] theorem nodeLostStep_count (p : Nat) (s : State) : (nodeLostStep p s).ret.count = s.ret.count := by
  simp [nodeLostStep]

@[simp] theorem preheatCloseStep_count (s : State) : (preheatCloseStep s).ret.count = s.ret.count := by
  simp [preheatCloseStep]

@[simp] theorem canWakes_count (s : State) : (canWakes s).ret.count = s.ret.count := by
  simp [canWakes]

@[simp] theorem wakeLine_count (e : WakeEdge) (s : State) : (wakeLine e s).ret.count = s.ret.count := by
  simp [wakeLine]

@[simp] theorem ingressTakes_count (s : State) : (ingressTakes s).ret.count = s.ret.count := by
  simp only [ingressTakes]
  repeat' split
  all_goals simp

end Sys2Proof.Machine
end

section
/-! PROOF. What the accountant does to the charge count and its residue, the operations and commands that count, and the statement on their
range (R83 to R87, R103; O11). -/

namespace Sys2Proof.Machine

set_option Elab.async false -- one theorem after another: each would otherwise take a thread with its own large stack

/-! ### The accountant's own updates (R83, R103, R105) -/

theorem Retention.count_eq_iff {r r' : Retention} : r'.count = r.count ↔ r'.charge = r.charge ∧ r'.residue = r.residue := by
  simp only [Retention.count_def, Prod.mk.injEq]

/-- The charge count that a current asks for, before it is held to 0 and to C (R83). -/
def State.chargeAsked (s : State) (i : Int) : Int := s.ret.charge + Int.tdiv (s.ret.residue + i) 4500

theorem integrate_above {i : Int} {s : State} (h : (s.energySettings.capacity : Int) < s.chargeAsked i) :
    (integrate i s).ret.count = (s.energySettings.capacity, 0) := by
  rw [State.chargeAsked] at h
  simp [integrate, residueUnit, h]

theorem integrate_below {i : Int} {s : State} (h : s.chargeAsked i < 0) : (integrate i s).ret.count = (0, 0) := by
  have hcap : ¬ (s.energySettings.capacity : Int) < s.chargeAsked i := by omega
  rw [State.chargeAsked] at h hcap
  simp [integrate, residueUnit, h, hcap]

theorem integrate_within {i : Int} {s : State} (h : 0 ≤ s.chargeAsked i) (hcap : s.chargeAsked i ≤ s.energySettings.capacity) :
    (integrate i s).ret.count = ((s.chargeAsked i).toNat, Int.tmod (s.ret.residue + i) 4500) := by
  rw [State.chargeAsked] at h hcap ⊢
  simp [integrate, residueUnit, not_lt.mpr h, not_lt.mpr hcap]

/-- A count that lies between the bounds or at one of them, with the residue below one step (R83). -/
theorem integrate_bounded (i : Int) (s : State) :
    (integrate i s).ret.charge ≤ s.energySettings.capacity ∧ (integrate i s).ret.ResidueOk := by
  rcases lt_or_ge (s.energySettings.capacity : Int) (s.chargeAsked i) with habove | hcap
  · obtain ⟨hq, hr⟩ := Prod.mk.inj (integrate_above habove)
    simp [Retention.ResidueOk, hq, hr]
  · rcases lt_or_ge (s.chargeAsked i) 0 with hbelow | hpos
    · obtain ⟨hq, hr⟩ := Prod.mk.inj (integrate_below hbelow)
      simp [Retention.ResidueOk, hq, hr]
    · obtain ⟨hq, hr⟩ := Prod.mk.inj (integrate_within hpos hcap)
      have hlo := Int.lt_tmod_of_pos (s.ret.residue + i) (by decide : (0 : Int) < 4500)
      have hhi := Int.tmod_lt_of_pos (s.ret.residue + i) (by decide : (0 : Int) < 4500)
      exact ⟨hq ▸ Int.toNat_le.mpr hcap, hr ▸ hlo, hr ▸ hhi⟩

@[simp] theorem setCharge_count (q : Nat) (s : State) : (setCharge q s).ret.count = (q, 0) := rfl

/-- No percentage of the rest-voltage table is above 100. -/
def State.PercentagesOk (s : State) : Prop := ∀ i < 8, (s.restPoint i).2 ≤ 100

/-- The last point at or below a voltage that lies between the ends of the table: the next one is above it (R103). -/
theorem restPoint_found {s : State} {v i : Nat} (hv : v < (s.restPoint 7).1)
    (h : (List.range 7).reverse.find? (fun i => decide ((s.restPoint i).1 ≤ v)) = some i) :
    i < 7 ∧ (s.restPoint i).1 ≤ v ∧ v < (s.restPoint (i + 1)).1 := by
  have hmem : i < 7 := by simpa using List.mem_of_find?_eq_some h
  obtain ⟨hle, before, after, hl, hnone⟩ := List.find?_eq_some_iff_append.mp h
  refine ⟨hmem, by simpa using hle, ?_⟩
  by_cases hi : i = 6
  · exact hi ▸ hv
  · have hsorted : (List.range 7).reverse.Pairwise (· > ·) := List.pairwise_reverse.mpr List.pairwise_lt_range
    have hnext : i + 1 ∈ (List.range 7).reverse := by simp; omega
    rw [hl] at hsorted hnext
    rcases List.mem_append.mp hnext with hbefore | hafter
    · simpa using hnone _ hbefore
    · rcases List.mem_cons.mp hafter with heq | hlater
      · omega
      · have := List.rel_of_pairwise_cons (List.pairwise_append.mp hsorted).2.1 hlater
        omega

/-- A percentage worked out on a straight line between two points is none above either. -/
theorem interpolated_le {p q a b : Int} {m : Int} (hp : p ≤ m) (hq : q ≤ m) (ha : 0 ≤ a) (hab : a < b) :
    p + (q - p) * a / b ≤ m := by
  have hstep : (q - p) * a / b ≤ m - p := by
    apply Int.ediv_le_of_le_mul (by omega)
    calc (q - p) * a ≤ (m - p) * a := Int.mul_le_mul_of_nonneg_right (by omega) ha
      _ ≤ (m - p) * b := Int.mul_le_mul_of_nonneg_left (by omega) (by omega)
  omega

theorem restPct_le {s : State} (h : s.PercentagesOk) (v : Nat) : s.restPct v ≤ 100 := by
  unfold State.restPct
  split
  · exact h 0 (by omega)
  next =>
    split
    · exact h 7 (by omega)
    next hv =>
      split
      next i hi =>
        obtain ⟨hlt, hle, hnext⟩ := restPoint_found (by omega) hi
        have hp := h i (by omega)
        have hq := h (i + 1) (by omega)
        have hline := interpolated_le (p := (s.restPoint i).2) (q := (s.restPoint (i + 1)).2) (m := 100)
          (a := (v : Int) - (s.restPoint i).1) (b := ((s.restPoint (i + 1)).1 : Int) - (s.restPoint i).1)
          (by omega) (by omega) (by omega) (by omega)
        exact Int.toNat_le.mpr hline
      next => exact h 0 (by omega)

/-! ### Operations that count -/

/-- What an operation that leaves the tables and the phase does to the count: it keeps the residue below one step, and the charge
count within C where no percentage of the rest-voltage table is above 100 (R83). -/
structure Counts (s t : State) : Prop where
  tables : t.tables = s.tables
  phase : t.phase = s.phase
  residue : s.ret.ResidueOk → t.ret.ResidueOk
  charge : s.PercentagesOk → s.ret.charge ≤ s.energySettings.capacity → t.ret.charge ≤ s.energySettings.capacity

theorem State.energySettings_congr {s t : State} (h : t.tables = s.tables) : t.energySettings = s.energySettings := by
  simp [State.energySettings, h]

theorem State.PercentagesOk.congr {s t : State} (h : s.PercentagesOk) (ht : t.tables = s.tables) : t.PercentagesOk := by
  simpa [State.PercentagesOk, State.restPoint, ht] using h

namespace Counts

variable {s t u : State}

theorem refl : Counts s s := ⟨rfl, rfl, id, fun _ => id⟩

theorem trans (h : Counts s t) (k : Counts t u) : Counts s u where
  tables := k.tables.trans h.tables
  phase := k.phase.trans h.phase
  residue hs := k.residue (h.residue hs)
  charge hp hs := by
    rw [← State.energySettings_congr h.tables]
    exact k.charge (hp.congr h.tables) (State.energySettings_congr h.tables ▸ h.charge hp hs)

/-- Then an operation that leaves the count, the tables and the phase. -/
theorem frame (h : Counts s t) (hf : u.ret.count = t.ret.count ∧ u.tables = t.tables ∧ u.phase = t.phase) : Counts s u := by
  obtain ⟨hcount, htables, hphase⟩ := hf
  obtain ⟨hcharge, hresidue⟩ := Retention.count_eq_iff.mp hcount
  exact h.trans ⟨htables, hphase, fun hs => by simpa [Retention.ResidueOk, hresidue] using hs, fun _ hs => hcharge ▸ hs⟩

theorem keep (h : Counts s t) (g : State → State)
    (hg : (g t).ret.count = t.ret.count ∧ (g t).tables = t.tables ∧ (g t).phase = t.phase := by simp) : Counts s (g t) :=
  h.frame hg

theorem modEnergy (h : Counts s t) (f : Energy → Energy) : Counts s (t.modEnergy f) := h.frame ⟨rfl, rfl, rfl⟩

theorem modTx (h : Counts s t) (f : LoopTx → LoopTx) : Counts s (t.modTx f) := h.frame ⟨rfl, rfl, rfl⟩

theorem modRx (h : Counts s t) (f : LoopRx → LoopRx) : Counts s (t.modRx f) := h.frame ⟨rfl, rfl, rfl⟩

theorem ite {c : Prop} [Decidable c] (h : c → Counts s t) (k : ¬ c → Counts s u) : Counts s (if c then t else u) := by
  split
  next hc => exact h hc
  next hc => exact k hc

theorem forEach (h : Counts s t) (is : List Nat) {f : Nat → State → State} (hf : ∀ i u, Counts u (f i u)) :
    Counts s (t.forEach is f) := by
  unfold State.forEach
  induction is generalizing t with
  | nil => exact h
  | cons i is ih => exact ih (h.trans (hf i t))

/-- Then the charge set to a value within C, with the residue 0. -/
theorem setCharge (h : Counts s t) {q : Nat} (hq : t.PercentagesOk → q ≤ t.energySettings.capacity) :
    Counts s (setCharge q t) :=
  h.trans ⟨rfl, rfl, fun _ => by simp [Retention.ResidueOk, Machine.setCharge], fun hp _ => hq hp⟩

end Counts

theorem integrate_counts (i : Int) (s : State) : Counts s (integrate i s) where
  tables := by simp
  phase := by simp
  residue _ := (integrate_bounded i s).2
  charge _ _ := (integrate_bounded i s).1

/-! ### The accountant (R83 to R87, R103, R105) -/

theorem capCharge_counts (s : State) : Counts s (capCharge s) :=
  .ite (fun _ => Counts.refl.setCharge fun _ => le_rfl) fun _ => .refl

theorem substitute_counts (s : State) : Counts s (substitute s) := by
  refine .ite (fun _ => Counts.refl.modEnergy _) fun _ => ?_
  split
  · exact .ite (fun _ => (integrate_counts _ s).modEnergy _) fun _ => (integrate_counts _ s).modEnergy _
  · exact (integrate_counts _ s).modEnergy _

theorem energyMinute_counts (s : State) : Counts s (energyMinute s) :=
  .ite (fun _ => integrate_counts _ s) fun _ => .refl

theorem fullCharge_counts (s : State) : Counts s (fullCharge s) :=
  (Counts.refl.setCharge fun _ => le_rfl).frame ⟨rfl, rfl, rfl⟩

theorem estimate_counts (i : Int) (v : Nat) (s : State) : Counts s (estimate i v s) := by
  refine .ite (fun _ => Counts.modEnergy (Counts.refl.setCharge fun hp => ?_) _) fun _ => .refl
  calc s.energySettings.capacity * s.restPct v / 100 ≤ s.energySettings.capacity * 100 / 100 :=
        Nat.div_le_div_right (Nat.mul_le_mul_left _ (restPct_le hp v))
    _ = s.energySettings.capacity := Nat.mul_div_cancel _ (by decide)

theorem energyDues_counts (s : State) : Counts s (energyDues s) := by
  have hlevels : Counts s (
      let t := if s.assertDue .cutoff then assertLevel .cutoff s else s
      let t := if t.clearDue .cutoff then clearLevel .cutoff t else t
      let t := if t.assertDue .low then assertLevel .low t else t
      if t.clearDue .low then clearLevel .low t else t) := Counts.refl.frame (by simp [State.ite_frame])
  exact .ite (fun _ => hlevels.trans (fullCharge_counts _)) fun _ => hlevels

theorem batteryMessage_counts (i : Int) (v : Nat) (s : State) : Counts s (batteryMessage i v s) := by
  refine Counts.keep ?_ (countFull i v)
  refine Counts.trans ?_ (estimate_counts i v _)
  exact ((energyDues_counts s).trans (integrate_counts i _)).frame (by simp)

/-! ### Accepted messages and the receive side (chapter 2) -/

theorem tellAccepted_counts (p : Nat) (old : NodeRec) (s : State) : Counts s (tellAccepted p old s) := by
  unfold tellAccepted
  dsimp only
  split
  · split
    · exact batteryMessage_counts _ _ s
    · exact .refl
  · exact Counts.keep (.ite (fun _ => Counts.refl.keep heaterPhase) fun _ => .refl) heaterInputs
  · exact Counts.refl.frame (by simp [State.ite_frame])
  · exact .ite (fun _ => Counts.refl.keep (lightFaults p)) fun _ => .refl
  · have hpanel : Counts s (panelMessage p s) := Counts.refl.keep (panelMessage p)
    exact .ite (fun _ => hpanel.keep heaterInputs) fun _ => hpanel
  · exact Counts.refl.frame (by simp [State.ite_frame])
  · exact .refl

theorem acceptMessage_counts (p seq : Nat) (d : Decoded) (s : State) : Counts s (acceptMessage p seq d s) :=
  Counts.trans (Counts.refl.frame (by simp)) (tellAccepted_counts p _ _)

theorem testMessage_counts (m : ReadyMsg) (s : State) : Counts s (testMessage m s) := by
  refine .ite (fun _ => .refl) fun _ => .ite (fun _ => Counts.refl.keep (foreignMessage _)) fun _ => ?_
  split
  · exact acceptMessage_counts _ _ _ s
  · exact .refl

theorem takeMessage_counts (s : State) : Counts s (takeMessage s) := by
  unfold takeMessage
  split
  · exact Counts.keep (Counts.trans (Counts.refl.frame (by simp)) (testMessage_counts _ _)) qualify
  · exact .refl

theorem drainReceived_counts (s : State) : Counts s (drainReceived s) := by
  have htaken : Counts s (s.forEach (List.range s.rx.ready.length) fun _ t => takeMessage t) :=
    Counts.refl.forEach _ fun _ t => takeMessage_counts t
  exact .ite (fun _ => (htaken.keep receivedCycleEnds).keep presenceDues) fun _ => htaken.keep presenceDues

theorem loseSync_counts (toSearch : Bool) (s : State) : Counts s (loseSync toSearch s) :=
  Counts.keep (Counts.frame (drainReceived_counts s) (by simp)) markAllStale

theorem markerBit_counts (b : Bool) (s : State) : Counts s (markerBit b s) :=
  .ite (fun _ => Counts.trans (Counts.refl.frame (by simp)) (loseSync_counts _ _)) fun _ => Counts.refl.frame (by simp)

theorem syncBit_counts (i : Nat) (b : Bool) (s : State) : Counts s (syncBit i b s) := by
  refine .ite (fun _ => markerBit_counts b s) fun _ => .ite (fun _ => ?_) fun _ => .refl
  exact .ite (fun _ => Counts.refl.keep (slotDone _)) fun _ => Counts.refl.frame (by simp)

theorem receiveBit_counts (i : Nat) (b : Bool) (s : State) : Counts s (receiveBit i b s) := by
  refine .ite (fun _ => .refl) fun _ => ?_
  have hpushed : Counts s (s.modRx fun x => { x with hist := x.hist.modify i (Hist.push b) }) := Counts.refl.frame (by simp)
  dsimp only
  split
  · exact hpushed.keep (searchBit i)
  · exact hpushed.keep (confirmBit i b _)
  · exact hpushed.trans (syncBit_counts i b _)
  · exact hpushed

theorem receivedRound_counts (bits : BitVec 121) (s : State) : Counts s (receivedRound bits s) := by
  refine .ite (fun _ => ?_) fun _ => Counts.refl.keep roundEnds
  exact Counts.modTx (Counts.refl.forEach _ fun i t => receiveBit_counts i _ t) _

theorem reframe_counts (s : State) : Counts s (reframe s) :=
  .ite (fun _ => loseSync_counts true s) fun _ => Counts.refl.frame (by simp)

/-! ### Cycles and minutes (R84, R86) -/

theorem endCycle_counts (s : State) : Counts s (endCycle s) := by
  refine Counts.keep (Counts.keep ?_ cycleStep) firstSweep
  exact Counts.modEnergy (Counts.trans (Counts.refl.modTx _) (substitute_counts _)) _

theorem transmitCycle_counts (s : State) : Counts s (transmitCycle s) :=
  .ite (fun _ => (endCycle_counts s).keep beginCycle) fun _ => Counts.refl.keep roundEnds

theorem minutePasses_counts (s : State) : Counts s (minutePasses s) := by
  have hminute : Counts s (energyMinute (heaterMinute (restMinute s))) :=
    ((Counts.refl.keep restMinute).keep heaterMinute).trans (energyMinute_counts _)
  exact .ite (fun _ => hminute.keep (wake .quiet)) fun _ => hminute

/-! ### The steps that follow, and passing seconds (assumptions 2, 3) -/

theorem fullChargeStep_counts (s : State) : Counts s (fullChargeStep s) := .ite (fun _ => fullCharge_counts s) fun _ => .refl

theorem dueSteps_counts (s : State) : Counts s (dueSteps s) := by
  have hdrained : Counts s (drainReceived (s.forEach (List.range 32) signalStaleStep)) :=
    (Counts.refl.forEach (List.range 32) fun n t => Counts.refl.keep (signalStaleStep n)).trans (drainReceived_counts _)
  have hlevels := (((hdrained.keep (levelAssertStep .cutoff)).keep (levelClearStep .cutoff)).keep (levelAssertStep .low)).keep
    (levelClearStep .low)
  have hcharge := ((hlevels.trans (fullChargeStep_counts _)).keep blindStep).keep estimateCloseStep
  have hstalled := hcharge.forEach positions fun p t => Counts.refl.keep (commandStallStep p)
  exact (((hstalled.keep windowEndStep).keep loopFailedStep).keep manualLimitStep).keep preheatCloseStep

@[simp] theorem expireIf_count (c : State → Bool) (f : State → State) (s : State) (h : ∀ t, (f t).ret.count = t.ret.count) :
    (expireIf c f s).ret.count = s.ret.count := by
  unfold expireIf
  split
  · exact h s
  · rfl

@[simp] theorem expireIf_tables (c : State → Bool) (f : State → State) (s : State) (h : ∀ t, (f t).tables = t.tables) :
    (expireIf c f s).tables = s.tables := by
  unfold expireIf
  split
  · exact h s
  · rfl

theorem secondExpired_counts (s : State) : Counts s (secondExpired s) :=
  Counts.refl.frame (by simp [secondExpired, timersExpire, secondCounted, enterStandby])

/-! ### Commands -/

theorem capCharge_le (s : State) : (capCharge s).ret.charge ≤ s.energySettings.capacity := by
  unfold capCharge
  split
  · exact le_rfl
  next h => exact not_lt.mp h

/-- What every step keeps of the count: the residue below one step, and in a part that runs the charge count within C (R83). -/
structure KeepsCharge (s t : State) : Prop where
  residue : s.ret.ResidueOk → t.ret.ResidueOk
  charge : s.PercentagesOk → s.ChargeOk → t.ChargeOk

theorem Counts.keepsCharge {s t : State} (h : Counts s t) : KeepsCharge s t where
  residue := h.residue
  charge hp hs hrun := by
    rw [State.energySettings_congr h.tables]
    exact h.charge hp (hs (h.phase ▸ hrun))

theorem Counts.then {s t u : State} (h : Counts s t) (k : KeepsCharge t u) : KeepsCharge s u where
  residue hs := k.residue (h.residue hs)
  charge hp hs := k.charge (hp.congr h.tables) (h.keepsCharge.charge hp hs)

namespace KeepsCharge

variable {s t u : State}

theorem refl : KeepsCharge s s := Counts.refl.keepsCharge

/-- A part held in reset has its charge count held to C only when it starts up. -/
theorem of_held (h : t.phase = .held) (hr : s.ret.ResidueOk → t.ret.ResidueOk) : KeepsCharge s t where
  residue := hr
  charge _ _ hrun := by simp [h] at hrun

/-- Then an operation that leaves the count, the energy settings and the phase. -/
theorem frame (h : KeepsCharge s t) (hcount : u.ret.count = t.ret.count) (hset : u.energySettings = t.energySettings)
    (hphase : u.phase = t.phase) : KeepsCharge s u := by
  obtain ⟨hcharge, hresidue⟩ := Retention.count_eq_iff.mp hcount
  refine ⟨fun hs => ?_, fun hp hs hrun => ?_⟩
  · simpa [Retention.ResidueOk, hresidue] using h.residue hs
  · rw [hcharge, hset]
    exact h.charge hp hs (hphase ▸ hrun)

theorem keep (h : KeepsCharge s t) (g : State → State)
    (hg : (g t).ret.count = t.ret.count ∧ (g t).tables = t.tables ∧ (g t).phase = t.phase := by simp) : KeepsCharge s (g t) := by
  obtain ⟨hcount, htables, hphase⟩ := hg
  exact h.frame hcount (State.energySettings_congr htables) hphase

theorem ite {c : Prop} [Decidable c] (h : c → KeepsCharge s t) (k : ¬ c → KeepsCharge s u) :
    KeepsCharge s (if c then t else u) := by
  split
  next hc => exact h hc
  next hc => exact k hc

end KeepsCharge

/-! ### Commits (R87, R186) -/

theorem putEntry_energySettings {n i : Nat} (h : ¬ (n = 0 ∧ i = 1)) (e : Entry) (s : State) :
    (putEntry n i e s).energySettings = s.energySettings := by
  have hentry : (s.tables.setEntry n i e).entry 0 1 = s.tables.entry 0 1 := by
    unfold Tables.setEntry Tables.put
    split
    case h_1 =>
      have hi : i ≠ 1 := fun hi => h ⟨rfl, hi⟩
      simp [Tables.entry, Tables.get, List.getD_eq_getElem?_getD, List.getElem?_set_ne hi]
    all_goals rfl
  simp [State.energySettings, putEntry, hentry]

/-- A table entry other than the energy settings replaced, and its owners told. -/
theorem KeepsCharge.commit {n i : Nat} (h : ¬ (n = 0 ∧ i = 1)) (e : Entry) {s t : State}
    (ht : t.ret.count = s.ret.count ∧ t.tables = (putEntry n i e s).tables ∧ t.phase = s.phase) : KeepsCharge s t := by
  obtain ⟨hcount, htables, hphase⟩ := ht
  exact KeepsCharge.refl.frame hcount ((State.energySettings_congr htables).trans (putEntry_energySettings h e s)) hphase

/-- The charge count is held to the C that a commit brings (R87). -/
theorem commitEnergy_keepsCharge (e : Entry) (s : State) : KeepsCharge s (commitEnergy e s) := by
  have hput : KeepsCharge s (capCharge (putEntry 0 1 e s)) := by
    refine ⟨fun hs => (capCharge_counts (putEntry 0 1 e s)).residue hs, fun _ _ _ => ?_⟩
    rw [State.energySettings_congr (t := capCharge (putEntry 0 1 e s)) (s := putEntry 0 1 e s) (by simp)]
    exact capCharge_le (putEntry 0 1 e s)
  have htables : (commitEnergy e s).tables = (capCharge (putEntry 0 1 e s)).tables := by simp [commitEnergy, State.ite_frame]
  exact hput.frame (by simp [commitEnergy]) (State.energySettings_congr htables) (by simp [commitEnergy, State.ite_frame])

theorem commitNodeMap_energySettings (p : Nat) (e : Entry) (s : State) :
    (commitNodeMap p e s).energySettings = s.energySettings := by
  have htables : (commitNodeMap p e s).tables = { s.tables with nodeMap := (s.mapAfter p e).nodeMap } := by
    simp [commitNodeMap, State.ite_frame]
  rw [State.energySettings, htables]
  rfl

theorem commitEntry_keepsCharge (n i : Nat) (e : Entry) (s : State) : KeepsCharge s (commitEntry n i e s) := by
  unfold commitEntry
  refine KeepsCharge.keep ?_ (fun t => t.modSetup _)
  split
  · exact .commit (n := 0) (i := 0) (by simp) e (by simp [commitBus, State.ite_frame])
  · exact commitEnergy_keepsCharge e s
  · exact .commit (n := 0) (i := 2) (by simp) e (by simp [commitClimate, State.ite_frame])
  · exact .commit (n := 2) (i := i) (by simp) e (by simp [commitEgress])
  · exact .commit (n := 3) (i := i) (by simp) e (by simp)
  · exact KeepsCharge.refl.frame (by simp) (commitNodeMap_energySettings i e s) (by simp)
  · exact .commit (n := 5) (i := i) (by simp) e (by simp [commitRoster, State.ite_frame])
  · exact .ite (fun _ => .commit (n := 9) (i := i) (by simp) e (by simp)) fun _ => .commit (n := 9) (i := i) (by simp) e (by simp)
  · exact .commit (n := 12) (i := i) (by simp) e (by simp)
  next h _ => exact .commit (n := n) (i := i) (fun h' => h h'.1 h'.2) e (by simp)

/-! ### Setup requests (R184 to R195) -/

theorem KeepsCharge.modSetup {s t : State} (h : KeepsCharge s t) (f : Setup → Setup) : KeepsCharge s (t.modSetup f) :=
  h.keep (·.modSetup f)

theorem tryCommit_keepsCharge (c : Cursor) (parts : List (List Byte)) (s : State) :
    KeepsCharge s (tryCommit c parts s).2 := by
  have hdropped : Counts s (dropStaging s) := Counts.refl.keep dropStaging
  simp only [tryCommit]
  split
  · exact hdropped.keepsCharge
  · split
    · dsimp only
      exact (hdropped.then (commitEntry_keepsCharge _ _ _ _)).modSetup _
    · exact hdropped.keepsCharge

theorem stagePart_keepsCharge (c : Cursor) (parts : List (List Byte)) (s : State) :
    KeepsCharge s (stagePart c parts s).2 := by
  unfold stagePart
  split
  · exact tryCommit_keepsCharge c parts s
  · dsimp only
    exact KeepsCharge.refl.modSetup _

theorem wrpDecide_keepsCharge (c : Cursor) (part : Nat) (b : List Byte) (s : State) :
    KeepsCharge s (wrpDecide c part b s).2 := by
  have hdropped : KeepsCharge s (dropStaging s) := KeepsCharge.refl.keep dropStaging
  unfold wrpDecide
  split
  · exact .refl
  · split
    · exact hdropped
    · split
      · split
        · exact hdropped
        · exact stagePart_keepsCharge _ _ s
      · split
        · split
          · exact stagePart_keepsCharge _ _ s
          · exact hdropped
        · exact hdropped

theorem wrpRequest_keepsCharge (d : List Byte) (s : State) : KeepsCharge s (wrpRequest d s).state := by
  unfold wrpRequest
  split
  · exact .refl
  · exact wrpDecide_keepsCharge _ _ _ s

/-- A request that neither counts nor commits. -/
theorem whenIdle_counts {s : State} {a : Answer} (h : Counts s a.state) : Counts s (whenIdle s a).state := by
  unfold whenIdle
  split
  · exact .refl
  · exact h

theorem selRequest_counts (d : List Byte) (s : State) : Counts s (selRequest d s).state := by
  simp only [selRequest]
  split <;> exact Counts.refl.frame (by simp)

theorem rdpRequest_counts (d : List Byte) (s : State) : Counts s (rdpRequest d s).state := by
  simp only [rdpRequest]
  repeat' split
  all_goals exact Counts.refl.frame (by simp)

theorem savRequest_counts (s : State) : Counts s (savRequest s).state := whenIdle_counts (Counts.refl.frame ⟨rfl, rfl, rfl⟩)

theorem lckRequest_counts (s : State) : Counts s (lckRequest s).state := by
  refine whenIdle_counts ?_
  repeat' split
  all_goals exact Counts.refl.frame ⟨rfl, rfl, rfl⟩

theorem actRequest_counts (d : List Byte) (s : State) : Counts s (actRequest d s).state := by
  simp only [actRequest]
  repeat' split
  all_goals exact Counts.refl.frame (by simp)

theorem staRequest_counts (d : List Byte) (s : State) : Counts s (staRequest d s).state := by
  simp only [staRequest]
  repeat' split
  all_goals exact Counts.refl.frame (by simp)

theorem answer_keepsCharge (r : Bool) (d : List Byte) {f : State → Answer} (hf : ∀ t, KeepsCharge t (f t).state) (s : State) :
    KeepsCharge s (answer r d f s) := by
  have hdropped : Counts s (dropReceived s) := Counts.refl.keep dropReceived
  refine KeepsCharge.keep ?_ (offerResponse _)
  split
  · split
    · exact hdropped.keepsCharge
    · exact hdropped.then (hf _)
  · exact hdropped.keepsCharge

theorem onRequest_keepsCharge (code : Nat) (r : Bool) {f : List Byte → State → Answer}
    (hf : ∀ d t, KeepsCharge t (f d t).state) (s : State) : KeepsCharge s (onRequest code r f s) := by
  unfold onRequest
  split
  · exact .ite (fun _ => answer_keepsCharge r _ (hf _) s) fun _ => .refl
  · exact .refl

theorem answerUnknown_keepsCharge (s : State) : KeepsCharge s (answerUnknown s) := by
  unfold answerUnknown
  split
  · exact .ite (fun _ => answer_keepsCharge false _ (fun _ => .refl) s) fun _ => .refl
  · exact .refl

theorem discardNoTag_counts (s : State) : Counts s (discardNoTag s) := by
  unfold discardNoTag
  split
  · exact .ite (fun _ => Counts.refl.keep dropReceived) fun _ => .refl
  · exact .refl

/-! ### Resets, settling and passing seconds (R202, assumptions 2 and 3) -/

theorem resetWith_keepsCharge (c : ResetCause) (s : State) : KeepsCharge s (resetWith c s) := by
  refine .of_held rfl fun hs => ?_
  have kept (p : Prop) [Decidable p] : (if p then Retention.init 45000 else s.ret).ResidueOk := by
    split
    · simp [Retention.ResidueOk, Retention.init]
    · exact hs
  exact kept _

theorem restartNow_keepsCharge (s : State) : KeepsCharge s (restartNow s) := by
  unfold restartNow
  split
  · exact resetWith_keepsCharge _ s
  · exact .refl

/-- Settling counts, or it restarts the part, which is then held in reset. -/
theorem settle_counts (s : State) : Counts s (settle s) ∨ (settle s).phase = .held ∧ KeepsCharge s (settle s) := by
  by_cases hheld : s.phase = .held
  · exact .inl (by rw [settle, if_pos hheld]; exact .refl)
  · by_cases hrestart : s.setup.restart.any (·.answerLeft) = true
    · have heq : settle s = restartNow s := by rw [settle, if_neg hheld, if_pos hrestart]
      have hheld : (restartNow s).phase = .held := by
        unfold restartNow
        split
        · rfl
        · rename_i hnone
          simp [hnone] at hrestart
      exact .inr ⟨heq ▸ hheld, heq ▸ restartNow_keepsCharge s⟩
    · have hbefore : Counts s (egressSettle 17 (admissionStep (admissionStep (busOffStep s)))) := Counts.refl.frame (by simp)
      rw [settle, if_neg hheld, if_neg hrestart]
      exact .inl (((hbefore.trans (dueSteps_counts _)).keep admissionStep).keep admissionStep)

theorem external_keepsCharge {f : State → State} (hf : ∀ t, KeepsCharge t (f t)) (s : State) : KeepsCharge s (external f s) := by
  simp only [external]
  rcases settle_counts s with hcounts | ⟨hheld, hkeeps⟩
  · exact .ite (fun _ => hcounts.keepsCharge) fun _ => (hcounts.then (hf _)).keep qualify
  · rw [if_pos hheld]
    exact hkeeps

theorem external_counts {f : State → State} (hf : ∀ t, Counts t (f t)) (s : State) : KeepsCharge s (external f s) :=
  external_keepsCharge (fun t => (hf t).keepsCharge) s

theorem internal_keepsCharge {f : State → State} (hf : ∀ t, KeepsCharge t (f t)) (s : State) : KeepsCharge s (internal f s) :=
  .ite (fun _ => .refl) fun _ => (hf s).keep qualify

theorem secondPasses_keepsCharge (s : State) : KeepsCharge s (secondPasses s) := by
  rw [secondPasses_eq]
  exact .ite (fun _ => (secondExpired_counts s).then (restartNow_keepsCharge _)) fun _ => (secondExpired_counts s).keepsCharge

/-! ### START_UP (R85, R103, R203) -/

theorem imageLoaded_residue (d : StoreDamage) {s : State} (h : s.ret.ResidueOk) : (s.imageLoaded d).ret.ResidueOk := by
  unfold State.imageLoaded
  dsimp only
  split
  · simp [Retention.ResidueOk, Retention.init]
  · exact h

/-- Start-up leaves the charge count within C: half of it, or held to it (R85, R103). -/
theorem energyStartUp_count (powerOn : Bool) (s : State) :
    (energyStartUp powerOn s).ret.charge ≤ s.energySettings.capacity ∧
      (s.ret.ResidueOk → (energyStartUp powerOn s).ret.ResidueOk) := by
  unfold energyStartUp
  split
  · exact ⟨Nat.div_le_self _ 2, fun _ => by simp [Retention.ResidueOk, setCharge]⟩
  · exact ⟨capCharge_le s, (capCharge_counts s).residue⟩

theorem startUpWith_keepsCharge (d : StoreDamage) (s : State) : KeepsCharge s (startUpWith d s) := by
  set u := (s.imageLoaded d).entriesSetUp with hu
  have hset : (startUpWith d s).energySettings = u.energySettings :=
    State.energySettings_congr (by simp [startUpWith_eq, ← hu, State.accountantStarted])
  have hcount : (startUpWith d s).ret.count = (energyStartUp (u.power.cause == .powerOn) u).ret.count := by
    simp [startUpWith_eq, ← hu, State.accountantStarted]
  obtain ⟨hcharge, hresidue⟩ := Retention.count_eq_iff.mp hcount
  obtain ⟨hle, hres⟩ := energyStartUp_count (u.power.cause == .powerOn) u
  refine ⟨fun hs => ?_, fun _ _ _ => by rw [hcharge, hset]; exact hle⟩
  rw [Retention.ResidueOk, hresidue]
  refine hres ?_
  have hret : u.ret = (s.imageLoaded d).ret := by simp [hu, State.entriesSetUp]
  exact hret ▸ imageLoaded_residue d hs

/-! ### Every command (R83, R87) -/

theorem whenRuns_keepsCharge (timer : State → Option Nat) {f : State → State} (hf : ∀ t, Counts t (f t)) (s : State) :
    KeepsCharge s (whenRuns (timer s) f s) :=
  .ite (fun _ => (hf s).keepsCharge) fun _ => .refl

theorem exec_keepsCharge {c : Instr} {s t : State} (ht : exec c s = .next t) : KeepsCharge s t := by
  have request (code : Nat) (r : Bool) (f : List Byte → State → Answer) (hf : ∀ d t, KeepsCharge t (f d t).state) :=
    external_keepsCharge (onRequest_keepsCharge code r hf) s
  have counts {a t : State} (h : Counts a t) : KeepsCharge a t := h.keepsCharge
  have owner (timer : State → Option Nat) {f : State → State} (hf : ∀ t, Counts t (f t)) :=
    external_keepsCharge (whenRuns_keepsCharge timer hf) s
  cases c with
  | frameReceived f =>
    by_cases hf : f.wellFormed
    · simp only [exec, execFrameReceived, hf, if_true] at ht
      exact holds_of_next (external_keepsCharge (fun t => KeepsCharge.refl.keep (frameReceived f)) s) ht
    · simp [exec, execFrameReceived, hf] at ht
  | setupNoTag => exact holds_of_next (external_counts discardNoTag_counts s) ht
  | unknownRequest => exact holds_of_next (external_keepsCharge answerUnknown_keepsCharge s) ht
  | idReq => exact holds_of_next (request _ _ _ fun _ _ => .refl) ht
  | selReq => exact holds_of_next (request _ _ _ fun d t => counts (selRequest_counts d t)) ht
  | wrpReq => exact holds_of_next (request _ _ _ wrpRequest_keepsCharge) ht
  | rdpReq => exact holds_of_next (request _ _ _ fun d t => counts (rdpRequest_counts d t)) ht
  | savReq => exact holds_of_next (request _ _ _ fun _ t => counts (savRequest_counts t)) ht
  | defReq =>
    exact holds_of_next (request _ _ _ fun _ t => counts (whenIdle_counts (Counts.refl.keep (arrangeRestart .defaults)))) ht
  | lckReq => exact holds_of_next (request _ _ _ fun _ t => counts (lckRequest_counts t)) ht
  | clrReq => exact holds_of_next (request _ _ _ fun _ t => counts (Counts.refl.frame (by simp [clrRequest]))) ht
  | actReq => exact holds_of_next (request _ _ _ fun d t => counts (actRequest_counts d t)) ht
  | rfrReq => exact holds_of_next (request _ _ _ fun _ t => counts (reframe_counts t)) ht
  | rstReq => exact holds_of_next (request _ _ _ fun _ t => KeepsCharge.refl.keep (arrangeRestart .restart)) ht
  | staReq => exact holds_of_next (request _ _ _ fun d t => counts (staRequest_counts d t)) ht
  | restartTrigger => exact holds_of_next (internal_keepsCharge restartNow_keepsCharge s) ht
  | statusMessage => exact holds_of_next (internal_keepsCharge (fun t => counts (takeMessage_counts t)) s) ht
  | fullChargeEvent => exact holds_of_next (internal_keepsCharge (fun t => counts (fullChargeStep_counts t)) s) ht
  | transmitCycle => exact holds_of_next (external_counts transmitCycle_counts s) ht
  | receivedRound bits => exact holds_of_next (external_counts (receivedRound_counts bits) s) ht
  | minuteTick => exact holds_of_next (external_counts minutePasses_counts s) ht
  | ignitionTimeout => exact holds_of_next (owner (fun t => t.heater.ignition) fun t => Counts.refl.keep ignitionExpires) ht
  | purgeLimit => exact holds_of_next (owner (fun t => t.heater.purge) fun t => Counts.refl.keep purgeExpires) ht
  | levelHoldExpiry => exact holds_of_next (owner (fun t => t.heater.levelHold) fun t => Counts.refl.keep levelHoldExpires) ht
  | minimumOnExpiry => exact holds_of_next (owner (fun t => t.fridge.minOn) fun t => Counts.refl.keep minimumOnExpires) ht
  | minimumOffExpiry => exact holds_of_next (owner (fun t => t.fridge.minOff) fun t => Counts.refl.keep minimumOffExpires) ht
  | surgeHoldExpiry => exact holds_of_next (owner (fun t => t.fridge.surgeHold) fun t => Counts.refl.keep surgeHoldExpires) ht
  | repeatTimerExpiry => exact holds_of_next (owner (fun t => t.rest.repeatTimer) fun t => Counts.refl.keep repeatExpires) ht
  | reset c => exact holds_of_next (resetWith_keepsCharge c s) ht
  | startUp d =>
    exact holds_of_next (.ite (fun _ => (startUpWith_keepsCharge d s).keep qualify) fun _ => .refl) ht
  | ingressMatch | saveComplete | lockWriteComplete | budgetTick | surgeLimitExpiry | protectTimerExpiry | standbyEntry | canWake
  | wakeLineEdge | signalAgeTick | egressPass | frameTransmitted | transmitError | busOffRecovery | noticeRepeat | quietTimerExpiry =>
    exact holds_of_next (external_counts (fun t => Counts.refl.frame (by simp [State.ite_frame])) s) ht
  | signalStale | batteryBlindSet | loopFailedAssert | receivedCycleEnd | nodePresent | nodeLost | levelAssert | levelClear
  | manualLimitExpiry | preheatWindowClose | estimateWindowClose | egressCountdownExpiry | busOff | priorityFrameAdmitted
  | errorWindowEnd | commandStall =>
    exact holds_of_next (internal_keepsCharge (fun t => counts (Counts.refl.frame (by simp))) s) ht

theorem step_keepsCharge {s t : State} (ht : step s = .next t) : KeepsCharge s t := by
  unfold step at ht
  split at ht
  · have h := exec_keepsCharge ht
    exact ⟨h.residue, h.charge⟩
  · exact holds_of_next (external_keepsCharge secondPasses_keepsCharge s) ht

/-- Settles O11: every state a step leads to is reached by operations that leave the count, integrate a charge or start the part up. -/
theorem chargeCountStaysInRange : Obligations.ChargeCountStaysInRange :=
  ⟨fun _ _ hs ht => (step_keepsCharge ht).residue hs, fun _ _ hp hs ht => (step_keepsCharge ht).charge hp hs⟩

end Sys2Proof.Machine
end

section
/-! PROOF. The available charge and the allowance (R90 to R92; O48), the charge count over a transmit cycle (R83, R84; O51). -/

namespace Sys2Proof.Machine

set_option Elab.async false -- one theorem after another: each would otherwise take a thread with its own large stack

theorem available_le (s : State) (h : s.ret.charge ≤ s.energySettings.capacity) :
    s.available ≤ s.energySettings.capacity - s.energySettings.reserve := by
  unfold State.available
  omega

/-- A horizon never below 30 minutes, where the setting is not (R91). -/
theorem horizon_ge {s : State} (h : 30 ≤ s.energySettings.horizon) : 30 ≤ s.horizon := by
  unfold State.horizon
  split
  · rw [clampI_eq_max_min (by decide)]
    omega
  · exact h

/-- The allowance against a bound on the available charge and a horizon of at least 30 (R92). -/
theorem allowance_le {s : State} {a : Nat} (h : 30 ≤ s.horizon) (ha : s.available ≤ 5 * a) : s.allowance ≤ a := by
  unfold State.allowance
  calc 6 * s.available / s.horizon ≤ 6 * s.available / 30 := Nat.div_le_div_left h (by decide)
    _ ≤ a := by omega

theorem allowance_of_none {s : State} (h : s.available = 0) : s.allowance = 0 := by
  simp [State.allowance, h]

/-- Settles O48: the available charge by its definition, the allowance from the bounds on it and on the horizon. -/
theorem availableAndAllowance : Obligations.AvailableAndAllowance := by
  refine ⟨fun s => ⟨?_, fun h => ?_⟩, fun s => ⟨rfl, allowance_of_none, fun hcap hhorizon hcharge => ?_⟩⟩
  · unfold State.available
    omega
  · have hnone : s.available = 0 := Nat.sub_eq_zero_of_le h
    exact ⟨hnone, allowance_of_none hnone⟩
  · have havailable := available_le s hcharge
    exact ⟨allowance_le (horizon_ge hhorizon) (by omega), fun hreserve => allowance_le (horizon_ge hhorizon) (by omega)⟩

/-! ### The charge count over a cycle (R83, R84) -/

theorem integrate_onlyIn (i : Int) (s : State) : s.OnlyIn [.ret] (integrate i s) := by
  intro b hb
  cases b <;> simp_all [Block.Same]

/-- A current that meets neither bound moves 4500 Q + residue by itself (R83). -/
theorem integrate_exact {i : Int} {s : State} (h : 0 ≤ s.chargeAsked i) (hcap : s.chargeAsked i ≤ s.energySettings.capacity) :
    4500 * ((integrate i s).ret.charge : Int) + (integrate i s).ret.residue = 4500 * s.ret.charge + s.ret.residue + i := by
  obtain ⟨hq, hr⟩ := Prod.mk.inj (integrate_within h hcap)
  have hdiv := Int.mul_tdiv_add_tmod (s.ret.residue + i) 4500
  rw [hq, hr, Int.toNat_of_nonneg h, State.chargeAsked]
  omega

/-- A cycle that brought a message integrates nothing (R84). -/
theorem substitute_of_heard {s : State} (h : s.energy.heard = true) :
    substitute s = s.modEnergy fun e => { e with heard := false } := by
  rw [substitute, if_pos h]

/-- The held current, while the hold count is below 25 (R84). -/
theorem substitute_of_held {s : State} {i : Int} (h : s.energy.heard = false) (hi : s.energy.held = some i)
    (hcount : s.energy.holdCount < 25) :
    substitute s = (integrate i s).modEnergy fun e => { e with holdCount := e.holdCount + 1 } := by
  simp [substitute, h, hi, hcount]

/-- Else minus the last projected draw, and BATTERY_BLIND is due (R84). -/
theorem substitute_of_blind {s : State} (h : s.energy.heard = false) (hblind : s.energy.held = none ∨ 25 ≤ s.energy.holdCount) :
    substitute s = (integrate (-(s.lastDraw : Int)) s).modEnergy fun e => { e with blindDue := !e.blind } := by
  rw [substitute, if_neg (by simp [h])]
  rcases hblind with hnone | hcount
  · rw [hnone]
  · split
    · rw [if_neg (Nat.not_lt.mpr hcount)]
    · rfl

/-- The three cases of the check (R84). -/
theorem substitute_cases (s : State) :
    s.energy.heard = true ∨ (∃ i, s.energy.heard = false ∧ s.energy.held = some i ∧ s.energy.holdCount < 25) ∨
      s.energy.heard = false ∧ (s.energy.held = none ∨ 25 ≤ s.energy.holdCount) := by
  cases hheard : s.energy.heard
  · cases s.energy.held with
    | none => simp
    | some i => simp [Nat.lt_or_ge]
  · exact .inl rfl

/-- The check does not look at the transmit side. -/
theorem substitute_modTx (f : LoopTx → LoopTx) (s : State) : substitute (s.modTx f) = (substitute s).modTx f := by
  obtain hheard | ⟨i, hnot, hi, hcount⟩ | ⟨hnot, hblind⟩ := substitute_cases s
  · rw [substitute_of_heard hheard, substitute_of_heard (s := s.modTx f) hheard]
    rfl
  · rw [substitute_of_held hnot hi hcount, substitute_of_held (s := s.modTx f) hnot hi hcount]
    rfl
  · rw [substitute_of_blind hnot hblind, substitute_of_blind (s := s.modTx f) hnot hblind]
    rfl

/-- Whatever it integrates, the check ends the cycle's mark and leaves the held current, the history and BATTERY_BLIND (R84). -/
theorem substitute_keeps (s : State) :
    (substitute s).energy.held = s.energy.held ∧ (substitute s).energy.history = s.energy.history ∧
      (substitute s).energy.heard = false ∧ (substitute s).energy.blind = s.energy.blind := by
  obtain hheard | ⟨i, hnot, hi, hcount⟩ | ⟨hnot, hblind⟩ := substitute_cases s
  · simp [substitute_of_heard hheard]
  · simp [substitute_of_held hnot hi hcount, hnot]
  · simp [substitute_of_blind hnot hblind, hnot]

theorem endCycle_energy (s : State) :
    (endCycle s).energy = { (substitute s).energy with window := (substitute s).energy.window.map (· + 1) } := by
  simp [endCycle, substitute_modTx]

theorem endCycle_count (s : State) : (endCycle s).ret.count = (substitute s).ret.count := by
  simp [endCycle, substitute_modTx]

/-- A part awake and settled: TRANSMIT_CYCLE ends the cycle and begins the next (R22). -/
theorem transmitCycle_of_ready {s : State} (h : s.Ready) : exec .transmitCycle s = .next (qualify (beginCycle (endCycle s))) := by
  rw [exec_transmitCycle, external_settled h.1, transmitCycle, if_pos h.awake]

/-- Settles O51: the cycle's end is the accountant's check, whose three cases are those of the statement. -/
theorem chargeIsCounted : Obligations.ChargeIsCounted := by
  refine ⟨fun i s => ⟨integrate_onlyIn i s, fun h hcap => ⟨integrate_exact h hcap, (integrate_bounded i s).2⟩,
    fun h => Prod.mk.inj (integrate_above h), fun h => Prod.mk.inj (integrate_below h)⟩, fun s hs => ?_, fun s => ⟨?_, ?_⟩⟩
  · refine ⟨_, transmitCycle_of_ready hs, ?_⟩
    have henergy : (qualify (beginCycle (endCycle s))).energy = (endCycle s).energy := by simp
    have hcount : (qualify (beginCycle (endCycle s))).ret.count = (substitute s).ret.count := by simp [endCycle_count]
    obtain ⟨hcharge, hresidue⟩ := Retention.count_eq_iff.mp hcount
    rw [henergy, endCycle_energy, hcharge, hresidue]
    obtain ⟨hheld, hhistory, hmark, hblind⟩ := substitute_keeps s
    refine ⟨hheld, hhistory, hmark, hblind, fun hheard => ?_, fun i hheard hi hlow => ?_, fun hheard hblind => ?_⟩
    · simp [substitute_of_heard hheard]
    · simp [substitute_of_held hheard hi hlow]
    · simp [substitute_of_blind hheard hblind]
  · intro h
    simp only [State.lastDraw, h]
    split <;> rfl
  · intro f h hf
    simp [State.lastDraw, h, hf]

end Sys2Proof.Machine
end

section
/-! PROOF. The roster's live parts entry by entry, a notice with its detail, and the edges of the voltage levels (R68, R69, R101, R196; O52). -/

namespace Sys2Proof.Machine

set_option Elab.async false -- one theorem after another: each would otherwise take a thread with its own large stack

/-! ### Live parts by entry (section 4.1) -/

theorem State.live_congr {s t : State} (h : t.roster = s.roster) (i : Nat) : t.live i = s.live i := by
  rw [State.live, State.live, h]

theorem State.cfg_congr {s t : State} (h : t.tables = s.tables) (i : Nat) : t.cfg i = s.cfg i := by
  rw [State.cfg, State.cfg, h]

theorem State.validEntries_congr {s t : State} (h : t.tables = s.tables) : t.validEntries = s.validEntries := by
  simp only [State.validEntries, State.cfg_congr h]

theorem State.live_modLive (s : State) (i j : Nat) (f : Live → Live) :
    (s.modLive i f).live j = if i = j ∧ i < s.roster.live.length then f (s.live j) else s.live j := by
  simp only [State.live, State.modLive, State.modRoster, List.getD_eq_getElem?_getD, List.getElem?_modify]
  by_cases hij : i = j
  · subst hij
    by_cases hl : i < s.roster.live.length
    · simp [hl]
    · simp [hl]
  · simp [hij]

theorem State.live_modLive_ne {s : State} {i j : Nat} (h : i ≠ j) (f : Live → Live) : (s.modLive i f).live j = s.live j := by
  simp [State.live_modLive, h]

/-- An entry that is not at rest is one of the roster's. -/
theorem State.lt_of_grant {s : State} {i : Nat} (h : (s.live i).grant ≠ .idle) : i < s.roster.live.length := by
  by_contra hlen
  exact h (by simp [State.live, List.getD_eq_getElem?_getD, List.getElem?_eq_none (not_lt.mp hlen), Live.init])

theorem State.live_modLive_self {s : State} {i : Nat} (h : (s.live i).grant ≠ .idle) (f : Live → Live) :
    (s.modLive i f).live i = f (s.live i) := by
  simp [State.live_modLive, State.lt_of_grant h]

theorem State.validEntries_nodup (s : State) : s.validEntries.Nodup := List.nodup_range.filter _

/-- What `f` does for other entries leaves an entry, and so does a pass over them. -/
theorem State.forEach_live_of_not_mem {f : Nat → State → State} {i : Nat} (hf : ∀ j t, j ≠ i → (f j t).live i = t.live i)
    {is : List Nat} (hi : i ∉ is) (s : State) : (s.forEach is f).live i = s.live i := by
  unfold State.forEach
  induction is generalizing s with
  | nil => rfl
  | cons j js ih =>
    obtain ⟨hne, hjs⟩ := not_or.mp (mt List.mem_cons.mpr hi)
    rw [List.foldl_cons, ih hjs, hf j s (Ne.symm hne)]

/-- A pass that meets each entry once does to an entry what `f` does to it, from a state where its live part is still as it was and that
the pass over others has led to. -/
theorem State.forEach_live_of_mem {f : Nat → State → State} {i : Nat} (hf : ∀ j t, j ≠ i → (f j t).live i = t.live i)
    {P : State → Prop} (hP : ∀ j t, P t → P (f j t)) {is : List Nat} (hnd : is.Nodup) (hi : i ∈ is) {s : State} (hs : P s) :
    ∃ t, P t ∧ t.live i = s.live i ∧ (s.forEach is f).live i = (f i t).live i := by
  unfold State.forEach
  induction is generalizing s with
  | nil => simp at hi
  | cons j js ih =>
    obtain ⟨hnot, hjs⟩ := List.nodup_cons.mp hnd
    by_cases hij : j = i
    · subst hij
      exact ⟨s, hs, rfl, State.forEach_live_of_not_mem hf hnot (f j s)⟩
    · have hmem : i ∈ js := (List.mem_cons.mp hi).resolve_left (Ne.symm hij)
      obtain ⟨t, ht, hlive, hend⟩ := ih hjs hmem (hP j s hs)
      exact ⟨t, ht, hlive.trans (hf j s hij), hend⟩

/-! ### A notice and its detail (R196) -/

/-- The notice class `n` is set, with a detail. -/
def State.Latched (s : State) (n : Nat) (d : List Byte) : Prop :=
  s.notices.details.length = 16 ∧ s.notices.flags.getLsbD n = true ∧ s.notices.details.getD n [] = d

@[simp] theorem noticeDue_details (s : State) : (noticeDue s).notices.details = s.notices.details := by
  simp only [noticeDue, noticeDueAs]
  split <;> rfl

theorem raise_details (c : NoticeClass) (d : List Byte) (s : State) :
    (raise c d s).notices.details = s.notices.details.set c.number (padTo 4 d) := by
  simp only [raise]
  split <;> simp

theorem raise_latched {c : NoticeClass} {d : List Byte} {s : State} (h : s.notices.details.length = 16) :
    (raise c d s).Latched c.number (padTo 4 d) := by
  have hlt : c.number < 16 := by cases c <;> decide
  refine ⟨by simp [raise_details, h], raise_flag_self c d s, ?_⟩
  simp [raise_details, List.getD_eq_getElem?_getD, h, hlt]

theorem State.Latched.congr {s t : State} {n : Nat} {d : List Byte} (h : s.Latched n d) (ht : t.notices = s.notices) :
    t.Latched n d := by
  rwa [State.Latched, ht]

/-- A notice of another class leaves it. -/
theorem State.Latched.raise {s : State} {n : Nat} {d : List Byte} (h : s.Latched n d) {c : NoticeClass} (hc : c.number ≠ n)
    (d' : List Byte) : (raise c d' s).Latched n d := by
  obtain ⟨hlen, hflag, hdetail⟩ := h
  refine ⟨by simp [raise_details, hlen], by simp [raise_flags, hflag], ?_⟩
  rw [raise_details, List.getD_eq_getElem?_getD, List.getElem?_set_ne hc, ← List.getD_eq_getElem?_getD, hdetail]

theorem qualify_latched {s : State} {n : Nat} {d : List Byte} (h : s.Latched n d) : (qualify s).Latched n d :=
  h.congr (by simp)

theorem restore_latched {s : State} {n : Nat} {d : List Byte} (h : s.Latched n d) (hn : n ≠ 7) (i : Nat) :
    (restore i s).Latched n d := by
  unfold restore
  split
  · have hmod := h.congr (t := s.modLive i fun l => { l with grant := .waiting, reason := .none }) rfl
    exact hmod.raise (c := .loadShed) (Ne.symm hn) _
  · exact h

theorem protectRestores_latched {s : State} {n : Nat} {d : List Byte} (h : s.Latched n d) (hn : n ≠ 7) :
    (protectRestores s).Latched n d := by
  refine List.foldlRecOn (motive := fun t : State => t.Latched n d) _ _ h fun t ht i _ => ?_
  dsimp only
  split
  · exact restore_latched ht hn i
  · exact ht

/-! ### Restores, entry by entry (R68, R69) -/

theorem raiseLoadShed_live (restored : Bool) (i j : Nat) (s : State) : (raiseLoadShed restored i s).live j = s.live j :=
  State.live_congr (by simp) j

theorem restore_live_self {i : Nat} {s : State} (h : (s.live i).grant = .shed) :
    (restore i s).live i = { s.live i with grant := .waiting, reason := .none } := by
  rw [restore, if_pos h, raiseLoadShed_live, State.live_modLive_self (by simp [h])]

theorem restore_live_ne {i j : Nat} (h : i ≠ j) (s : State) : (restore i s).live j = s.live j := by
  unfold restore
  split
  · rw [raiseLoadShed_live, State.live_modLive_ne h]
  · rfl

/-- A protected entry in SHED is WAITING after the restores (R69). -/
theorem protectRestores_live {s : State} {i : Nat} (hi : i ∈ s.validEntries) (hp : (s.live i).protect = true)
    (hg : (s.live i).grant = .shed) : (protectRestores s).live i = { s.live i with grant := .waiting, reason := .none } := by
  have hne (j : Nat) (t : State) (hj : j ≠ i) : (if (t.live j).protect then restore j t else t).live i = t.live i := by
    split
    · exact restore_live_ne hj t
    · rfl
  obtain ⟨t, -, hlive, hend⟩ :=
    State.forEach_live_of_mem (P := fun _ => True) hne (fun _ _ h => h) s.validEntries_nodup hi (s := s) trivial
  rw [protectRestores, hend, if_pos (hlive ▸ hp), restore_live_self (hlive ▸ hg), hlive]

/-! ### The voltage levels (R101) -/

theorem exec_levelAssert (l : WatchLevel) (s : State) : exec (.levelAssert l) s = .next (internal (levelAssertStep l) s) := rfl

theorem exec_levelClear (l : WatchLevel) (s : State) : exec (.levelClear l) s = .next (internal (levelClearStep l) s) := rfl

theorem State.modLevel_level (s : State) (l k : WatchLevel) (f : Level → Level) :
    (s.modLevel l f).energy.level k = if k = l then f (s.energy.level k) else s.energy.level k := by
  cases l <;> cases k <;> rfl

theorem raiseLevel_latched {l : WatchLevel} {s : State} (h : s.notices.details.length = 16) (begun : Bool) :
    (raiseLevel l begun s).Latched (levelClass l).number (padTo 4 (edgeByte begun :: leOpt 2 s.batteryVoltage)) :=
  raise_latched h

theorem assertLevel_latched {l : WatchLevel} {s : State} (h : s.notices.details.length = 16) :
    (assertLevel l s).Latched (levelClass l).number (padTo 4 (edgeByte true :: leOpt 2 s.batteryVoltage)) :=
  raiseLevel_latched (s := s.modLevel l _) h true

theorem assertLevel_onlyIn (l : WatchLevel) (s : State) : s.OnlyIn [.bus, .energy, .notices, .power] (assertLevel l s) := by
  intro b hb
  cases b <;> simp_all [Block.Same]

theorem clearLevel_onlyIn (l : WatchLevel) (s : State) : s.OnlyIn [.bus, .roster, .energy, .notices, .power] (clearLevel l s) := by
  intro b hb
  cases b <;> simp_all [Block.Same]

theorem assertLevel_level (l k : WatchLevel) (s : State) :
    (assertLevel l s).energy.level k = if k = l then { asserted := true, assertCount := 0, clearCount := 0 } else s.energy.level k := by
  simp [assertLevel, raiseLevel, State.modLevel_level]

theorem clearLevel_level (l k : WatchLevel) (s : State) :
    (clearLevel l s).energy.level k =
      if k = l then { asserted := false, assertCount := 0, clearCount := 0 } else s.energy.level k := by
  simp [clearLevel, raiseLevel, State.modLevel_level, State.ite_frame]

/-- The frame of CUTOFF's clearing: the restores follow the notice (R69, R101). -/
theorem clearLevel_cutoff (s : State) :
    clearLevel .cutoff s =
      protectRestores (raiseLevel .cutoff false (s.modLevel .cutoff fun _ => { asserted := false, assertCount := 0, clearCount := 0 })) :=
  rfl

theorem clearLevel_low (s : State) :
    clearLevel .low s = raiseLevel .low false (s.modLevel .low fun _ => { asserted := false, assertCount := 0, clearCount := 0 }) :=
  rfl

theorem clearLevel_latched {l : WatchLevel} {s : State} (h : s.notices.details.length = 16) :
    (clearLevel l s).Latched (levelClass l).number (padTo 4 (edgeByte false :: leOpt 2 s.batteryVoltage)) := by
  cases l with
  | low => exact raiseLevel_latched (s := s.modLevel .low _) h false
  | cutoff => exact protectRestores_latched (raiseLevel_latched (s := s.modLevel .cutoff _) h false) (by decide)

/-- The edge in the detail of a level's notice (R101). -/
theorem State.Latched.head {s : State} {n : Nat} {b : Byte} {bs : List Byte} (h : s.Latched n (padTo 4 (b :: bs))) :
    (s.notices.details.getD n []).head? = some b := by
  rw [h.2.2]
  rfl

theorem clearLevel_low_roster (s : State) : (clearLevel .low s).roster = s.roster := by
  simp [clearLevel_low, raiseLevel, State.modLevel]

/-- CUTOFF's clearing puts a protected entry in SHED to WAITING (R69). -/
theorem clearLevel_cutoff_live {s : State} {i : Nat} (hi : i ∈ s.validEntries) (hp : (s.live i).protect = true)
    (hg : (s.live i).grant = .shed) : (clearLevel .cutoff s).live i = { s.live i with grant := .waiting, reason := .none } := by
  set u := raiseLevel .cutoff false (s.modLevel .cutoff fun _ => { asserted := false, assertCount := 0, clearCount := 0 }) with hu
  have hlive : u.live i = s.live i := State.live_congr (by simp [hu, raiseLevel, State.modLevel]) i
  have hvalid : u.validEntries = s.validEntries := State.validEntries_congr (by simp [hu, raiseLevel, State.modLevel])
  rw [clearLevel_cutoff, ← hu, protectRestores_live (hvalid ▸ hi) (hlive ▸ hp) (hlive ▸ hg), hlive]

theorem exec_levelAssert_of_due {l : WatchLevel} {s : State} (hrun : s.phase = .running) (hdue : s.assertDue l = true) :
    exec (.levelAssert l) s = .next (qualify (assertLevel l s)) := by
  rw [exec_levelAssert, internal_running hrun, levelAssertStep, if_pos hdue, qualify_qualify]

theorem exec_levelClear_of_due {l : WatchLevel} {s : State} (hrun : s.phase = .running) (hdue : s.clearDue l = true) :
    exec (.levelClear l) s = .next (qualify (clearLevel l s)) := by
  rw [exec_levelClear, internal_running hrun, levelClearStep, if_pos hdue, qualify_qualify]

/-- Settles O52: the two steps are the level's edge, followed for CUTOFF by the restores, which leave its notice. -/
theorem voltageLevelsTurn : Obligations.VoltageLevelsTurn := by
  refine fun l s hrun hlen => ⟨fun hclear hcount => ?_, fun hset hcount => ?_⟩
  · have hdue : s.assertDue l = true := by simp [State.assertDue, hclear, hcount]
    have hlatched := qualify_latched (assertLevel_latched (l := l) hlen)
    refine ⟨_, exec_levelAssert_of_due hrun hdue, (assertLevel_onlyIn l s).qualify (by simp), ?_, fun k hk => ?_,
      hlatched.2.1, hlatched.head⟩
    · simp [assertLevel_level]
    · simp [assertLevel_level, hk]
  · have hdue : s.clearDue l = true := by simp [State.clearDue, hset, hcount]
    have hlatched := qualify_latched (clearLevel_latched (l := l) hlen)
    refine ⟨_, exec_levelClear_of_due hrun hdue, (clearLevel_onlyIn l s).qualify (by simp), ?_, fun k hk => ?_,
      hlatched.2.1, hlatched.head, fun hl i hi hp hg => ?_, fun hl => ?_⟩
    · simp [clearLevel_level]
    · simp [clearLevel_level, hk]
    · subst hl
      have hlive : (qualify (clearLevel .cutoff s)).live i = (clearLevel .cutoff s).live i := State.live_congr (by simp) i
      rw [hlive, clearLevel_cutoff_live hi hp hg]
      exact ⟨rfl, rfl⟩
    · subst hl
      simpa using clearLevel_low_roster s

end Sys2Proof.Machine
end

section
/-! PROOF. The figures, the mode and the tick of the night budget (R88 to R96; O49). -/

namespace Sys2Proof.Machine

set_option Elab.async false -- one theorem after another: each would otherwise take a thread with its own large stack

/-! ### The figures of a tick (R88 to R94) -/

/-- A sum with one entry's row replaced. -/
theorem sum_map_replace {f : Nat → Nat} {i x : Nat} {is : List Nat} (hnd : is.Nodup) (hi : i ∈ is) :
    (is.map fun j => if j = i then x else f j).sum = (is.map f).sum - f i + x := by
  have herased : (is.erase i).map (fun j => if j = i then x else f j) = (is.erase i).map f :=
    List.map_congr_left fun j hj => if_neg (hnd.mem_erase_iff.mp hj).1
  have hold := List.sum_map_erase f hi
  have hnew := List.sum_map_erase (fun j => if j = i then x else f j) hi
  rw [herased, if_pos rfl] at hnew
  omega

theorem testDraw_eq {s : State} {i : Nat} (hi : i ∈ s.validEntries) :
    s.testDraw i = min 65535 (s.energySettings.standing + ((s.validEntries.map fun j =>
      if j = i then (s.live i).work.run * s.duty i + (if s.surgeNeed i = true then (s.live i).work.surge * 256 else 0)
      else s.rowOf j).sum + 128) / 256) := by
  rw [sum_map_replace s.validEntries_nodup hi, ← Nat.add_assoc]
  rfl

/-- Between two points of the table the percentage goes straight, with a floor (R88). -/
theorem deratePct_between {s : State} {t : Int} {i : Nat} (hi : i < 7) (hlo : -40 + 10 * (i : Int) ≤ t)
    (hhi : t < -30 + 10 * (i : Int)) :
    (s.deratePct t : Int) =
      max 0 ((s.derate i : Int) + ((s.derate (i + 1) : Int) - s.derate i) * (t - (-40 + 10 * (i : Int))) / 10) := by
  have hrest : (t + 40) % 10 = t - (-40 + 10 * (i : Int)) := by omega
  have hpoint : ((t + 40) / 10).toNat = i := by omega
  by_cases hend : t ≤ -40
  · have hat : t - (-40 + 10 * (i : Int)) = 0 := by omega
    have hfirst : i = 0 := by omega
    rw [State.deratePct, if_pos hend, hat, hfirst]
    omega
  · rw [State.deratePct, if_neg hend, if_neg (by omega)]
    dsimp only
    rw [hpoint, hrest, Int.ofNat_toNat, max_comm]

theorem chooseMode_of_levels_clear {s : State} (hcutoff : s.energy.cutoff.asserted = false) (hlow : s.energy.low.asserted = false) :
    s.chooseMode =
      if (s.energy.history.length = 12 ∧ 240 ≤ s.energy.history.sum) ∨ s.freshSignal 6 = some 1 then .surplus else .normal := by
  simp [State.chooseMode, hcutoff, hlow]

theorem horizon_of_rest {s : State} (h : s.restOpen = true) :
    (s.horizon : Int) = max 30 (min 1440 ((s.restRec.required : Int) - s.restRec.accumulated + 30)) := by
  rw [State.horizon, if_pos h, clampI_eq_max_min (by decide)]
  omega

/-! ### The tick (R95) -/

/-- The figures a tick works out on the roster as it stands (R95, steps 2 to 4). -/
def State.tickFigures (r : State) : Figures where
  cu := r.usable
  available := r.available
  horizon := r.horizon
  allowance := r.allowance
  draw := r.projected

theorem budgetTickBody_eq (s : State) :
    budgetTickBody s =
      let r := readRoster s
      fridgeTick (r.chooseMode == .surplus) (decideTick r.chooseMode r.projected r.allowance
        (r.modEnergy fun e => { e with figures := some r.tickFigures, mode := r.chooseMode, ticked := true })) := rfl

theorem budgetTickBody_energy (s : State) :
    (budgetTickBody s).energy = { s.energy with
      ticked := true, mode := (readRoster s).chooseMode, figures := some (readRoster s).tickFigures } := by
  simp [budgetTickBody_eq]

theorem budgetTickBody_onlyIn (s : State) :
    s.OnlyIn [.bus, .roster, .energy, .heater, .fridge, .notices, .power, .ret] (budgetTickBody s) := by
  intro b hb
  cases b <;> simp_all [Block.Same]

theorem exec_budgetTick_of_ready {s : State} (h : s.Ready) : exec .budgetTick s = .next (qualify (budgetTickBody s)) := by
  have hexec : exec .budgetTick s = .next (external budgetTick s) := rfl
  rw [hexec, external_settled h.1, budgetTick, if_pos h.awake]

/-- Settles O49: the tick by its equation, its figures by theirs. -/
theorem budgetTickFigures : Obligations.BudgetTickFigures := by
  refine ⟨fun s h => ?_, fun s => ?_, fun s t => ?_, fun s => ?_⟩
  · have henergy : (qualify (budgetTickBody s)).energy = (budgetTickBody s).energy := by simp
    have hcharge : (qualify (budgetTickBody s)).ret.charge = s.ret.charge :=
      (Retention.count_eq_iff.mp (by simp : (qualify (budgetTickBody s)).ret.count = s.ret.count)).1
    refine ⟨_, exec_budgetTick_of_ready h, henergy.trans (budgetTickBody_energy s), hcharge,
      (budgetTickBody_onlyIn s).qualify (by simp), ?_⟩
    have hread : s.energy = (readRoster s).energy := by simp
    rw [henergy, budgetTickBody_energy, hread, budgetTickBody_eq]
    rfl
  · refine ⟨fun hcutoff => ?_, fun hcutoff hlow => ?_, fun hcutoff hlow => ?_⟩
    · simp [State.chooseMode, hcutoff]
    · simp [State.chooseMode, hcutoff, hlow]
    · rw [chooseMode_of_levels_clear hcutoff hlow]
      refine ⟨fun hsurplus => if_pos hsurplus, fun hhistory hsignal => if_neg ?_⟩
      rintro (⟨hlen, hsum⟩ | hone)
      · omega
      · exact hsignal hone
  · exact ⟨fun hlo => if_pos hlo, fun hhi => by rw [State.deratePct, if_neg (by omega), if_pos hhi], fun i => deratePct_between⟩
  · refine ⟨rfl, fun r hr => ⟨fun i v x hm => ?_, fun hm => ?_⟩, fun hclosed => ?_, horizon_of_rest, fun i => testDraw_eq⟩
    · simp [State.batteryTemp, hr, hm]
    · simp [State.batteryTemp, hr, hm]
    · rw [State.horizon, hclosed]
      rfl

end Sys2Proof.Machine
end

section
/-! PROOF. What leaves the run limit's count as it was, and what the rest of a minute leaves of the clock, the rest record and the notices (R110,
R161, R166, R167; O57). -/

namespace Sys2Proof.Machine

set_option Elab.async false -- one theorem after another: each would otherwise take a thread with its own large stack

/-! ### The run limit's count, which only the minute and the mode move (R110) -/

/-- The run limit's count and its mark. -/
def Heater.manual (h : Heater) : Option Nat × Bool := (h.manualCount, h.manualDue)

@[simp] theorem ite_manual (c : Prop) [Decidable c] (s t : State) :
    (if c then s else t).heater.manual = if c then s.heater.manual else t.heater.manual := by
  split <;> rfl

@[simp] theorem Heater.manual_eta (h : Heater) : (h.manualCount, h.manualDue) = h.manual := rfl

@[simp] theorem Heater.manual_mk (st : HeaterState) (m : HeatMode) (p : Int) (th : Bool) (w : Option Nat) (pr d : Bool) (c : Option Nat)
    (due wd : Bool) (l : Nat) (lh ig pu : Option Nat) (ss : Bool) (it : Option Nat) (po : Bool) (o : Option Int) :
    (Heater.mk st m p th w pr d c due wd l lh ig pu ss it po o).manual = (c, due) := rfl

@[simp] theorem onEntry_manual (k : LoadKind) (f : Nat → State → State) (s : State)
    (h : ∀ i t, (f i t).heater.manual = t.heater.manual) : (onEntry k f s).heater.manual = s.heater.manual := by
  unfold onEntry
  split
  · exact h _ s
  · rfl

@[simp] theorem forEach_manual (s : State) (is : List Nat) (f : Nat → State → State)
    (h : ∀ i t, (f i t).heater.manual = t.heater.manual) : (s.forEach is f).heater.manual = s.heater.manual :=
  State.forEach_read (fun t => t.heater.manual) h s is

@[simp] theorem enterStarting_manual (s : State) : (enterStarting s).heater.manual = s.heater.manual := by
  simp [enterStarting]

@[simp] theorem handOver_manual (n : Nat) (s : State) : (handOver n s).heater.manual = s.heater.manual := by
  induction n generalizing s with
  | zero => rfl
  | succ n ih =>
    unfold handOver
    dsimp only
    repeat' split
    all_goals simp [ih]

@[simp] theorem surgeDone_manual (i : Nat) (s : State) : (surgeDone i s).heater.manual = s.heater.manual := by
  simp only [surgeDone]
  repeat' split
  all_goals simp

@[simp] theorem giveUpPlace_manual (i : Nat) (s : State) : (giveUpPlace i s).heater.manual = s.heater.manual := by
  simp only [giveUpPlace]
  repeat' split
  all_goals simp

@[simp] theorem askSlot_manual (i : Nat) (s : State) : (askSlot i s).heater.manual = s.heater.manual := by
  simp only [askSlot]
  repeat' split
  all_goals simp

@[simp] theorem release_manual (withStop : Bool) (i : Nat) (s : State) : (release withStop i s).heater.manual = s.heater.manual := by
  simp only [release]
  repeat' split
  all_goals simp

@[simp] theorem heaterMarks_manual (s : State) : (heaterMarks s).heater.manual = s.heater.manual := by
  simp [heaterMarks]

@[simp] theorem commandStop_manual (st : HeaterState) (s : State) : (commandStop st s).heater.manual = s.heater.manual := by
  simp [commandStop, leaveRun]

@[simp] theorem heaterAsk_manual (s : State) : (heaterAsk s).heater.manual = s.heater.manual := by
  simp only [heaterAsk]
  repeat' split
  all_goals simp

@[simp] theorem heaterStart_manual (s : State) : (heaterStart s).heater.manual = s.heater.manual := by
  simp only [heaterStart]
  repeat' split
  all_goals simp

@[simp] theorem endStopping_manual (s : State) : (endStopping s).heater.manual = s.heater.manual := by
  simp only [endStopping]
  repeat' split
  all_goals simp

@[simp] theorem endRetry_manual (s : State) : (endRetry s).heater.manual = s.heater.manual := by
  simp only [endRetry]
  repeat' split
  all_goals simp

@[simp] theorem endLockoutPurge_manual (s : State) : (endLockoutPurge s).heater.manual = s.heater.manual := by
  simp [endLockoutPurge]

@[simp] theorem heaterAtIdle_manual (s : State) : (heaterAtIdle s).heater.manual = s.heater.manual := by
  simp only [heaterAtIdle]
  repeat' split
  all_goals simp

@[simp] theorem heaterTests_manual (s : State) : (heaterTests s).heater.manual = s.heater.manual := by
  simp [heaterTests]

@[simp] theorem demandEnds_manual (s : State) : (demandEnds s).heater.manual = s.heater.manual := by
  simp only [demandEnds]
  repeat' split
  all_goals simp

@[simp] theorem takeLevel_manual (s : State) : (takeLevel s).heater.manual = s.heater.manual := by
  simp only [takeLevel]
  repeat' split
  all_goals simp

@[simp] theorem heaterRefresh_manual (s : State) : (heaterRefresh s).heater.manual = s.heater.manual := by
  simp only [heaterRefresh]
  repeat' split
  all_goals simp

@[simp] theorem heaterNodeLeft_manual (s : State) : (heaterNodeLeft s).heater.manual = s.heater.manual := by
  simp only [heaterNodeLeft]
  repeat' split
  all_goals simp

@[simp] theorem openWindow_manual (endMinute : Nat) (s : State) : (openWindow endMinute s).heater.manual = s.heater.manual := by
  simp [openWindow]

@[simp] theorem closeWindow_manual (s : State) : (closeWindow s).heater.manual = s.heater.manual := by
  simp [closeWindow]

@[simp] theorem fridgeWant_manual (s : State) : (fridgeWant s).heater.manual = s.heater.manual := by
  simp only [fridgeWant]
  repeat' split
  all_goals simp

@[simp] theorem fridgeCutIn_manual (s : State) : (fridgeCutIn s).heater.manual = s.heater.manual := by
  simp only [fridgeCutIn]
  repeat' split
  all_goals simp

@[simp] theorem fridgeChecks_manual (s : State) : (fridgeChecks s).heater.manual = s.heater.manual := by
  simp only [fridgeChecks]
  repeat' split
  all_goals simp

@[simp] theorem fridgeHeld_manual (s : State) : (fridgeHeld s).heater.manual = s.heater.manual := by
  simp only [fridgeHeld]
  repeat' split
  all_goals simp

@[simp] theorem fridgeTests_manual (s : State) : (fridgeTests s).heater.manual = s.heater.manual := by
  simp only [fridgeTests]
  repeat' split
  all_goals simp

@[simp] theorem fridgeBegin_manual (s : State) : (fridgeBegin s).heater.manual = s.heater.manual := by
  simp [fridgeBegin]

@[simp] theorem fridgeStop_manual (st : FridgeState) (s : State) : (fridgeStop st s).heater.manual = s.heater.manual := by
  simp [fridgeStop]

@[simp] theorem fridgeFault_manual (c : FridgeCause) (s : State) : (fridgeFault c s).heater.manual = s.heater.manual := by
  simp [fridgeFault]

@[simp] theorem fridgeFaultTests_manual (s : State) : (fridgeFaultTests s).heater.manual = s.heater.manual := by
  simp only [fridgeFaultTests]
  repeat' split
  all_goals simp

@[simp] theorem fridgeNews_manual (s : State) : (fridgeNews s).heater.manual = s.heater.manual := by
  simp [fridgeNews]

@[simp] theorem fridgeRefresh_manual (s : State) : (fridgeRefresh s).heater.manual = s.heater.manual := by
  simp [fridgeRefresh]

@[simp] theorem fridgeNodeLeft_manual (s : State) : (fridgeNodeLeft s).heater.manual = s.heater.manual := by
  simp only [fridgeNodeLeft]
  repeat' split
  all_goals simp

@[simp] theorem lightTest_manual (i : Nat) (s : State) : (lightTest i s).heater.manual = s.heater.manual := by
  simp only [lightTest]
  repeat' split
  all_goals simp

@[simp] theorem lightTests_manual (s : State) : (lightTests s).heater.manual = s.heater.manual := by
  simp [lightTests]

@[simp] theorem sunriseStart_manual (lead : Nat) (s : State) : (sunriseStart lead s).heater.manual = s.heater.manual := by
  simp [sunriseStart]

@[simp] theorem outletApply_manual (o : Nat) (s : State) : (outletApply o s).heater.manual = s.heater.manual := by
  simp only [outletApply]
  repeat' split
  all_goals simp

@[simp] theorem setOutlet_manual (o : Nat) (on : Bool) (s : State) : (setOutlet o on s).heater.manual = s.heater.manual := by
  simp [setOutlet]

@[simp] theorem outletLost_manual (p : Nat) (s : State) : (outletLost p s).heater.manual = s.heater.manual := by
  simp [outletLost]

@[simp] theorem movePreheat_manual (w : Option Nat) (s : State) : (movePreheat w s).heater.manual = s.heater.manual := by
  simp only [movePreheat]
  repeat' split
  all_goals simp

@[simp] theorem workOutWake_manual (s : State) : (workOutWake s).heater.manual = s.heater.manual := by
  simp only [workOutWake]
  repeat' split
  all_goals simp

@[simp] theorem markServed_manual (w : Warning) (s : State) : (markServed w s).heater.manual = s.heater.manual := by
  simp only [markServed]
  repeat' split
  all_goals simp

@[simp] theorem activate_manual (w : Warning) (s : State) : (activate w s).heater.manual = s.heater.manual := by
  simp [activate]

@[simp] theorem displace_manual (s : State) : (displace s).heater.manual = s.heater.manual := by
  simp only [displace]
  repeat' split
  all_goals simp

@[simp] theorem dealWith_manual (w : Warning) (s : State) : (dealWith w s).heater.manual = s.heater.manual := by
  simp only [dealWith]
  repeat' split
  all_goals simp

@[simp] theorem sweepN_manual (n : Nat) (s : State) : (sweepN n s).heater.manual = s.heater.manual := by
  induction n generalizing s with
  | zero => rfl
  | succ n ih =>
    unfold sweepN
    split <;> simp [ih]

@[simp] theorem restEnd_manual (s : State) : (restEnd s).heater.manual = s.heater.manual := by
  simp only [restEnd]
  repeat' split
  all_goals simp

@[simp] theorem checkComplete_manual (s : State) : (checkComplete s).heater.manual = s.heater.manual := by
  simp only [checkComplete]
  repeat' split
  all_goals simp

@[simp] theorem countMinute_manual (s : State) : (countMinute s).heater.manual = s.heater.manual := by
  simp only [countMinute]
  repeat' split
  all_goals simp

@[simp] theorem restMinute_manual (s : State) : (restMinute s).heater.manual = s.heater.manual := by
  simp [restMinute]

@[simp] theorem activityLost_manual (s : State) : (activityLost s).heater.manual = s.heater.manual := by
  simp only [activityLost]
  repeat' split
  all_goals simp

@[simp] theorem preheatNews_manual (s : State) : (preheatNews s).heater.manual = s.heater.manual := by
  simp [preheatNews]

@[simp] theorem heaterInputs_manual (s : State) : (heaterInputs s).heater.manual = s.heater.manual := by
  simp only [heaterInputs]
  repeat' split
  all_goals simp

@[simp] theorem tellLost_manual (n : Nat) (s : State) : (tellLost n s).heater.manual = s.heater.manual := by
  simp only [tellLost]
  repeat' split
  all_goals simp

@[simp] theorem turnStale_manual (n : Nat) (s : State) : (turnStale n s).heater.manual = s.heater.manual := by
  simp only [turnStale]
  repeat' split
  all_goals simp

@[simp] theorem tellLeft_manual (p : Nat) (s : State) : (tellLeft p s).heater.manual = s.heater.manual := by
  simp only [tellLeft]
  repeat' split
  all_goals simp

@[simp] theorem tellStaleMark_manual (p : Nat) (s : State) : (tellStaleMark p s).heater.manual = s.heater.manual := by
  simp only [tellStaleMark]
  repeat' split
  all_goals simp

@[simp] theorem loopWake_manual (s : State) : (loopWake s).heater.manual = s.heater.manual := by
  simp [loopWake]

@[simp] theorem signalsWake_manual (s : State) : (signalsWake s).heater.manual = s.heater.manual := by
  simp [signalsWake]

@[simp] theorem wake_manual (st : PowerState) (s : State) : (wake st s).heater.manual = s.heater.manual := by
  simp [wake]

/-! ### The clock, the minutes and the rest state through what follows of a minute (R161, R166, R167) -/

/-- `t` comes after `s` in the same minute: the clock, the open rest's minutes and its state are as they were, leads that were all served
are, and no notice has been cleared. -/
structure State.MinuteOn (s t : State) : Prop where
  clock : t.ret.clock = s.ret.clock
  accumulated : t.ret.rest.accumulated = s.ret.rest.accumulated
  provisional : t.ret.rest.provisional = s.ret.rest.provisional
  state : t.ret.rest.state = s.ret.rest.state
  leads : s.ret.rest.leadsServed = [true, true, true] → t.ret.rest.leadsServed = [true, true, true]
  flags : ∀ n, s.notices.flags.getLsbD n = true → t.notices.flags.getLsbD n = true

section MinuteOn
variable {a s t : State}

@[simp] theorem State.MinuteOn.refl (s : State) : s.MinuteOn s := ⟨rfl, rfl, rfl, rfl, id, fun _ => id⟩

/-- An operation that leaves the clock, the rest record and the notices. -/
theorem State.MinuteOn.same (h : a.MinuteOn s) (hr : t.ret.clock = s.ret.clock ∧ t.ret.rest = s.ret.rest ∧ t.notices = s.notices) :
    a.MinuteOn t := by
  obtain ⟨hclock, hrest, hnotices⟩ := hr
  obtain ⟨h₁, h₂, h₃, h₄, h₅, h₆⟩ := h
  exact ⟨hclock ▸ h₁, hrest ▸ h₂, hrest ▸ h₃, hrest ▸ h₄, fun hl => hrest ▸ h₅ hl, fun n hn => hnotices ▸ h₆ n hn⟩

@[simp] theorem State.MinuteOn.modPanel (h : a.MinuteOn s) (f : Panel → Panel) : a.MinuteOn (s.modPanel f) :=
  h.same ⟨rfl, rfl, rfl⟩

@[simp] theorem State.MinuteOn.modRest (h : a.MinuteOn s) (f : Rest → Rest) : a.MinuteOn (s.modRest f) :=
  h.same ⟨rfl, rfl, rfl⟩

@[simp] theorem State.MinuteOn.modHeater (h : a.MinuteOn s) (f : Heater → Heater) : a.MinuteOn (s.modHeater f) :=
  h.same ⟨rfl, rfl, rfl⟩

@[simp] theorem State.MinuteOn.modFridge (h : a.MinuteOn s) (f : Fridge → Fridge) : a.MinuteOn (s.modFridge f) :=
  h.same ⟨rfl, rfl, rfl⟩

@[simp] theorem State.MinuteOn.modPower (h : a.MinuteOn s) (f : Power → Power) : a.MinuteOn (s.modPower f) :=
  h.same ⟨rfl, rfl, rfl⟩

@[simp] theorem State.MinuteOn.modRx (h : a.MinuteOn s) (f : LoopRx → LoopRx) : a.MinuteOn (s.modRx f) := h.same ⟨rfl, rfl, rfl⟩

@[simp] theorem State.MinuteOn.modNodes (h : a.MinuteOn s) (f : List NodeRec → List NodeRec) : a.MinuteOn (s.modNodes f) :=
  h.same ⟨rfl, rfl, rfl⟩

@[simp] theorem State.MinuteOn.modRet (h : a.MinuteOn s) (f : Retention → Retention)
    (hf : (f s.ret).clock = s.ret.clock ∧ (f s.ret).rest = s.ret.rest) : a.MinuteOn (s.modRet f) := h.same ⟨hf.1, hf.2, rfl⟩

/-- The rest record changed, but for its minutes and its state. -/
@[simp] theorem State.MinuteOn.modRestRec (h : a.MinuteOn s) (f : RestRec → RestRec)
    (hf : (f s.ret.rest).accumulated = s.ret.rest.accumulated ∧ (f s.ret.rest).provisional = s.ret.rest.provisional ∧
      (f s.ret.rest).state = s.ret.rest.state)
    (hl : s.ret.rest.leadsServed = [true, true, true] → (f s.ret.rest).leadsServed = [true, true, true]) :
    a.MinuteOn (s.modRestRec f) where
  clock := h.clock
  accumulated := hf.1.trans h.accumulated
  provisional := hf.2.1.trans h.provisional
  state := hf.2.2.trans h.state
  leads ha := hl (h.leads ha)
  flags := h.flags

@[simp] theorem State.MinuteOn.raise (h : a.MinuteOn s) (c : NoticeClass) (d : List Byte) : a.MinuteOn (raise c d s) := by
  have hframe : (Machine.raise c d s).ret = s.ret := by simp
  refine ⟨hframe ▸ h.clock, hframe ▸ h.accumulated, hframe ▸ h.provisional, hframe ▸ h.state, hframe ▸ h.leads, fun n hn => ?_⟩
  simp [raise_flags, h.flags n hn]

theorem State.MinuteOn.onEntry (h : a.MinuteOn s) (k : LoadKind) {f : Nat → State → State}
    (hf : ∀ i t, (f i t).ret = t.ret ∧ (f i t).notices = t.notices) : a.MinuteOn (onEntry k f s) := by
  unfold Machine.onEntry
  split
  next i _ => exact h.same ⟨by rw [(hf i s).1], by rw [(hf i s).1], (hf i s).2⟩
  next => exact h

theorem State.MinuteOn.forEach (h : a.MinuteOn s) (is : List Nat) {f : Nat → State → State}
    (hf : ∀ i t, a.MinuteOn t → a.MinuteOn (f i t)) : a.MinuteOn (s.forEach is f) :=
  List.foldlRecOn (motive := fun t : State => a.MinuteOn t) is _ h fun t ht i _ => hf i t ht

/-- A list of three leads that are all served has them all served with one more marked. -/
theorem leads_set_served (l : List Bool) (i : Nat) (h : l = [true, true, true]) : l.set i true = [true, true, true] := by
  subst h
  match i with
  | 0 | 1 | 2 | _ + 3 => rfl

@[simp] theorem setBaseline_minuteOn (n : Nat) (b : Option (List Nat)) (h : a.MinuteOn s) : a.MinuteOn (setBaseline n b s) :=
  h.same (by simp)

@[simp] theorem takeMark_minuteOn (n : Nat) (h : a.MinuteOn s) : a.MinuteOn (takeMark n s) := h.same (by simp)

@[simp] theorem modSignal_minuteOn (n : Nat) (f : SignalRec → SignalRec) (h : a.MinuteOn s) : a.MinuteOn (s.modSignal n f) :=
  h.same (by simp)

@[simp] theorem startRepeat_minuteOn (h : a.MinuteOn s) : a.MinuteOn (startRepeat s) := h.same (by simp)

@[simp] theorem strike_minuteOn (h : a.MinuteOn s) : a.MinuteOn (strike s) := h.same (by simp)

@[simp] theorem refreshIdle_minuteOn (h : a.MinuteOn s) : a.MinuteOn (refreshIdle s) := h.same (by simp)

@[simp] theorem overlayStart_minuteOn (o : Overlay) (h : a.MinuteOn s) : a.MinuteOn (overlayStart o s) := h.same (by simp)

@[simp] theorem overlayEnd_minuteOn (k i : Nat) (h : a.MinuteOn s) : a.MinuteOn (overlayEnd k i s) := h.same (by simp)

@[simp] theorem lightRestChanged_minuteOn (h : a.MinuteOn s) : a.MinuteOn (lightRestChanged s) := h.same (by simp)

@[simp] theorem sunriseStart_minuteOn (lead : Nat) (h : a.MinuteOn s) : a.MinuteOn (sunriseStart lead s) := h.same (by simp)

@[simp] theorem openWindow_minuteOn (endMinute : Nat) (h : a.MinuteOn s) : a.MinuteOn (openWindow endMinute s) := h.same (by simp)

@[simp] theorem closeWindow_minuteOn (h : a.MinuteOn s) : a.MinuteOn (closeWindow s) := h.same (by simp)

@[simp] theorem heaterRefresh_minuteOn (h : a.MinuteOn s) : a.MinuteOn (heaterRefresh s) := h.same (by simp)

@[simp] theorem heaterMinute_minuteOn (h : a.MinuteOn s) : a.MinuteOn (heaterMinute s) := h.same (by simp)

@[simp] theorem heaterNodeLeft_minuteOn (h : a.MinuteOn s) : a.MinuteOn (heaterNodeLeft s) := h.same (by simp)

@[simp] theorem outletLost_minuteOn (p : Nat) (h : a.MinuteOn s) : a.MinuteOn (outletLost p s) := h.same (by simp)

@[simp] theorem startTransmit_minuteOn (h : a.MinuteOn s) : a.MinuteOn (startTransmit s) := h.same (by simp)

@[simp] theorem fridgeChecks_minuteOn (h : a.MinuteOn s) : a.MinuteOn (fridgeChecks s) := h.same (by simp)

@[simp] theorem setProtect_minuteOn (v : Bool) (h : a.MinuteOn s) : a.MinuteOn (setProtect v s) := by
  simp only [setProtect]
  repeat' split
  all_goals simp [h]

@[simp] theorem fridgeStop_minuteOn (st : FridgeState) (h : a.MinuteOn s) : a.MinuteOn (fridgeStop st s) := by
  have hreleased : a.MinuteOn (onEntry .fridge (fun i t => if (t.live i).want then release false i t else t)
      (onEntry .fridge giveUpPlace (fridgeTo st s))) := h.same (by simp [State.ite_frame])
  exact State.MinuteOn.modFridge (setProtect_minuteOn false hreleased) fun f => { f with protectTimer := none }

@[simp] theorem fridgeFault_minuteOn (c : FridgeCause) (h : a.MinuteOn s) : a.MinuteOn (fridgeFault c s) := by
  simp [fridgeFault, h]

@[simp] theorem fridgeFaultTests_minuteOn (h : a.MinuteOn s) : a.MinuteOn (fridgeFaultTests s) := by
  simp only [fridgeFaultTests]
  repeat' split
  · exact h.modFridge _
  · exact fridgeFault_minuteOn _ h
  · exact h.same (by simp)
  · exact h.same (by simp)
  · exact h

@[simp] theorem fridgeNews_minuteOn (h : a.MinuteOn s) : a.MinuteOn (fridgeNews s) := by
  simp [fridgeNews, h]

@[simp] theorem fridgeNodeLeft_minuteOn (h : a.MinuteOn s) : a.MinuteOn (fridgeNodeLeft s) := by
  simp only [fridgeNodeLeft]
  repeat' split
  all_goals simp [h]

@[simp] theorem raiseRestState_minuteOn (h : a.MinuteOn s) : a.MinuteOn (raiseRestState s) := by
  simp [raiseRestState, h]

@[simp] theorem judgeStale_minuteOn (h : a.MinuteOn s) : a.MinuteOn (judgeStale s) := by
  simp only [judgeStale]
  repeat' split
  all_goals simp [h]

@[simp] theorem enqueue_minuteOn (w : Warning) (h : a.MinuteOn s) : a.MinuteOn (enqueue w s) := by
  simp only [enqueue]
  repeat' split
  all_goals simp [h]

@[simp] theorem removeKind_minuteOn (k : WarnKind) (h : a.MinuteOn s) : a.MinuteOn (removeKind k s) := by
  simp [removeKind, h]

@[simp] theorem endActive_minuteOn (h : a.MinuteOn s) : a.MinuteOn (endActive s) := by
  simp only [endActive]
  split
  · exact overlayEnd_minuteOn _ _ (((h.modRet _ ⟨rfl, rfl⟩).modRest _).modPanel _)
  · exact h

@[simp] theorem endKinds_minuteOn (ks : List WarnKind) (h : a.MinuteOn s) : a.MinuteOn (endKinds ks s) := by
  simp only [endKinds]
  repeat' split
  all_goals simp [h]

@[simp] theorem displace_minuteOn (h : a.MinuteOn s) : a.MinuteOn (displace s) := by
  simp only [displace]
  repeat' split
  all_goals simp [h]

@[simp] theorem formPreheat_minuteOn (h : a.MinuteOn s) : a.MinuteOn (formPreheat s) := by
  simp only [formPreheat]
  repeat' split
  all_goals simp [h]

@[simp] theorem movePreheat_minuteOn (w : Option Nat) (h : a.MinuteOn s) : a.MinuteOn (movePreheat w s) := by
  simp only [movePreheat]
  repeat' split
  all_goals simp [h]

@[simp] theorem formWake_minuteOn (h : a.MinuteOn s) : a.MinuteOn (formWake s) := by
  simp only [formWake]
  repeat' split
  all_goals simp [h]

@[simp] theorem formSunrise_minuteOn (h : a.MinuteOn s) : a.MinuteOn (formSunrise s) := by
  simp only [formSunrise]
  repeat' split
  all_goals simp [h]

@[simp] theorem workOutWake_minuteOn (h : a.MinuteOn s) : a.MinuteOn (workOutWake s) := by
  simp only [workOutWake]
  split
  · exact h
  · refine formSunrise_minuteOn (formPreheat_minuteOn (formWake_minuteOn (movePreheat_minuteOn _ ?_)))
    exact removeKind_minuteOn _ (removeKind_minuteOn _ (removeKind_minuteOn _ (h.modRest _)))

@[simp] theorem formLead_minuteOn (i : Nat) (h : a.MinuteOn s) : a.MinuteOn (formLead i s) := by
  simp only [formLead]
  repeat' split
  · exact h
  · exact enqueue_minuteOn _ h
  · exact h.modRestRec _ ⟨rfl, rfl, rfl⟩ (leads_set_served _ i)

@[simp] theorem formLeads_minuteOn (h : a.MinuteOn s) : a.MinuteOn (formLeads s) := by
  simp only [formLeads]
  split
  · exact (removeKind_minuteOn _ h).forEach _ fun i t ht => formLead_minuteOn i ht
  · exact h

@[simp] theorem leaveDrive_minuteOn (h : a.MinuteOn s) : a.MinuteOn (leaveDrive s) := by
  simp only [leaveDrive]
  exact endKinds_minuteOn _ ((removeKind_minuteOn _ h).modRest _)

@[simp] theorem markServed_minuteOn (w : Warning) (h : a.MinuteOn s) : a.MinuteOn (markServed w s) := by
  simp only [markServed]
  split
  · exact h.modRestRec _ ⟨rfl, rfl, rfl⟩ (leads_set_served _ w.index)
  · exact h.modRest _
  · exact workOutWake_minuteOn ((h.modRet _ ⟨rfl, rfl⟩).modRestRec _ ⟨rfl, rfl, rfl⟩ id)
  · exact h

@[simp] theorem activate_minuteOn (w : Warning) (h : a.MinuteOn s) : a.MinuteOn (activate w s) := by
  simp only [activate]
  refine markServed_minuteOn w (overlayStart_minuteOn _ (strike_minuteOn (.modPanel (startRepeat_minuteOn ?_) _)))
  exact h.modRet _ ⟨rfl, rfl⟩

@[simp] theorem dealWith_minuteOn (w : Warning) (h : a.MinuteOn s) : a.MinuteOn (dealWith w s) := by
  simp only [dealWith]
  split
  · exact openWindow_minuteOn _ (h.modRet _ ⟨rfl, rfl⟩)
  · exact sunriseStart_minuteOn _ (h.modRestRec _ ⟨rfl, rfl, rfl⟩ id)
  · exact activate_minuteOn w (displace_minuteOn h)

@[simp] theorem sweepN_minuteOn (n : Nat) (h : a.MinuteOn s) : a.MinuteOn (sweepN n s) := by
  induction n generalizing s with
  | zero => exact h
  | succ n ih =>
    unfold sweepN
    split
    · exact ih (dealWith_minuteOn _ (h.modRet _ ⟨rfl, rfl⟩))
    · exact h

@[simp] theorem restEnd_minuteOn (h : a.MinuteOn s) : a.MinuteOn (restEnd s) := by
  simp only [restEnd]
  repeat' split
  all_goals simp [h]

@[simp] theorem activityLost_minuteOn (h : a.MinuteOn s) : a.MinuteOn (activityLost s) := by
  simp only [activityLost]
  refine restEnd_minuteOn (judgeStale_minuteOn ?_)
  split
  · exact leaveDrive_minuteOn h
  · exact h

@[simp] theorem preheatNews_minuteOn (h : a.MinuteOn s) : a.MinuteOn (preheatNews s) := by
  simp [preheatNews, h]

@[simp] theorem heaterInputs_minuteOn (h : a.MinuteOn s) : a.MinuteOn (heaterInputs s) := by
  simp only [heaterInputs]
  refine heaterRefresh_minuteOn ?_
  split
  · exact h
  · exact preheatNews_minuteOn (h.modHeater _)

@[simp] theorem tellLost_minuteOn (n : Nat) (h : a.MinuteOn s) : a.MinuteOn (tellLost n s) := by
  simp only [tellLost]
  repeat' split
  all_goals simp [h]

@[simp] theorem turnStale_minuteOn (n : Nat) (h : a.MinuteOn s) : a.MinuteOn (turnStale n s) := by
  simp only [turnStale]
  repeat' split
  all_goals simp [h]

@[simp] theorem tellLeft_minuteOn (p : Nat) (h : a.MinuteOn s) : a.MinuteOn (tellLeft p s) := by
  simp only [tellLeft]
  repeat' split
  all_goals simp [h]

@[simp] theorem tellStaleMark_minuteOn (p : Nat) (h : a.MinuteOn s) : a.MinuteOn (tellStaleMark p s) := by
  simp only [tellStaleMark]
  repeat' split
  all_goals simp [h]

@[simp] theorem loopWake_minuteOn (h : a.MinuteOn s) : a.MinuteOn (loopWake s) := by
  simp only [loopWake]
  refine State.MinuteOn.forEach ?_ _ fun n t ht => setBaseline_minuteOn n none ht
  refine State.MinuteOn.forEach ?_ _ fun p t => tellStaleMark_minuteOn p
  exact ((h.modRx _).modNodes _).forEach _ fun p t => tellLeft_minuteOn p

@[simp] theorem signalsWake_minuteOn (h : a.MinuteOn s) : a.MinuteOn (signalsWake s) :=
  h.forEach _ fun n _ => turnStale_minuteOn n

@[simp] theorem noticeDueIfAny_minuteOn (h : a.MinuteOn s) : a.MinuteOn (noticeDueIfAny s) := by
  have hret : (noticeDueIfAny s).ret = s.ret := by simp
  exact ⟨hret ▸ h.clock, hret ▸ h.accumulated, hret ▸ h.provisional, hret ▸ h.state, hret ▸ h.leads, fun n hn => by
    rw [(noticeDueIfAny_flags s).1]
    exact h.flags n hn⟩

@[simp] theorem wake_minuteOn (st : PowerState) (h : a.MinuteOn s) : a.MinuteOn (wake st s) :=
  noticeDueIfAny_minuteOn (startTransmit_minuteOn (signalsWake_minuteOn (loopWake_minuteOn (h.modPower _))))

/-- Counting a charge moves the count and its residue only (R83). -/
theorem integrate_ret (i : Int) (s : State) :
    (integrate i s).ret = { s.ret with charge := (integrate i s).ret.charge, residue := (integrate i s).ret.residue } := by
  simp only [integrate, State.modRet]
  repeat' split
  all_goals rfl

@[simp] theorem energyMinute_minuteOn (h : a.MinuteOn s) : a.MinuteOn (energyMinute s) := by
  simp only [energyMinute]
  split
  · have hret := integrate_ret (-(s.energySettings.standby : Int) * 750) s
    exact h.same ⟨by rw [hret], by rw [hret], by simp⟩
  · exact h

end MinuteOn

end Sys2Proof.Machine
end

section
/-! PROOF. A rest clock with nothing to do, through a minute and a wake (R171, R179, R201; O57). -/

namespace Sys2Proof.Machine

set_option Elab.async false -- one theorem after another: each would otherwise take a thread with its own large stack

/-! ### A rest clock with nothing to do (R171, R174, R181) -/

/-- No rest is open and no wake minute stands; what is queued or active is a REST_SHORT, and no queued one is due. -/
structure State.Calm (s : State) : Prop where
  rest : s.ret.rest.state = .none
  wake : s.rest.wake = none
  queued : ∀ w ∈ s.ret.queue, w.kind = .restShort ∧ s.ret.clock < w.due
  active : ∀ a, s.ret.active = some a → a.kind = .restShort

/-- `t` comes after `s` with the rest clock as it was: the rest record, the wake minute, the clock, the queue, the preheat handed over, the
active warning, and what the panel shows of one. -/
structure State.CalmOn (s t : State) : Prop where
  rest : t.ret.rest = s.ret.rest
  wake : t.rest.wake = s.rest.wake
  clock : t.ret.clock = s.ret.clock
  preheat : t.ret.preheat = s.ret.preheat
  queue : t.ret.queue = s.ret.queue
  active : t.ret.active = s.ret.active
  repeats : t.rest.repeatTimer = s.rest.repeatTimer
  shown : s.ret.active ≠ none →
    t.panel.pattern = s.panel.pattern ∧ t.panel.strike = s.panel.strike ∧ t.panel.display = s.panel.display

section Calm
variable {s t u : State}

theorem State.CalmOn.refl (s : State) : s.CalmOn s := ⟨rfl, rfl, rfl, rfl, rfl, rfl, rfl, fun _ => ⟨rfl, rfl, rfl⟩⟩

theorem State.CalmOn.trans (h : s.CalmOn t) (k : t.CalmOn u) : s.CalmOn u where
  rest := k.rest.trans h.rest
  wake := k.wake.trans h.wake
  clock := k.clock.trans h.clock
  preheat := k.preheat.trans h.preheat
  queue := k.queue.trans h.queue
  active := k.active.trans h.active
  repeats := k.repeats.trans h.repeats
  shown ha := by
    obtain ⟨hpattern, hstrike, hdisplay⟩ := h.shown ha
    obtain ⟨kpattern, kstrike, kdisplay⟩ := k.shown (h.active ▸ ha)
    exact ⟨kpattern.trans hpattern, kstrike.trans hstrike, kdisplay.trans hdisplay⟩

theorem State.Calm.on (hs : s.Calm) (h : s.CalmOn t) : t.Calm where
  rest := by rw [h.rest, hs.rest]
  wake := h.wake.trans hs.wake
  queued := by
    rw [h.queue, h.clock]
    exact hs.queued
  active := by
    rw [h.active]
    exact hs.active

/-- An operation that leaves the retention area, the rest clock and the panel. -/
theorem State.CalmOn.of_frame (h : t.ret = s.ret ∧ t.rest = s.rest ∧ t.panel = s.panel) : s.CalmOn t := by
  obtain ⟨hret, hrest, hpanel⟩ := h
  exact ⟨by rw [hret], by rw [hrest], by rw [hret], by rw [hret], by rw [hret], by rw [hret], by rw [hrest], fun _ => by simp [hpanel]⟩

/-- Then operations of a list that each leave a calm rest clock as it was. -/
theorem State.CalmOn.forEach (h : s.CalmOn t) (hs : s.Calm) (is : List Nat) {f : Nat → State → State}
    (hf : ∀ i (u : State), u.Calm → u.CalmOn (f i u)) : s.CalmOn (t.forEach is f) :=
  List.foldlRecOn (motive := fun u : State => s.CalmOn u) is _ h fun u hu i _ => hu.trans (hf i u (hs.on hu))

theorem refreshIdle_calmOn (s : State) : s.CalmOn (refreshIdle s) := by
  unfold refreshIdle
  split
  next hnone => exact ⟨rfl, rfl, rfl, rfl, rfl, rfl, rfl, fun ha => absurd (Option.isNone_iff_eq_none.mp hnone) ha⟩
  next => exact .refl s

/-- A kind that is not queued. -/
theorem removeKind_of_absent {k : WarnKind} (h : ∀ w ∈ s.ret.queue, w.kind ≠ k) : removeKind k s = s := by
  have hkept : s.ret.queue.filter (fun w => w.kind != k) = s.ret.queue :=
    List.filter_eq_self.mpr fun w hw => by simp [h w hw]
  simp only [removeKind, State.modRet, hkept]

theorem State.Calm.removeKind (hs : s.Calm) {k : WarnKind} (hk : .restShort ≠ k) : removeKind k s = s :=
  removeKind_of_absent fun w hw => (hs.queued w hw).1 ▸ hk

/-- With no wake minute and no PREHEAT queued there is none to form (R175). -/
theorem formPreheat_of_absent (hw : s.rest.wake = none) (h : ∀ w ∈ s.ret.queue, w.kind ≠ .preheat) : formPreheat s = s := by
  simp only [formPreheat, hw]
  exact removeKind_of_absent h

theorem State.Calm.formPreheat (hs : s.Calm) : formPreheat s = s :=
  formPreheat_of_absent hs.wake fun w hw => by simp [(hs.queued w hw).1]

/-- The active warning is of none of some other kinds. -/
theorem State.Calm.endKinds (hs : s.Calm) {ks : List WarnKind} (hk : ks.contains .restShort = false) : endKinds ks s = s := by
  unfold Machine.endKinds
  split
  next a ha => rw [hs.active a ha, hk]; rfl
  next => rfl

theorem State.Calm.restEnd (hs : s.Calm) : restEnd s = refreshIdle s := by
  rw [Machine.restEnd, sweepN_quiet (fun w hw => (hs.queued w hw).2), ite_self]

theorem State.Calm.restEnd_on (hs : s.Calm) : s.CalmOn (Machine.restEnd s) := hs.restEnd ▸ refreshIdle_calmOn s

theorem State.Calm.leaveDrive_on (hs : s.Calm) : s.CalmOn (leaveDrive s) := by
  set t := s.modRest fun r => { r with breakServed := [false, false], driving := false } with ht
  have hon : s.CalmOn t := ⟨rfl, rfl, rfl, rfl, rfl, rfl, rfl, fun _ => ⟨rfl, rfl, rfl⟩⟩
  rw [leaveDrive, hs.removeKind (by decide), ← ht, (hs.on hon).endKinds (by decide)]
  exact hon

theorem judgeStale_calmOn (s : State) : s.CalmOn (judgeStale s) := by
  simp only [judgeStale]
  split
  · exact .refl s
  · exact .trans (t := s.modRest fun r => { r with dataStale := s.restOpen && (s.signal 0).quality != .fresh })
      ⟨rfl, rfl, rfl, rfl, rfl, rfl, rfl, fun _ => ⟨rfl, rfl, rfl⟩⟩ (.of_frame (by simp))

theorem State.Calm.activityLost_on (hs : s.Calm) : s.CalmOn (activityLost s) := by
  simp only [activityLost]
  have hleft : s.CalmOn (if (s.rest.driving && !s.drive) = true then leaveDrive s else s) := by
    split
    · exact hs.leaveDrive_on
    · exact .refl s
  have hjudged := hleft.trans (judgeStale_calmOn _)
  exact hjudged.trans (hs.on hjudged).restEnd_on

theorem State.Calm.preheatNews_on (hs : s.Calm) : s.CalmOn (preheatNews s) := by
  rw [preheatNews, hs.formPreheat]
  exact hs.restEnd_on

theorem heaterRefresh_calmOn (s : State) : s.CalmOn (heaterRefresh s) := .of_frame (by simp)

theorem State.Calm.heaterInputs_on (hs : s.Calm) : s.CalmOn (heaterInputs s) := by
  simp only [heaterInputs]
  refine .trans ?_ (heaterRefresh_calmOn _)
  split
  · exact .refl s
  · have hset : s.CalmOn (s.modHeater fun h => { h with outdoor := s.outdoorNow }) := .of_frame ⟨rfl, rfl, rfl⟩
    exact hset.trans (hs.on hset).preheatNews_on

theorem State.Calm.tellLost_on (hs : s.Calm) (n : Nat) : s.CalmOn (tellLost n s) := by
  have hmark : s.CalmOn (takeMark n s) := .of_frame (by simp)
  have ht := hs.on hmark
  simp only [tellLost]
  refine hmark.trans ?_
  split
  · exact ht.activityLost_on
  · exact ht.restEnd_on
  · exact ht.restEnd_on
  · exact ht.restEnd_on
  · exact ht.heaterInputs_on
  · exact ht.restEnd_on
  · exact ht.heaterInputs_on
  · exact .refl _

theorem State.Calm.turnStale_on (hs : s.Calm) (n : Nat) : s.CalmOn (turnStale n s) := by
  simp only [turnStale]
  split
  · have hset : s.CalmOn (s.modSignal n fun r => { r with quality := .stale }) := .of_frame (by simp)
    exact hset.trans ((hs.on hset).tellLost_on n)
  · exact .refl s

theorem setBaseline_calmOn (n : Nat) (b : Option (List Nat)) (s : State) : s.CalmOn (setBaseline n b s) :=
  ⟨rfl, rfl, rfl, rfl, rfl, rfl, rfl, fun _ => ⟨rfl, rfl, rfl⟩⟩

theorem tellLeft_calmOn (p : Nat) (s : State) : s.CalmOn (tellLeft p s) := by
  simp only [tellLeft]
  split
  · exact .of_frame (by simp)
  · exact .of_frame (by simp)
  · exact setBaseline_calmOn _ _ s
  · exact .of_frame (by simp)
  · exact .refl s

theorem State.Calm.tellStaleMark_on (hs : s.Calm) (p : Nat) : s.CalmOn (tellStaleMark p s) := by
  simp only [tellStaleMark]
  split
  · exact hs.heaterInputs_on
  · exact .of_frame (by simp)
  · have hset := setBaseline_calmOn (s.panelNumber p) none s
    split
    · exact hset.trans (hs.on hset).heaterInputs_on
    · exact hset
  · exact .refl s

theorem State.Calm.loopWake_on (hs : s.Calm) : s.CalmOn (loopWake s) := by
  simp only [loopWake]
  refine .forEach (.forEach (.forEach ?_ hs _ ?_) hs _ ?_) hs _ ?_
  · exact .of_frame ⟨rfl, rfl, rfl⟩
  · exact fun p u _ => tellLeft_calmOn p u
  · exact fun p u hu => hu.tellStaleMark_on p
  · exact fun n u _ => setBaseline_calmOn n none u

/-- A wake finds nothing for the rest clock to do (R201). -/
theorem State.Calm.wake_on (hs : s.Calm) (st : PowerState) : s.CalmOn (Machine.wake st s) := by
  have hpower : s.CalmOn (s.modPower fun p => { p with state := st, quietTimer := some 0 }) := .of_frame ⟨rfl, rfl, rfl⟩
  have hloop := hpower.trans (hs.on hpower).loopWake_on
  have hsignals := hloop.forEach hs (List.range 32) fun n u hu => hu.turnStale_on n
  have hnotice (t : State) : t.CalmOn (noticeDueIfAny (startTransmit t)) := .of_frame (by simp)
  exact hsignals.trans (hnotice _)

end Calm

/-! ### The parts of a minute (R161, R166, R167) -/

/-- The part with its clock risen by a minute (R161). -/
def State.clockRisen (s : State) : State := s.modRet fun r => { r with clock := (r.clock + 1) % 4294967296 }

/-- The part with the minute counted (R166). -/
def State.minuteCounted (s : State) : State := countMinute s.clockRisen

theorem restMinute_eq (s : State) : restMinute s = restEnd (formPreheat (refreshIdle (checkComplete s.minuteCounted))) := rfl

/-- What counting the minute makes of the rest record (R166). -/
theorem minuteCounted_rest (s : State) :
    s.minuteCounted.ret.rest = { s.ret.rest with
      accumulated := if s.restOpen = true ∧ ((s.signal 0).quality == .fresh && s.power.state != .standby) = true then
        sat16 s.ret.rest.accumulated else s.ret.rest.accumulated
      provisional := if s.restOpen = true ∧ ((s.signal 0).quality == .fresh && s.power.state != .standby) = false then
        sat16 s.ret.rest.provisional else s.ret.rest.provisional } := by
  have hopen : s.clockRisen.restOpen = s.restOpen := rfl
  have hsignal : s.clockRisen.signal 0 = s.signal 0 := rfl
  have hpower : s.clockRisen.power.state = s.power.state := rfl
  rw [State.minuteCounted, countMinute, hopen, hsignal, hpower]
  split
  next h =>
    split
    next hfresh => simp [h, hfresh, State.modRestRec, State.clockRisen]
    next hold =>
      have hnot : ((s.signal 0).quality == .fresh && s.power.state != .standby) = false := by simpa using hold
      simp [h, hnot, State.modRestRec, State.clockRisen]
  next h => simp [h, State.clockRisen]

theorem minuteCounted_clock (s : State) : s.minuteCounted.ret.clock = (s.ret.clock + 1) % 4294967296 := by
  simp only [State.minuteCounted, countMinute]
  repeat' split
  all_goals rfl

/-- A RESTING rest that has become COMPLETE, with every lead served (R167). -/
def State.restCompleted (s : State) : State :=
  s.modRestRec fun r => { r with state := .complete, leadsServed := [true, true, true] }

/-- A COMPLETE rest that a higher requirement has made RESTING again (R167). -/
def State.restReopened (s : State) : State :=
  s.modRestRec fun r => { r with state := .resting, leadsServed := [false, false, false] }

theorem checkComplete_of_reached {s : State} (h : s.restRec.state = .resting) (hreq : s.restRec.required ≤ s.restRec.accumulated) :
    (raiseRestState s.restCompleted).MinuteOn (checkComplete s) := by
  simp only [checkComplete, h, hreq, true_and, if_true]
  exact workOutWake_minuteOn (endKinds_minuteOn _ (removeKind_minuteOn _ (enqueue_minuteOn _ (lightRestChanged_minuteOn (.refl _)))))

theorem checkComplete_of_undone {s : State} (h : s.restRec.state = .complete) (hreq : s.restRec.accumulated < s.restRec.required) :
    s.restReopened.MinuteOn (checkComplete s) := by
  simp only [checkComplete, h, hreq, true_and, if_true, reduceCtorEq, false_and, if_false]
  exact lightRestChanged_minuteOn (workOutWake_minuteOn (formLeads_minuteOn (removeKind_minuteOn _ (raiseRestState_minuteOn (.refl _)))))

/-- Elsewhere the check finds nothing to do (R167). -/
theorem checkComplete_of_neither {s : State} (h : s.restRec.state = .resting → s.restRec.accumulated < s.restRec.required)
    (hc : s.restRec.state = .complete → s.restRec.required ≤ s.restRec.accumulated) : checkComplete s = s := by
  rw [checkComplete, if_neg fun hr => Nat.not_le.mpr (h hr.1) hr.2, if_neg fun hr => Nat.not_le.mpr hr.2 (hc hr.1)]

/-- The check leaves the clock and the minutes, whatever it finds. -/
theorem checkComplete_minutes (s : State) :
    (checkComplete s).ret.clock = s.ret.clock ∧ (checkComplete s).ret.rest.accumulated = s.ret.rest.accumulated ∧
      (checkComplete s).ret.rest.provisional = s.ret.rest.provisional := by
  by_cases hreached : s.restRec.state = .resting ∧ s.restRec.required ≤ s.restRec.accumulated
  · have hon := checkComplete_of_reached hreached.1 hreached.2
    have hframe : (raiseRestState s.restCompleted).ret = s.restCompleted.ret := by simp [raiseRestState]
    rw [hon.clock, hon.accumulated, hon.provisional, hframe]
    exact ⟨rfl, rfl, rfl⟩
  · by_cases hundone : s.restRec.state = .complete ∧ s.restRec.accumulated < s.restRec.required
    · have hon := checkComplete_of_undone hundone.1 hundone.2
      exact ⟨hon.clock, hon.accumulated, hon.provisional⟩
    · rw [checkComplete_of_neither (fun h => Nat.not_le.mp fun hreq => hreached ⟨h, hreq⟩)
        (fun h => Nat.not_lt.mp fun hreq => hundone ⟨h, hreq⟩)]
      exact ⟨rfl, rfl, rfl⟩

/-! ### The minute as a whole -/

/-- The blocks' parts of a minute tick, before a wake (R161, R110, R86). -/
def State.minuteWorked (s : State) : State := energyMinute (heaterMinute (restMinute s))

theorem minutePasses_eq (s : State) :
    minutePasses s = if s.power.state = .standby ∧ wakeCalled s s.minuteWorked then wake .quiet s.minuteWorked else s.minuteWorked := rfl

theorem restMinute_minuteOn (s : State) : (checkComplete s.minuteCounted).MinuteOn (restMinute s) :=
  restEnd_minuteOn (formPreheat_minuteOn (refreshIdle_minuteOn (.refl _)))

theorem minutePasses_minuteOn (s : State) : (checkComplete s.minuteCounted).MinuteOn (minutePasses s) := by
  have hworked : (checkComplete s.minuteCounted).MinuteOn s.minuteWorked :=
    energyMinute_minuteOn (heaterMinute_minuteOn (restMinute_minuteOn s))
  rw [minutePasses_eq]
  split
  · exact wake_minuteOn _ hworked
  · exact hworked

theorem heaterMinute_manual (s : State) :
    (heaterMinute s).heater.manual =
      (s.heater.manualCount.map (· + 1), (s.heater.manualCount.map (· + 1)).any fun c => decide (s.climate.runLimit ≤ c)) := by
  simp [heaterMinute]

theorem minutePasses_manual (s : State) :
    (minutePasses s).heater.manual =
      (s.heater.manualCount.map (· + 1), (s.heater.manualCount.map (· + 1)).any fun c => decide (s.climate.runLimit ≤ c)) := by
  have hrest : (restMinute s).heater.manual = s.heater.manual := by simp
  have hclimate : (restMinute s).climate = s.climate := by simp [State.climate]
  have hworked : s.minuteWorked.heater.manual = (heaterMinute (restMinute s)).heater.manual := by simp [State.minuteWorked]
  have hminute : (minutePasses s).heater.manual = s.minuteWorked.heater.manual := by simp [minutePasses_eq]
  obtain ⟨hcount, -⟩ := Prod.mk.inj hrest
  rw [hminute, hworked, heaterMinute_manual, hclimate, hcount]

/-- A current counted alike on the same count and capacity (R83). -/
theorem integrate_count_congr {s t : State} (hc : t.ret.count = s.ret.count) (ht : t.tables = s.tables) (i : Int) :
    (integrate i t).ret.count = (integrate i s).ret.count := by
  obtain ⟨hcharge, hresidue⟩ := Retention.count_eq_iff.mp hc
  simp only [integrate, State.modRet, hcharge, hresidue, State.energySettings_congr ht]
  repeat' split
  all_goals rfl

theorem minutePasses_count (s : State) :
    (minutePasses s).ret.count = if s.power.state = .standby then (integrate (-(s.energySettings.standby : Int) * 750) s).ret.count
      else s.ret.count := by
  have hminute : (minutePasses s).ret.count = s.minuteWorked.ret.count := by simp [minutePasses_eq]
  have htables : (heaterMinute (restMinute s)).tables = s.tables := by simp
  have hpower : (heaterMinute (restMinute s)).power.state = s.power.state := by simp
  have hcount : (heaterMinute (restMinute s)).ret.count = s.ret.count := by simp
  rw [hminute, State.minuteWorked, energyMinute, hpower, State.energySettings_congr htables]
  split
  · exact integrate_count_congr hcount htables _
  · exact hcount

theorem minuteWorked_power (s : State) : s.minuteWorked.power = s.power := by simp [State.minuteWorked]

theorem wake_power (st : PowerState) (s : State) : (wake st s).power = { s.power with state := st, quietTimer := some 0 } := by
  simp [wake]

theorem minutePasses_power_of_awake {s : State} (h : s.power.state ≠ .standby) : (minutePasses s).power = s.power := by
  rw [minutePasses_eq, if_neg fun hs => h hs.1, minuteWorked_power]

/-! ### A minute with no rest open and no wake minute (R171, R179, R201) -/

theorem minuteCounted_of_closed {s : State} (h : s.restOpen = false) : s.minuteCounted = s.clockRisen := by
  have hopen : s.clockRisen.restOpen = false := h
  simp [State.minuteCounted, countMinute, hopen]

theorem State.state_of_closed {s : State} (h : s.restOpen = false) : s.ret.rest.state = .none := by
  simpa [State.restOpen, State.restRec] using h

/-- The rest clock then only makes its sweep (R161). -/
theorem restMinute_of_closed {s : State} (h : s.restOpen = false) (hw : s.rest.wake = none)
    (hq : ∀ w ∈ s.ret.queue, w.kind = .restShort) : restMinute s = restEnd (refreshIdle s.clockRisen) := by
  have hstate : s.clockRisen.restRec.state = .none := State.state_of_closed h
  have hcheck : checkComplete s.clockRisen = s.clockRisen :=
    checkComplete_of_neither (by simp [hstate]) (by simp [hstate])
  have hshown := refreshIdle_calmOn s.clockRisen
  rw [restMinute_eq, minuteCounted_of_closed h, hcheck, formPreheat_of_absent (hshown.wake.trans hw)]
  rw [hshown.queue]
  exact fun w hmem => by simp [hq w hmem]

theorem energyMinute_calmOn (s : State) : s.CalmOn (energyMinute s) := by
  unfold energyMinute
  split
  · have hret := integrate_ret (-(s.energySettings.standby : Int) * 750) s
    exact ⟨by rw [hret], by simp, by rw [hret], by rw [hret], by rw [hret], by rw [hret], by simp, fun _ => by simp⟩
  · exact .refl s

/-- The other blocks' parts of the minute leave the rest clock (R161). -/
theorem minuteWorked_calmOn {a s : State} (h : a.CalmOn (restMinute s)) : a.CalmOn s.minuteWorked :=
  (h.trans (.of_frame (by simp))).trans (energyMinute_calmOn _)

theorem minutePasses_calmOn {a s : State} (ha : a.Calm) (h : a.CalmOn (restMinute s)) : a.CalmOn (minutePasses s) := by
  have hworked := minuteWorked_calmOn h
  rw [minutePasses_eq]
  split
  · exact hworked.trans ((ha.on hworked).wake_on .quiet)
  · exact hworked

/-- A sweep that is not made, or that finds nothing due (R171). -/
theorem restEnd_calmOn {s : State} (h : s.rest.sweeping = false ∨ ∀ w ∈ s.ret.queue, s.ret.clock < w.due) : s.CalmOn (restEnd s) := by
  have hswept : (if s.rest.sweeping then sweepN 32 s else s) = s := by
    rcases h with hnot | hlater
    · simp [hnot]
    · rw [sweepN_quiet hlater, ite_self]
  rw [restEnd, hswept]
  exact refreshIdle_calmOn s

theorem restMinute_calmOn {s : State} (h : s.restOpen = false) (hw : s.rest.wake = none)
    (hq : ∀ w ∈ s.ret.queue, w.kind = .restShort)
    (hswept : s.rest.sweeping = false ∨ ∀ w ∈ s.ret.queue, s.clockRisen.ret.clock < w.due) : s.clockRisen.CalmOn (restMinute s) := by
  have hshown := refreshIdle_calmOn s.clockRisen
  rw [restMinute_of_closed h hw hq]
  refine hshown.trans (restEnd_calmOn ?_)
  have hrest : (refreshIdle s.clockRisen).rest = s.rest := by
    simp
    rfl
  rw [hshown.queue, hshown.clock, hrest]
  exact hswept

/-! ### A REST_SHORT that is due (R171, R179) -/

/-- What an announced REST_SHORT becomes (R179). -/
def Warning.announced (w : Warning) : Active where
  kind := w.kind
  index := w.index
  figure := w.figure
  entryFigure := w.figure
  repeats := 0

/-- The part with the only queued warning, a REST_SHORT, announced. -/
def State.shortAnnounced (s : State) (w : Warning) : State := activate w (s.modRet fun r => { r with queue := [] })

theorem shortAnnounced_ret {s : State} {w : Warning} (hk : w.kind = .restShort) :
    (s.shortAnnounced w).ret = { s.ret with queue := [], active := some w.announced } := by
  simp [State.shortAnnounced, activate, markServed, hk, State.figureFor, Warning.announced]

theorem shortAnnounced_rest {s : State} {w : Warning} (hk : w.kind = .restShort) :
    (s.shortAnnounced w).rest = { s.rest with repeatTimer := some 0, repeatLimit := s.lightSettings.repeatInterval } := by
  simp [State.shortAnnounced, activate, markServed, hk, startRepeat]
  rfl

theorem shortAnnounced_panel {s : State} {w : Warning} (hk : w.kind = .restShort) :
    (s.shortAnnounced w).panel = { s.panel with
      pattern := s.profile.chimes.getD 0 0, strike := (s.panel.strike + 1) % 16, display := displayCode 2 w.figure } := by
  simp [State.shortAnnounced, activate, markServed, hk, strike, State.figureFor, startRepeat, WarnKind.code]
  rfl

theorem shortAnnounced_calm {s : State} {w : Warning} (hk : w.kind = .restShort) (hstate : s.ret.rest.state = .none)
    (hw : s.rest.wake = none) : (s.shortAnnounced w).Calm where
  rest := by rw [shortAnnounced_ret hk]; exact hstate
  wake := by rw [shortAnnounced_rest hk]; exact hw
  queued := by simp [shortAnnounced_ret hk]
  active := by simp [shortAnnounced_ret hk, Warning.announced, hk]

/-- The sweep announces it and finds nothing more (R171). -/
theorem restEnd_of_due {s : State} {w : Warning} (hk : w.kind = .restShort) (hq : s.ret.queue = [w]) (ha : s.ret.active = none)
    (hdue : w.due ≤ s.ret.clock) (hsweeps : s.rest.sweeping = true) : (s.shortAnnounced w).CalmOn (restEnd s) := by
  have hfound : s.ret.queue.find? s.actionable = some w := by simp [hq, State.actionable, hdue, ha]
  have hdealt : dealWith w (s.modRet fun r => { r with queue := r.queue.erase w }) = s.shortAnnounced w := by
    simp [dealWith, hk, displace, ha, hq, State.shortAnnounced, State.modRet]
  have hswept : sweepN 32 s = s.shortAnnounced w := by
    rw [sweepN, hfound]
    dsimp only
    rw [hdealt, sweepN_quiet (by simp [shortAnnounced_ret hk])]
  rw [restEnd, if_pos hsweeps, hswept]
  exact refreshIdle_calmOn _

theorem restMinute_of_due {s : State} {w : Warning} (h : s.restOpen = false) (hwake : s.rest.wake = none) (hk : w.kind = .restShort)
    (hq : s.ret.queue = [w]) (ha : s.ret.active = none) (hdue : w.due ≤ s.clockRisen.ret.clock) (hsweeps : s.rest.sweeping = true) :
    ((refreshIdle s.clockRisen).shortAnnounced w).CalmOn (restMinute s) := by
  have hshown := refreshIdle_calmOn s.clockRisen
  have hrest : (refreshIdle s.clockRisen).rest = s.rest := by
    simp
    rfl
  rw [restMinute_of_closed h hwake (by simp [hq, hk])]
  refine restEnd_of_due hk (hshown.queue.trans hq) (hshown.active.trans ha) ?_ (by rw [hrest, hsweeps])
  rwa [hshown.clock]

/-! ### The wake out of STANDBY (R201) -/

/-- What calls for a wake does not read the clock before. -/
theorem wakeCalled_clockRisen (s t : State) : wakeCalled s t = wakeCalled s.clockRisen t := rfl

theorem wakeCalled_of_empty {s t : State} (h : s.CalmOn t) (ha : s.ret.active = none) (hq : s.ret.queue = []) :
    wakeCalled s t = false := by
  simp [wakeCalled, h.queue, h.active, h.preheat, State.restRec, h.rest, ha, hq]

theorem wakeCalled_of_head {s t : State} {w : Warning} (h : s.CalmOn t) (ha : s.ret.active = none) (hq : s.ret.queue = [w]) :
    wakeCalled s t = decide (w.due ≤ s.ret.clock + 5) := by
  simp [wakeCalled, h.queue, h.clock, h.active, h.preheat, State.restRec, h.rest, ha, hq]

theorem wakeCalled_of_announced {s t : State} {a : Active} (hs : s.ret.active = none) (ht : t.ret.active = some a) :
    wakeCalled s t = true := by
  simp [wakeCalled, hs, ht]

theorem minutePasses_power_of_called {s : State} (h : s.power.state = .standby) (hcalled : wakeCalled s s.minuteWorked = true) :
    (minutePasses s).power = { s.power with state := .quiet, quietTimer := some 0 } := by
  rw [minutePasses_eq, if_pos ⟨h, hcalled⟩, wake_power, minuteWorked_power]

theorem minutePasses_power_of_not_called {s : State} (hcalled : wakeCalled s s.minuteWorked = false) :
    (minutePasses s).power = s.power := by
  rw [minutePasses_eq, if_neg (by simp [hcalled]), minuteWorked_power]

section Closed
variable {s : State} (hopen : s.restOpen = false) (hwake : s.rest.wake = none) (hactive : s.ret.active = none)
include hopen hwake hactive

theorem clockRisen_calm (hq : ∀ w ∈ s.ret.queue, w.kind = .restShort ∧ s.clockRisen.ret.clock < w.due) : s.clockRisen.Calm where
  rest := State.state_of_closed hopen
  wake := hwake
  queued := hq
  active a ha := by
    have hnone : s.ret.active = some a := ha
    simp [hactive] at hnone

/-- A REST_SHORT that is due is announced, and stays so through a wake (R171, R179). -/
theorem minutePasses_of_due {w : Warning} (hk : w.kind = .restShort) (hq : s.ret.queue = [w]) (hdue : w.due ≤ s.clockRisen.ret.clock)
    (hsweeps : s.rest.sweeping = true) : ((refreshIdle s.clockRisen).shortAnnounced w).CalmOn (minutePasses s) := by
  have hshown := refreshIdle_calmOn s.clockRisen
  have hstate : (refreshIdle s.clockRisen).ret.rest.state = .none := by
    rw [hshown.rest]
    exact State.state_of_closed hopen
  exact minutePasses_calmOn (shortAnnounced_calm hk hstate (hshown.wake.trans hwake))
    (restMinute_of_due hopen hwake hk hq hactive hdue hsweeps)

/-- One that is not due stays queued, and so does an empty queue. -/
theorem minutePasses_of_later (hq : ∀ w ∈ s.ret.queue, w.kind = .restShort ∧ s.clockRisen.ret.clock < w.due) :
    s.clockRisen.CalmOn (minutePasses s) :=
  minutePasses_calmOn (clockRisen_calm hopen hwake hactive hq)
    (restMinute_calmOn hopen hwake (fun w hw => (hq w hw).1) (.inr fun w hw => (hq w hw).2))

/-- A queue head that is due within 5 minutes wakes the part, announced or not (R201). -/
theorem minutePasses_wakes {w : Warning} (hk : w.kind = .restShort) (hq : s.ret.queue = [w]) (hstandby : s.power.state = .standby)
    (hdue : w.due ≤ s.clockRisen.ret.clock + 5) : (minutePasses s).power = { s.power with state := .quiet, quietTimer := some 0 } := by
  refine minutePasses_power_of_called hstandby ?_
  by_cases hswept : s.rest.sweeping = false ∨ ∀ v ∈ s.ret.queue, s.clockRisen.ret.clock < v.due
  · have hworked := minuteWorked_calmOn (restMinute_calmOn hopen hwake (by simp [hq, hk]) hswept)
    have hcalled := wakeCalled_of_head hworked hactive hq
    simpa [hdue, wakeCalled_clockRisen s] using hcalled
  · obtain ⟨hsweeps, hnow⟩ := not_or.mp hswept
    have hworked := minuteWorked_calmOn
      (restMinute_of_due hopen hwake hk hq hactive (by simpa [hq] using hnow) (by simpa using hsweeps))
    have hannounced := hworked.active
    rw [shortAnnounced_ret hk] at hannounced
    exact wakeCalled_of_announced hactive hannounced

/-- One that is due later lets it sleep on. -/
theorem minutePasses_sleeps {w : Warning} (hk : w.kind = .restShort) (hq : s.ret.queue = [w])
    (hdue : s.clockRisen.ret.clock + 5 < w.due) : (minutePasses s).power = s.power := by
  refine minutePasses_power_of_not_called ?_
  have hworked := minuteWorked_calmOn (restMinute_calmOn hopen hwake (by simp [hq, hk]) (.inr (by simp [hq]; omega)))
  have hcalled := wakeCalled_of_head hworked hactive hq
  simpa [Nat.not_le.mpr hdue, wakeCalled_clockRisen s] using hcalled

theorem minutePasses_sleeps_of_empty (hq : s.ret.queue = []) : (minutePasses s).power = s.power := by
  have hworked := minuteWorked_calmOn (restMinute_calmOn hopen hwake (by simp [hq]) (.inr (by simp [hq])))
  exact minutePasses_power_of_not_called ((wakeCalled_clockRisen s _).trans (wakeCalled_of_empty hworked hactive hq))

end Closed

end Sys2Proof.Machine
end

section
/-! PROOF. The wake minute, and the statement on MINUTE_TICK (R161, R166, R167, R171, R174, R201; O57). -/

namespace Sys2Proof.Machine

set_option Elab.async false -- one theorem after another: each would otherwise take a thread with its own large stack

/-! ### The wake minute (R174, R177) -/

theorem mem_insertWarning {w x : Warning} {q : List Warning} : x ∈ insertWarning w q ↔ x = w ∨ x ∈ q := by
  induction q with
  | nil => simp [insertWarning]
  | cons y ys ih =>
    unfold insertWarning
    split
    · simp
    · simp only [List.mem_cons, ih]
      exact or_left_comm

theorem length_insertWarning (w : Warning) (q : List Warning) : (insertWarning w q).length = q.length + 1 := by
  induction q with
  | nil => rfl
  | cons y ys ih =>
    unfold insertWarning
    split
    · rfl
    · simp [ih]

theorem enqueue_queue (w : Warning) (s : State) :
    (enqueue w s).ret.queue = (insertWarning w (withoutEntry w.kind w.index s.ret.queue)).take 8 := by
  simp only [enqueue]
  split <;> rfl

theorem mem_of_mem_enqueue {w x : Warning} {s : State} (h : x ∈ (enqueue w s).ret.queue) : x = w ∨ x ∈ s.ret.queue := by
  rw [enqueue_queue] at h
  exact (mem_insertWarning.mp (List.mem_of_mem_take h)).imp_right fun hx => (List.mem_filter.mp hx).1

/-- Below 8 entries nothing loses its place but an entry of the new one's kind and index (R170). -/
theorem mem_enqueue {w x : Warning} {s : State} (hlen : s.ret.queue.length < 8)
    (hx : x = w ∨ x ∈ s.ret.queue ∧ x.kind ≠ w.kind) : x ∈ (enqueue w s).ret.queue := by
  have hshort : (insertWarning w (withoutEntry w.kind w.index s.ret.queue)).length ≤ 8 := by
    have hfilter : (withoutEntry w.kind w.index s.ret.queue).length ≤ s.ret.queue.length := List.length_filter_le _ _
    rw [length_insertWarning]
    omega
  rw [enqueue_queue, List.take_of_length_le hshort, mem_insertWarning]
  refine hx.imp_right fun ⟨hmem, hkind⟩ => List.mem_filter.mpr ⟨hmem, by simp [hkind]⟩

theorem enqueue_length_le (w : Warning) (s : State) : (enqueue w s).ret.queue.length ≤ s.ret.queue.length + 1 := by
  have hfilter : (withoutEntry w.kind w.index s.ret.queue).length ≤ s.ret.queue.length := List.length_filter_le _ _
  rw [enqueue_queue, List.length_take, length_insertWarning]
  omega

theorem removeKind_length_le (k : WarnKind) (s : State) : (removeKind k s).ret.queue.length ≤ s.ret.queue.length :=
  List.length_filter_le _ _

theorem mem_removeKind {k : WarnKind} {x : Warning} {s : State} :
    x ∈ (removeKind k s).ret.queue ↔ x ∈ s.ret.queue ∧ x.kind ≠ k := by
  simp [removeKind]

theorem movePreheat_queue (w : Option Nat) (s : State) : (movePreheat w s).ret.queue = s.ret.queue := by
  simp only [movePreheat]
  repeat' split
  all_goals simp [openWindow, closeWindow]

theorem movePreheat_lastWake (w : Option Nat) (s : State) : (movePreheat w s).ret.lastWake = s.ret.lastWake := by
  simp only [movePreheat]
  repeat' split
  all_goals simp [openWindow, closeWindow]

theorem enqueue_wake (w : Warning) (s : State) : (enqueue w s).rest.wake = s.rest.wake := by
  simp only [enqueue]
  split <;> rfl

theorem formWake_wake (s : State) : (formWake s).rest.wake = s.rest.wake := by
  simp only [formWake]
  repeat' split
  all_goals simp [enqueue_wake]

theorem formPreheat_wake (s : State) : (formPreheat s).rest.wake = s.rest.wake := by
  simp only [formPreheat]
  repeat' split
  all_goals simp [enqueue_wake]

theorem formSunrise_wake (s : State) : (formSunrise s).rest.wake = s.rest.wake := by
  simp only [formSunrise]
  repeat' split
  all_goals simp [enqueue_wake]

/-- The PREHEAT entry formed or removed: no other entry loses its place below 8, and at most one is added. -/
theorem formPreheat_keeps {x : Warning} {s : State} (hlen : s.ret.queue.length < 8) (hk : x.kind ≠ .preheat)
    (hx : x ∈ s.ret.queue) : x ∈ (formPreheat s).ret.queue := by
  simp only [formPreheat]
  repeat' split
  · exact hx
  · exact mem_enqueue hlen (.inr ⟨hx, hk⟩)
  all_goals exact mem_removeKind.mpr ⟨hx, hk⟩

theorem formPreheat_length_le (s : State) : (formPreheat s).ret.queue.length ≤ s.ret.queue.length + 1 := by
  simp only [formPreheat]
  repeat' split
  · exact Nat.le_succ _
  · exact enqueue_length_le _ s
  all_goals exact (removeKind_length_le _ s).trans (Nat.le_succ _)

theorem mem_of_mem_formPreheat {x : Warning} {s : State} (hk : x.kind ≠ .preheat) (hx : x ∈ (formPreheat s).ret.queue) :
    x ∈ s.ret.queue := by
  revert hx
  simp only [formPreheat]
  repeat' split
  · exact id
  · refine fun hx => (mem_of_mem_enqueue hx).resolve_left fun heq => hk ?_
    rw [heq]
  all_goals exact fun hx => (mem_removeKind.mp hx).1

theorem formSunrise_keeps {x : Warning} {s : State} (hlen : s.ret.queue.length < 8) (hk : x.kind ≠ .sunrise)
    (hx : x ∈ s.ret.queue) : x ∈ (formSunrise s).ret.queue := by
  simp only [formSunrise]
  repeat' split
  · exact mem_enqueue hlen (.inr ⟨hx, hk⟩)
  all_goals exact hx

theorem mem_of_mem_formSunrise {x : Warning} {s : State} (hk : x.kind ≠ .sunrise) (hx : x ∈ (formSunrise s).ret.queue) :
    x ∈ s.ret.queue := by
  revert hx
  simp only [formSunrise]
  repeat' split
  · refine fun hx => (mem_of_mem_enqueue hx).resolve_left fun heq => hk ?_
    rw [heq]
  all_goals exact id

/-- The part with its wake minute moved to `wakeNow` and the three entries removed (R174). -/
def State.wakeMoved (s : State) : State :=
  movePreheat s.wakeNow (removeKind .sunrise (removeKind .preheat (removeKind .wake
    (s.modRest fun r => { r with wake := s.wakeNow }))))

theorem workOutWake_of_moved {s : State} (h : s.wakeNow ≠ s.rest.wake) :
    workOutWake s = formSunrise (formPreheat (formWake s.wakeMoved)) := by
  simp only [workOutWake, if_neg h]
  rfl

theorem workOutWake_of_same {s : State} (h : s.wakeNow = s.rest.wake) : workOutWake s = s := by
  simp [workOutWake, h]

theorem wakeMoved_wake (s : State) : s.wakeMoved.rest.wake = s.wakeNow := by
  simp [State.wakeMoved]

theorem wakeMoved_lastWake (s : State) : s.wakeMoved.ret.lastWake = s.ret.lastWake := by
  rw [State.wakeMoved, movePreheat_lastWake]
  rfl

theorem wakeMoved_length_le (s : State) : s.wakeMoved.ret.queue.length ≤ s.ret.queue.length := by
  rw [State.wakeMoved, movePreheat_queue]
  exact ((removeKind_length_le _ _).trans (removeKind_length_le _ _)).trans (removeKind_length_le _ _)

theorem wakeMoved_kind {s : State} {w : Warning} (h : w ∈ s.wakeMoved.ret.queue) : w.kind ≠ .wake := by
  rw [State.wakeMoved, movePreheat_queue, mem_removeKind, mem_removeKind, mem_removeKind] at h
  obtain ⟨⟨⟨-, hk⟩, -⟩, -⟩ := h
  exact hk

/-- A wake minute that has moved has its WAKE entry queued, unless it is the last one served (R174). -/
theorem wake_mem_of_moved {s : State} {m : Nat} (h : s.wakeNow ≠ s.rest.wake) (hm : s.wakeNow = some m)
    (hlast : s.ret.lastWake ≠ some m) (hlen : s.ret.queue.length ≤ 5) :
    { kind := .wake, index := 0, due := m, figure := 0 } ∈ (workOutWake s).ret.queue := by
  have hmoved := wakeMoved_length_le s
  have hformed : formWake s.wakeMoved = enqueue { kind := .wake, index := 0, due := m, figure := 0 } s.wakeMoved := by
    simp only [formWake, wakeMoved_wake, hm, wakeMoved_lastWake, if_neg hlast]
  have hwake := enqueue_length_le { kind := .wake, index := 0, due := m, figure := 0 } s.wakeMoved
  have hpreheat := formPreheat_length_le (formWake s.wakeMoved)
  rw [← hformed] at hwake
  rw [workOutWake_of_moved h]
  refine formSunrise_keeps (by omega) (by simp) (formPreheat_keeps (by omega) (by simp) ?_)
  rw [hformed]
  exact mem_enqueue (by omega) (.inl rfl)

/-- With no wake minute, or the last one served, no WAKE entry is left (R174). -/
theorem no_wake_of_moved {s : State} (h : s.wakeNow ≠ s.rest.wake) (hnone : s.wakeNow = none ∨ s.wakeNow = s.ret.lastWake)
    {w : Warning} (hw : w ∈ (workOutWake s).ret.queue) : w.kind ≠ .wake := by
  intro hk
  have hunformed : formWake s.wakeMoved = s.wakeMoved := by
    cases hm : s.wakeNow with
    | none => simp only [formWake, wakeMoved_wake, hm]
    | some m =>
      have hlast : s.ret.lastWake = some m := (hnone.resolve_left (by simp [hm])).symm.trans hm
      simp only [formWake, wakeMoved_wake, hm, wakeMoved_lastWake, hlast, if_true]
  rw [workOutWake_of_moved h, hunformed] at hw
  have hmem := mem_of_mem_formPreheat (by simp [hk]) (mem_of_mem_formSunrise (by simp [hk]) hw)
  exact wakeMoved_kind hmem hk

theorem workOutWake_wake (s : State) : (workOutWake s).rest.wake = s.wakeNow := by
  by_cases h : s.wakeNow = s.rest.wake
  · rw [workOutWake_of_same h, h]
  · rw [workOutWake_of_moved h, formSunrise_wake, formPreheat_wake, formWake_wake, wakeMoved_wake]

/-! ### MINUTE_TICK -/

theorem exec_minuteTick_of_settled {s : State} (h : s.Settled) : exec .minuteTick s = .next (qualify (minutePasses s)) := by
  have hexec : exec .minuteTick s = .next (external minutePasses s) := rfl
  rw [hexec, external_settled h]

/-- The clock and the minutes are those of the minute counted (R161, R166). -/
theorem minutePasses_minutes (s : State) :
    (minutePasses s).ret.clock = s.minuteCounted.ret.clock ∧
      (minutePasses s).ret.rest.accumulated = s.minuteCounted.ret.rest.accumulated ∧
      (minutePasses s).ret.rest.provisional = s.minuteCounted.ret.rest.provisional := by
  have hon := minutePasses_minuteOn s
  obtain ⟨hclock, hacc, hprov⟩ := checkComplete_minutes s.minuteCounted
  exact ⟨hon.clock.trans hclock, hon.accumulated.trans hacc, hon.provisional.trans hprov⟩

theorem minutePasses_accumulated (s : State) : (minutePasses s).restRec.accumulated = s.minuteCounted.restRec.accumulated :=
  (minutePasses_minutes s).2.1

theorem minuteCounted_state (s : State) : s.minuteCounted.restRec.state = s.restRec.state := by
  rw [State.restRec, minuteCounted_rest]
  rfl

theorem minuteCounted_required (s : State) : s.minuteCounted.restRec.required = s.restRec.required := by
  rw [State.restRec, minuteCounted_rest]
  rfl

/-- A RESTING rest whose minutes do not reach the requirement goes on (R167). -/
theorem minutePasses_resting {s : State} (h : s.restRec.state = .resting)
    (hreq : (minutePasses s).restRec.accumulated < s.restRec.required) : (minutePasses s).restRec.state = .resting := by
  have hon := minutePasses_minuteOn s
  have hcounted : s.minuteCounted.restRec.state = .resting := (minuteCounted_state s).trans h
  have hshort : s.minuteCounted.restRec.accumulated < s.minuteCounted.restRec.required := by
    rwa [minuteCounted_required, ← minutePasses_accumulated]
  rw [checkComplete_of_neither (fun _ => hshort) (by simp [hcounted])] at hon
  exact hon.state.trans hcounted

/-- One whose minutes reach it is COMPLETE (R167). -/
theorem minutePasses_complete {s : State} (h : s.restRec.state = .resting)
    (hreq : s.restRec.required ≤ (minutePasses s).restRec.accumulated) :
    (minutePasses s).restRec.state = .complete ∧ (minutePasses s).restRec.leadsServed = [true, true, true] ∧
      (minutePasses s).notices.flags.getLsbD 8 = true := by
  have hon := minutePasses_minuteOn s
  have hreached : s.minuteCounted.restRec.required ≤ s.minuteCounted.restRec.accumulated := by
    rwa [minuteCounted_required, ← minutePasses_accumulated]
  have hdone := checkComplete_of_reached ((minuteCounted_state s).trans h) hreached
  have hrec : (raiseRestState s.minuteCounted.restCompleted).ret = s.minuteCounted.restCompleted.ret := by simp [raiseRestState]
  refine ⟨(hon.state.trans hdone.state).trans (by rw [hrec]; rfl), hon.leads (hdone.leads (by rw [hrec]; rfl)), ?_⟩
  exact hon.flags 8 (hdone.flags 8 (raise_flag_self .restState _ _))

/-- What an announced REST_SHORT shows, read through a minute (R179). -/
theorem announced_of_due {s : State} {w : Warning} (hopen : s.restOpen = false) (hwake : s.rest.wake = none)
    (hactive : s.ret.active = none) (hk : w.kind = .restShort) (hq : s.ret.queue = [w]) (hdue : w.due ≤ s.clockRisen.ret.clock)
    (hsweeps : s.rest.sweeping = true) :
    (minutePasses s).ret.queue = [] ∧ (minutePasses s).ret.active = some w.announced ∧
      (minutePasses s).rest.repeatTimer = some 0 ∧ (minutePasses s).panel.pattern = s.profile.chimes.getD 0 0 ∧
      (minutePasses s).panel.strike = (s.panel.strike + 1) % 16 ∧ (minutePasses s).panel.display = displayCode 2 w.figure := by
  have hon := minutePasses_of_due hopen hwake hactive hk hq hdue hsweeps
  have hshown := hon.shown (by simp [shortAnnounced_ret hk])
  have hprofile : (refreshIdle s.clockRisen).profile = s.profile := by
    simp [State.profile]
    rfl
  have hstrike : (refreshIdle s.clockRisen).panel.strike = s.panel.strike := by
    unfold refreshIdle
    split <;> rfl
  obtain ⟨hpattern, hstrikes, hdisplay⟩ := hshown
  rw [shortAnnounced_panel hk] at hpattern hstrikes hdisplay
  refine ⟨hon.queue.trans ?_, hon.active.trans ?_, hon.repeats.trans ?_, hpattern.trans ?_, hstrikes.trans ?_, hdisplay⟩
  · simp [shortAnnounced_ret hk]
  · simp [shortAnnounced_ret hk]
  · simp [shortAnnounced_rest hk]
  · simp [hprofile]
  · simp [hstrike]

/-- Settles O57: the clock and the rest record are those of the minute counted and checked, and a rest clock that is calm stays so. -/
theorem minuteTickCounts : Obligations.MinuteTickCounts := by
  refine ⟨fun s h => ?_, fun s => ?_⟩
  · have hqualify : (qualify (minutePasses s)).ret = (minutePasses s).ret ∧ (qualify (minutePasses s)).rest = (minutePasses s).rest ∧
        (qualify (minutePasses s)).panel = (minutePasses s).panel ∧ (qualify (minutePasses s)).heater = (minutePasses s).heater ∧
        (qualify (minutePasses s)).notices = (minutePasses s).notices := by simp
    obtain ⟨hret, hrest, hpanel, hheater, hnotices⟩ := hqualify
    have hrec : (qualify (minutePasses s)).restRec = (minutePasses s).restRec := by rw [State.restRec, hret]; rfl
    have hstate : (qualify (minutePasses s)).power.state = (minutePasses s).power.state := by simp
    have htimer : (qualify (minutePasses s)).power.quietTimer = (minutePasses s).power.quietTimer := by simp
    obtain ⟨hclock, hacc, hprov⟩ := minutePasses_minutes s
    obtain ⟨hmanual, hdue⟩ := Prod.mk.inj (minutePasses_manual s)
    refine ⟨_, exec_minuteTick_of_settled h, ?_⟩
    rw [hret, hrest, hpanel, hheater, hnotices, hrec, hstate, htimer, hclock, hacc, hprov, minuteCounted_rest, minuteCounted_clock]
    have hcount := minutePasses_count s
    rw [← apply_ite (f := fun t : State => t.ret.count)] at hcount
    obtain ⟨hcharge, hresidue⟩ := Retention.count_eq_iff.mp hcount
    refine ⟨rfl, rfl, rfl, by simp, by simp, by simp, by simp, ?_, ?_, hmanual, fun n hn => ?_, minutePasses_resting,
      minutePasses_complete, fun hopen hwake hactive => ⟨fun w hq hk => ⟨fun hnow hsweeps => ?_, fun hlater => ?_,
        fun hstandby hsoon => ?_, fun hstandby hlater => ?_⟩, fun hq hstandby => ?_⟩, fun hawake => ?_⟩
    · rw [hcharge]
      split <;> rfl
    · rw [hresidue]
      split <;> rfl
    · rw [hdue, hn]
      rfl
    · exact announced_of_due hopen hwake hactive hk hq hnow hsweeps
    · have hon := minutePasses_of_later hopen hwake hactive (by simp [hq, hk]; exact hlater)
      exact ⟨hon.queue.trans hq, hon.active.trans hactive⟩
    · rw [minutePasses_wakes hopen hwake hactive hk hq hstandby hsoon]
      exact ⟨rfl, rfl⟩
    · rw [minutePasses_sleeps hopen hwake hactive hk hq hlater, hstandby]
    · rw [minutePasses_sleeps_of_empty hopen hwake hactive hq, hstandby]
    · rw [minutePasses_power_of_awake hawake]
  · refine ⟨workOutWake_wake s, fun a ha => ?_, fun ha hrest hprofile => ?_, fun ha hnone => ?_, workOutWake_of_same,
      fun h => ⟨fun m => wake_mem_of_moved h, fun hnone w => no_wake_of_moved h hnone⟩⟩
    · simp [State.wakeNow, ha]
    · simp [State.wakeNow, ha, hrest, hprofile, State.restRemaining]
    · simp only [State.wakeNow, ha]
      exact if_neg fun hboth => hnone.elim (fun hne => hne hboth.1) fun hoff => by simp [hoff] at hboth

end Sys2Proof.Machine
end

section
/-! PROOF. The ranks, and the decisions of NORMAL and LOW (R95, R98, R99; O50). -/

namespace Sys2Proof.Machine

set_option Elab.async false -- one theorem after another: each would otherwise take a thread with its own large stack

/-! ### The ranks (R95, R98) -/

theorem outranks_iff {s : State} {i j : Nat} :
    s.outranks i j = true ↔ s.priority j < s.priority i ∨ s.priority j = s.priority i ∧ i < j := by
  simp [State.outranks]

theorem outranks_trans {s : State} {i j k : Nat} (h : s.outranks i j = true) (k' : s.outranks j k = true) : s.outranks i k = true := by
  rw [outranks_iff] at *
  omega

/-- Of two entries one outranks the other. -/
theorem outranks_of_not {s : State} {i j : Nat} (hne : i ≠ j) (h : ¬ s.outranks i j = true) : s.outranks j i = true := by
  rw [outranks_iff] at *
  omega

theorem highest_isSome {s : State} {is : List Nat} (h : is ≠ []) : (s.highest is).isSome = true := by
  cases is with
  | nil => exact absurd rfl h
  | cons i is =>
    unfold State.highest
    repeat' split
    all_goals rfl

theorem lowest_isSome {s : State} {is : List Nat} (h : is ≠ []) : (s.lowest is).isSome = true := by
  cases is with
  | nil => exact absurd rfl h
  | cons i is =>
    unfold State.lowest
    repeat' split
    all_goals rfl

/-- Only the empty set has no entry of highest rank. -/
theorem eq_nil_of_highest_none {s : State} {is : List Nat} (h : s.highest is = none) : is = [] := by
  by_contra hne
  have hsome := highest_isSome (s := s) hne
  simp [h] at hsome

theorem eq_nil_of_lowest_none {s : State} {is : List Nat} (h : s.lowest is = none) : is = [] := by
  by_contra hne
  have hsome := lowest_isSome (s := s) hne
  simp [h] at hsome

theorem highest_mem {s : State} {is : List Nat} {i : Nat} (h : s.highest is = some i) : i ∈ is := by
  induction is with
  | nil => simp [State.highest] at h
  | cons k ks ih =>
    unfold State.highest at h
    split at h
    next m hm =>
      split at h
      · cases h
        exact List.mem_cons_self
      · cases h
        exact List.mem_cons_of_mem k (ih hm)
    next =>
      cases h
      exact List.mem_cons_self

/-- The entry of highest rank is of the set and outranks the others. -/
theorem highest_spec {s : State} {is : List Nat} (hnd : is.Nodup) {i : Nat} (h : s.highest is = some i) :
    i ∈ is ∧ ∀ j ∈ is, j ≠ i → s.outranks i j = true := by
  induction is generalizing i with
  | nil => simp [State.highest] at h
  | cons k ks ih =>
    obtain ⟨hnot, hks⟩ := List.nodup_cons.mp hnd
    unfold State.highest at h
    split at h
    next m hm =>
      obtain ⟨hmem, hall⟩ := ih hks hm
      have hkm : k ≠ m := fun heq => hnot (heq ▸ hmem)
      split at h
      next hout =>
        cases h
        refine ⟨List.mem_cons_self, fun j hj hne => ?_⟩
        rcases List.mem_cons.mp hj with rfl | hjs
        · exact absurd rfl hne
        · by_cases hjm : j = m
          · exact hjm ▸ hout
          · exact outranks_trans hout (hall j hjs hjm)
      next hout =>
        cases h
        refine ⟨List.mem_cons_of_mem k hmem, fun j hj hne => ?_⟩
        rcases List.mem_cons.mp hj with rfl | hjs
        · exact outranks_of_not hkm hout
        · exact hall j hjs hne
    next hnone =>
      cases h
      simp [eq_nil_of_highest_none hnone]

/-- The entry of lowest rank is of the set and outranked by the others. -/
theorem lowest_spec {s : State} {is : List Nat} (hnd : is.Nodup) {i : Nat} (h : s.lowest is = some i) :
    i ∈ is ∧ ∀ j ∈ is, j ≠ i → s.outranks j i = true := by
  induction is generalizing i with
  | nil => simp [State.lowest] at h
  | cons k ks ih =>
    obtain ⟨hnot, hks⟩ := List.nodup_cons.mp hnd
    unfold State.lowest at h
    split at h
    next m hm =>
      obtain ⟨hmem, hall⟩ := ih hks hm
      have hkm : k ≠ m := fun heq => hnot (heq ▸ hmem)
      split at h
      next hout =>
        cases h
        refine ⟨List.mem_cons_of_mem k hmem, fun j hj hne => ?_⟩
        rcases List.mem_cons.mp hj with rfl | hjs
        · exact hout
        · exact hall j hjs hne
      next hout =>
        cases h
        refine ⟨List.mem_cons_self, fun j hj hne => ?_⟩
        rcases List.mem_cons.mp hj with rfl | hjs
        · exact absurd rfl hne
        · have hmk := outranks_of_not hkm hout
          by_cases hjm : j = m
          · exact hjm ▸ hmk
          · exact outranks_trans (hall j hjs hjm) hmk
    next hnone =>
      cases h
      simp [eq_nil_of_lowest_none hnone]

theorem ranks_decide (s : State) {is : List Nat} (hnd : is.Nodup) :
    (∀ i, s.lowest is = some i → i ∈ is ∧ ∀ j ∈ is, j ≠ i → s.outranks j i = true) ∧
      (∀ i, s.highest is = some i → i ∈ is ∧ ∀ j ∈ is, j ≠ i → s.outranks i j = true) ∧
      (is ≠ [] → (s.lowest is).isSome = true ∧ (s.highest is).isSome = true) :=
  ⟨fun _ => lowest_spec hnd, fun _ => highest_spec hnd, fun h => ⟨lowest_isSome h, highest_isSome h⟩⟩

/-! ### The decisions of NORMAL and LOW (R98, R99) -/

theorem State.inGrant_congr {s t : State} (hr : t.roster = s.roster) (ht : t.tables = s.tables) (g : Grant) :
    t.inGrant g = s.inGrant g := by
  simp only [State.inGrant, State.validEntries_congr ht, State.live_congr hr]

theorem State.outranks_congr {s t : State} {i j : Nat} (hi : (t.live i).work = (s.live i).work) (hj : (t.live j).work = (s.live j).work) :
    t.outranks i j = s.outranks i j := by
  have hp : t.priority i = s.priority i := by rw [State.priority, State.priority, hi]
  have hq : t.priority j = s.priority j := by rw [State.priority, State.priority, hj]
  rw [State.outranks, State.outranks, hp, hq]

theorem State.highest_congr {s t : State} {is : List Nat} (h : ∀ i ∈ is, (t.live i).work = (s.live i).work) :
    t.highest is = s.highest is := by
  induction is with
  | nil => rfl
  | cons k ks ih =>
    have hks := ih fun i hi => h i (List.mem_cons_of_mem k hi)
    unfold State.highest
    rw [hks]
    split
    next m hm =>
      rw [State.outranks_congr (h k List.mem_cons_self) (h m (List.mem_cons_of_mem k (highest_mem hm)))]
    next => rfl

theorem shedStep_of_eligible {s : State} {i : Nat} (h : s.lowest s.eligible = some i) (d p : Nat) :
    shedStep d p s = budgetShed i s := by
  simp only [shedStep, h]

theorem shedStep_of_none {s : State} (h : s.eligible = []) (d p : Nat) :
    shedStep d p s = raise .budgetExceeded (le 2 d ++ le 2 p) s := by
  simp only [shedStep, h, State.lowest]

/-- The grant of LOW: the highest protected WAITING entry (R99). -/
def lowGrant (s : State) : State :=
  match s.highest ((s.inGrant .waiting).filter fun i => (s.live i).protect) with
  | some i => grant i s
  | none => s

theorem lowGrant_of_highest {s : State} {i : Nat} (h : s.highest ((s.inGrant .waiting).filter fun i => (s.live i).protect) = some i) :
    lowGrant s = grant i s := by
  simp only [lowGrant, h]

theorem lowGrant_of_none {s : State} (h : (s.inGrant .waiting).filter (fun i => (s.live i).protect) = []) : lowGrant s = s := by
  simp only [lowGrant, h, State.highest]

theorem decideLow_of_eligible {s : State} {d p : Nat} (hd : p < d) (h : s.eligible ≠ []) : decideLow d p s = shedStep d p s :=
  if_pos ⟨hd, h⟩

theorem decideLow_of_exceeded {s : State} {d p : Nat} (hd : p < d) (h : s.eligible = []) :
    decideLow d p s = lowGrant (shedStep d p s) := by
  rw [decideLow, if_neg fun hn => hn.2 h, if_pos hd]
  rfl

theorem decideLow_of_within {s : State} {d p : Nat} (hd : d ≤ p) : decideLow d p s = lowGrant s := by
  rw [decideLow, if_neg fun hn => Nat.not_lt.mpr hd hn.1, if_neg (Nat.not_lt.mpr hd)]
  rfl

/-- A notice raised leaves the ranks and who waits (R198). -/
theorem raise_guarded (c : NoticeClass) (b : List Byte) (s : State) :
    (raise c b s).highest (((raise c b s).inGrant .waiting).filter fun i => ((raise c b s).live i).protect) =
      s.highest ((s.inGrant .waiting).filter fun i => (s.live i).protect) := by
  have hroster : (raise c b s).roster = s.roster := by simp
  have hlive := State.live_congr hroster
  simp only [State.inGrant_congr hroster (show (raise c b s).tables = s.tables by simp), hlive]
  exact State.highest_congr fun i _ => by rw [hlive i]

theorem decideNormal_of_exceeded {s : State} {d p : Nat} (hd : p < d) : decideNormal d p s = shedStep d p s := if_pos hd

theorem decideNormal_of_grant {s : State} {d p i : Nat} (hd : d ≤ p) (h : s.highest (s.inGrant .waiting) = some i)
    (htest : s.testDraw i ≤ p) : decideNormal d p s = grant i s := by
  simp only [decideNormal, Nat.not_lt.mpr hd, if_false, h, htest, if_true]

/-- Where no grant passes its test, the restore is tried (R98). -/
theorem decideNormal_of_restore {s : State} {d p : Nat} (hd : d ≤ p)
    (h : ∀ i, s.highest (s.inGrant .waiting) = some i → p < s.testDraw i) : decideNormal d p s = restoreStep p s := by
  rw [decideNormal, if_neg (Nat.not_lt.mpr hd)]
  split
  next i hi => exact if_neg (Nat.not_le.mpr (h i hi))
  next => rfl

theorem restoreStep_of_passed {s : State} {p j : Nat} (h : s.highest (s.inGrant .shed) = some j)
    (hrank : ∀ i ∈ s.inGrant .waiting, s.outranks j i = true) (htest : s.testDraw j + s.energySettings.margin ≤ p) :
    restoreStep p s = restore j s := by
  simp only [restoreStep, h]
  exact if_pos ⟨List.all_eq_true.mpr hrank, htest⟩

theorem restoreStep_of_failed {s : State} {p : Nat}
    (h : ∀ j, s.highest (s.inGrant .shed) = some j →
      (∃ i ∈ s.inGrant .waiting, s.outranks j i = false) ∨ p < s.testDraw j + s.energySettings.margin) : restoreStep p s = s := by
  unfold restoreStep
  split
  next j hj =>
    refine if_neg fun hpassed => ?_
    rcases h j hj with ⟨i, hi, hnot⟩ | htest
    · simpa [hnot] using List.all_eq_true.mp hpassed.1 i hi
    · exact Nat.not_le.mpr htest hpassed.2
  next => rfl

theorem normal_and_low_decide (s : State) (d p : Nat) :
    let waiting := s.inGrant .waiting
    let shed := s.inGrant .shed
    let guarded := waiting.filter fun i => (s.live i).protect
    let told := raise .budgetExceeded (le 2 d ++ le 2 p) s
    (∀ i, p < d → s.lowest s.eligible = some i →
      decideTick .normal d p s = budgetShed i s ∧ decideTick .low d p s = budgetShed i s) ∧
    (p < d → s.eligible = [] →
      decideTick .normal d p s = told ∧
      (∀ i, s.highest guarded = some i → decideTick .low d p s = grant i told) ∧
      (guarded = [] → decideTick .low d p s = told)) ∧
    (d ≤ p →
      (∀ i, s.highest guarded = some i → decideTick .low d p s = grant i s) ∧ (guarded = [] → decideTick .low d p s = s)) ∧
    (∀ i, d ≤ p → s.highest waiting = some i → s.testDraw i ≤ p → decideTick .normal d p s = grant i s) ∧
    (d ≤ p → (∀ i, s.highest waiting = some i → p < s.testDraw i) →
      (∀ j, s.highest shed = some j → (∀ i ∈ waiting, s.outranks j i = true) → s.testDraw j + s.energySettings.margin ≤ p →
        decideTick .normal d p s = restore j s) ∧
      ((∀ j, s.highest shed = some j → (∃ i ∈ waiting, s.outranks j i = false) ∨ p < s.testDraw j + s.energySettings.margin) →
        decideTick .normal d p s = s)) := by
  refine ⟨fun i hd hi => ⟨?_, ?_⟩, fun hd hnone => ⟨?_, fun i hi => ?_, fun hg => ?_⟩, fun hd => ⟨fun i hi => ?_, fun hg => ?_⟩,
    fun i => decideNormal_of_grant, fun hd hw => ⟨fun j hj hrank htest => ?_, fun hnot => ?_⟩⟩
  · exact (decideNormal_of_exceeded hd).trans (shedStep_of_eligible hi d p)
  · exact (decideLow_of_eligible hd fun hnone => by simp [hnone, State.lowest] at hi).trans (shedStep_of_eligible hi d p)
  · exact (decideNormal_of_exceeded hd).trans (shedStep_of_none hnone d p)
  · refine (decideLow_of_exceeded hd hnone).trans ?_
    rw [shedStep_of_none hnone]
    exact lowGrant_of_highest ((raise_guarded _ _ s).trans hi)
  · refine (decideLow_of_exceeded hd hnone).trans ?_
    rw [shedStep_of_none hnone]
    refine lowGrant_of_none (eq_nil_of_highest_none (s := raise .budgetExceeded (le 2 d ++ le 2 p) s) ?_)
    rw [raise_guarded, hg]
    rfl
  · exact (decideLow_of_within hd).trans (lowGrant_of_highest hi)
  · exact (decideLow_of_within hd).trans (lowGrant_of_none hg)
  · exact (decideNormal_of_restore hd hw).trans (restoreStep_of_passed hj hrank htest)
  · exact (decideNormal_of_restore hd hw).trans (restoreStep_of_failed hnot)

end Sys2Proof.Machine
end

section
/-! PROOF. The heater's answers to a grant and to a budget shed (R66, R72 to R76, R118, R123; O50). -/

namespace Sys2Proof.Machine

set_option Elab.async false -- one theorem after another: each would otherwise take a thread with its own large stack

/-! ### The live parts while the slot is handed on (R72 to R76, R117) -/

/-- A live part without its duty estimate. -/
def Live.kept (l : Live) : Live := { l with duty := 0 }

theorem Live.kept_eq {l m : Live} (h : l.kept = m.kept) :
    l.grant = m.grant ∧ l.want = m.want ∧ l.protect = m.protect ∧ l.reason = m.reason ∧ l.work = m.work := by
  simpa [Live.kept] using h

/-- `t` is `s` after the slot has been asked for, given up or handed on: of the live parts only the heater's duty estimate has moved. -/
structure State.SlotMoves (s t : State) : Prop where
  tables : t.tables = s.tables
  kept : ∀ j, (t.live j).kept = (s.live j).kept
  live : ∀ j, s.entryOfKind .heater ≠ some j → t.live j = s.live j

namespace State.SlotMoves
variable {s t u : State}

theorem refl (s : State) : s.SlotMoves s := ⟨rfl, fun _ => rfl, fun _ _ => rfl⟩

theorem trans (h : s.SlotMoves t) (k : t.SlotMoves u) : s.SlotMoves u where
  tables := k.tables.trans h.tables
  kept j := (k.kept j).trans (h.kept j)
  live j hj := (k.live j (State.entryOfKind_congr h.tables .heater ▸ hj)).trans (h.live j hj)

theorem of_live (ht : t.tables = s.tables) (hl : t.roster.live = s.roster.live) : s.SlotMoves t := by
  have hlive (j : Nat) : t.live j = s.live j := by rw [State.live, State.live, hl]
  exact ⟨ht, fun j => by rw [hlive], fun j _ => hlive j⟩

end State.SlotMoves

theorem setDuty_kept (i d j : Nat) (s : State) : ((setDuty i d s).live j).kept = (s.live j).kept := by
  rw [setDuty, State.live_modLive]
  split <;> rfl

theorem heaterDuty_slotMoves (s : State) : s.SlotMoves (heaterDuty s) := by
  simp only [heaterDuty, onEntry]
  split
  · split
    next i hi =>
      refine ⟨by simp, fun j => setDuty_kept i _ j s, fun j hj => State.live_modLive_ne (fun hij => hj ?_) _⟩
      rw [hi, hij]
    next => exact .refl s
  · exact .refl s

theorem enterStarting_slotMoves (s : State) : s.SlotMoves (enterStarting s) := by
  unfold enterStarting
  refine .trans ?_ (heaterDuty_slotMoves _)
  exact .of_live rfl rfl

theorem handOver_slotMoves (n : Nat) (s : State) : s.SlotMoves (handOver n s) := by
  induction n generalizing s with
  | zero => exact .of_live rfl rfl
  | succ n ih =>
    rw [handOver]
    split
    · exact .of_live rfl rfl
    next p rest _ =>
      have htaken : s.SlotMoves (s.headTaken p rest) := .of_live rfl rfl
      dsimp only
      split
      · split
        · exact htaken.trans (enterStarting_slotMoves _)
        · exact htaken.trans (ih _)
      · split
        · exact htaken.trans (.of_live rfl rfl)
        · exact htaken.trans (ih _)
      · exact htaken.trans (ih _)

theorem giveUpPlace_slotMoves (i : Nat) (s : State) : s.SlotMoves (giveUpPlace i s) := by
  unfold giveUpPlace
  split
  · exact handOver_slotMoves _ s
  · exact .of_live rfl rfl

theorem askSlot_slotMoves (i : Nat) (s : State) : s.SlotMoves (askSlot i s) := by
  unfold askSlot
  split
  · exact .refl s
  · have hasked : s.SlotMoves (s.modRoster fun r =>
        { r with queue := s.insertPlace { entry := i, asked := r.asks } r.queue, asks := r.asks + 1 }) := .of_live rfl rfl
    dsimp only
    split
    · exact hasked.trans (handOver_slotMoves _ _)
    · exact hasked

theorem onEntry_slotMoves {k : LoadKind} {f : Nat → State → State} (h : ∀ i (t : State), t.SlotMoves (f i t)) (s : State) :
    s.SlotMoves (onEntry k f s) := by
  unfold onEntry
  split
  · exact h _ s
  · exact .refl s

/-! ### What an owner does to its entry, in its live part (R61 to R63) -/

theorem stopComplete_live_ne {i j : Nat} (h : i ≠ j) (s : State) : (stopComplete i s).live j = s.live j := State.live_modLive_ne h _

/-- A request of an entry in ON only says that it is wanted (R61). -/
theorem request_live_of_on {i : Nat} {s : State} (h : (s.live i).grant = .on) : (request i s).live i = { s.live i with want := true } := by
  rw [request, State.live_modLive_self (by simp [h])]
  simp [h]

/-- A stop complete of an entry in ON says nothing (R63). -/
theorem stopComplete_of_on {i : Nat} {s : State} (h : (s.live i).grant = .on) (j : Nat) : (stopComplete i s).live j = s.live j := by
  rw [stopComplete, State.live_modLive]
  split
  next hij =>
    obtain ⟨rfl, -⟩ := hij
    simp [h]
  next => rfl

/-- One of an entry in SHEDDING that is wanted ends in SHED (R63). -/
theorem stopComplete_of_shedding {i : Nat} {s : State} (h : (s.live i).grant = .shedding) (hw : (s.live i).want = true) :
    (stopComplete i s).live i = { s.live i with grant := .shed } := by
  rw [stopComplete, State.live_modLive_self (by simp [h])]
  simp [h, hw]

/-! ### Demand that is as its sources have it (R113 to R115) -/

theorem heaterMarks_inputs (s : State) : (heaterMarks s).heater = { s.heater with
    thermo := (heaterMarks s).heater.thermo, preheat := (heaterMarks s).heater.preheat } := rfl

/-- Demand stays as its sources have it where its inputs stay. -/
theorem State.DemandIs.congr {s t : State} {d : Bool} (h : s.DemandIs d) (hi : t.heater.inputs = s.heater.inputs)
    (hn : t.nodes = s.nodes) (hs : t.signals = s.signals) (ht : t.tables = s.tables) : t.DemandIs d := by
  have hmode : t.heater.mode = s.heater.mode := congrArg Heater.Inputs.mode hi
  have hset : t.heater.setPoint = s.heater.setPoint := congrArg Heater.Inputs.setPoint hi
  have hwindow : t.heater.window = s.heater.window := congrArg Heater.Inputs.window hi
  have hthermo : t.heater.thermo = s.heater.thermo := congrArg Heater.Inputs.thermo hi
  have hpreheat : t.heater.preheat = s.heater.preheat := congrArg Heater.Inputs.preheat hi
  have hdemand : t.heater.demand = s.heater.demand := congrArg Heater.Inputs.demand hi
  have hcab : t.cabReading = s.cabReading := State.cabReading_congr hn ht hs
  have hmarks : (heaterMarks t).heater.thermo = (heaterMarks s).heater.thermo ∧
      (heaterMarks t).heater.preheat = (heaterMarks s).heater.preheat := by
    simp only [heaterMarks, State.modHeater_heater, hmode, hset, hwindow, hthermo, hpreheat, hcab, State.climate_congr ht, and_self]
  refine ⟨hdemand.trans h.held, ?_, ?_⟩
  · rw [← h.sources, State.demandNow, State.demandNow, hthermo, hpreheat, hmode]
  · rw [heaterMarks_inputs, hmarks.1, hmarks.2, h.marks, ← hthermo, ← hpreheat]

theorem State.DemandIs.heaterMarks_eq {s : State} {d : Bool} (h : s.DemandIs d) : heaterMarks s = s := by
  have hset : heaterMarks s = { s with heater := (heaterMarks s).heater } := rfl
  rw [hset, h.marks]

/-- A refresh then finds demand as it was, and goes on to the level, the tests and the duty (R115). -/
theorem heaterRefresh_of_demandIs {s : State} {d : Bool} (h : s.DemandIs d) :
    heaterRefresh s = heaterDuty (heaterTests (takeLevel s)) := by
  have hset : (s.modHeater fun x => { x with demand := s.demandNow }) = s := by
    rw [h.sources, ← h.held]
    rfl
  have hended : (s.heater.demand && !s.demandNow) = false := by simp [h.held, h.sources]
  simp only [heaterRefresh, h.heaterMarks_eq, hset, hended, Bool.false_eq_true, if_false]

theorem takeLevel_of_stopped {s : State} (h : s.heaterRun = false) : takeLevel s = s := by
  unfold takeLevel
  split
  · exact if_neg fun hn => by simp [h] at hn
  · rfl

theorem heaterRun_false {s : State} (h : s.heater.state ≠ .starting) (h' : s.heater.state ≠ .running) : s.heaterRun = false := by
  simp [State.heaterRun, h, h']

theorem State.modHeater_live (s : State) (f : Heater → Heater) (j : Nat) : (s.modHeater f).live j = s.live j := rfl

theorem State.modFridge_live (s : State) (f : Fridge → Fridge) (j : Nat) : (s.modFridge f).live j = s.live j := rfl

/-! ### The heater's tests while its entry is ON and demand stands (R118, R120, R122) -/

section On
variable {s : State} {i : Nat}

theorem grantOfKind_eq {k : LoadKind} (he : s.entryOfKind k = some i) : s.grantOfKind k = some (s.live i).grant := by
  simp [State.grantOfKind, he]

theorem onEntry_eq {k : LoadKind} (he : s.entryOfKind k = some i) (f : Nat → State → State) : onEntry k f s = f i s := by
  simp only [onEntry, he]

/-- The end of STOPPING with the entry in ON says nothing about it (R122). -/
theorem endStopping_of_on (he : s.entryOfKind .heater = some i) (hon : (s.live i).grant = .on) :
    endStopping s = s.modHeater fun h => { h with purge := none, state := .off } := by
  have hgrant : (s.modHeater fun h => { h with purge := none }).grantOfKind .heater = some .on := by
    rw [grantOfKind_eq (s := s.modHeater fun h => { h with purge := none }) he]
    exact congrArg some hon
  simp only [endStopping, hgrant]
  rfl

theorem heaterAtIdle_live_of_on (he : s.entryOfKind .heater = some i) (hon : (s.live i).grant = .on) (hd : s.heater.demand = true)
    (j : Nat) : (heaterAtIdle s).live j = s.live j := by
  unfold heaterAtIdle
  split
  · split
    · rw [endStopping_of_on he hon]
      rfl
    · simp only [endRetry, State.modHeater_heater, hd, if_true]
      rfl
    · split
      · rw [endLockoutPurge, onEntry_eq he]
        exact stopComplete_of_on hon j
      · rfl
    · rfl
  · rfl

/-- The tests leave the entry in ON: they ask, and say at most that it is wanted. -/
theorem heaterTests_of_on (he : s.entryOfKind .heater = some i) (hon : (s.live i).grant = .on) (hd : s.heater.demand = true) :
    ((heaterTests s).live i).grant = .on ∧ ((heaterTests s).live i).reason = (s.live i).reason := by
  have hidle := heaterAtIdle_live_of_on he hon hd i
  have he₁ : (heaterAtIdle s).entryOfKind .heater = some i := (State.entryOfKind_congr (by simp) .heater).trans he
  have hstart : ((heaterStart (heaterAtIdle s)).live i).grant = .on ∧
      ((heaterStart (heaterAtIdle s)).live i).reason = (s.live i).reason := by
    unfold heaterStart
    split
    · have hreq := request_live_of_on (s := heaterAtIdle s) (i := i) (by rw [hidle, hon])
      rw [State.modHeater_live, onEntry_eq he₁, hreq, hidle]
      exact ⟨hon, rfl⟩
    · rw [hidle]
      exact ⟨hon, rfl⟩
  unfold heaterTests heaterAsk
  split
  · have hkept := (onEntry_slotMoves (k := .heater) askSlot_slotMoves (heaterStart (heaterAtIdle s))).kept i
    obtain ⟨hgrant, -, -, hreason, -⟩ := Live.kept_eq hkept
    rw [hgrant, hreason]
    exact hstart
  · exact hstart

end On

/-! ### The heater told of a grant (R118) -/

/-- An entry of the roster with a grant just given. -/
def State.grantedOn (s : State) (i : Nat) : State := s.modLive i fun l => { l with grant := .on, reason := .none }

theorem grantedOn_live {s : State} {i : Nat} (h : (s.live i).grant = .waiting) :
    (s.grantedOn i).live i = { s.live i with grant := .on, reason := .none } := State.live_modLive_self (by simp [h]) _

theorem grant_eq {s : State} {i : Nat} (h : (s.live i).grant = .waiting) : grant i s = tellGranted i (s.grantedOn i) := if_pos h

theorem tellGranted_heater {s : State} {i : Nat} (hk : (s.cfg i).kind = .heater) : tellGranted i s = heaterGranted s := by
  simp only [tellGranted, hk]

theorem heaterGranted_of_demand {s : State} (h : s.DemandIs true) : heaterGranted s = heaterDuty (heaterTests (takeLevel s)) := by
  rw [heaterGranted, if_pos h.held, heaterRefresh_of_demandIs h]

theorem heaterDuty_kept (j : Nat) (s : State) : ((heaterDuty s).live j).kept = (s.live j).kept := (heaterDuty_slotMoves s).kept j

/-- With demand the entry stays in ON (R118). -/
theorem heaterGranted_of_on {s : State} {i : Nat} (hd : s.DemandIs true) (he : s.entryOfKind .heater = some i)
    (hon : (s.live i).grant = .on) :
    ((heaterGranted s).live i).grant = .on ∧ ((heaterGranted s).live i).reason = (s.live i).reason := by
  have hlive : (takeLevel s).live i = s.live i := State.live_congr (by simp) i
  have htests := heaterTests_of_on (s := takeLevel s) ((State.entryOfKind_congr (by simp) .heater).trans he) (by rw [hlive, hon])
    ((congrArg Heater.Inputs.demand (takeLevel_inputs s)).trans hd.held)
  obtain ⟨hgrant, -, -, hreason, -⟩ := Live.kept_eq (heaterDuty_kept i (heaterTests (takeLevel s)))
  rw [heaterGranted_of_demand hd, hgrant, hreason, ← hlive]
  exact htests

/-- In REQUESTING a refresh with demand only asks (R118). -/
theorem heaterRefresh_requesting {s : State} {d : Bool} (h : s.DemandIs d) (hr : s.heater.state = .requesting) :
    heaterRefresh s = heaterDuty (heaterAsk s) := by
  have hidle : heaterAtIdle s = s := by
    unfold heaterAtIdle
    split
    · simp [hr]
    · rfl
  rw [heaterRefresh_of_demandIs h, takeLevel_of_stopped (heaterRun_false (by simp [hr]) (by simp [hr])), heaterTests, hidle,
    heaterStart_other (by simp [hr])]

/-! ### The ask (R73, R74) -/

section Ask
variable {s : State} {i : Nat}

theorem State.queued_of_mem {x : Place} (h : x ∈ s.roster.queue) : s.queued x.entry = true :=
  List.any_eq_true.mpr ⟨x, h, by simp⟩

/-- An ask while another holds the slot waits in the queue. -/
theorem askSlot_of_held (hon : (s.live i).grant = .on) (hh : s.holds i = false) (hq : s.queued i = false)
    (hholder : s.roster.holder ≠ none) :
    askSlot i s = s.modRoster fun r =>
      { r with queue := s.insertPlace { entry := i, asked := r.asks } r.queue, asks := r.asks + 1 } := by
  have hsome : s.roster.holder.isNone = false := by simpa [Option.isSome_iff_ne_none] using hholder
  simp [askSlot, hon, hh, hq, hsome]

theorem askSlot_queued (hon : (s.live i).grant = .on) (hh : s.holds i = false) (hq : s.queued i = false)
    (hholder : s.roster.holder ≠ none) : (askSlot i s).queued i = true := by
  have hmem : ({ entry := i, asked := s.roster.asks } : Place) ∈ (askSlot i s).roster.queue := by
    rw [askSlot_of_held hon hh hq hholder]
    exact (s.insertPlace_perm { entry := i, asked := s.roster.asks } s.roster.queue).mem_iff.mpr List.mem_cons_self
  exact State.queued_of_mem hmem

/-- A free slot with nobody waiting goes to the one that asks. -/
theorem askSlot_alone (hon : (s.live i).grant = .on) (hholder : s.roster.holder = none) (hqueue : s.roster.queue = []) :
    askSlot i s = handOver 2 (s.askedAlone i) := by
  simp [askSlot, hon, State.holds, State.queued, hholder, hqueue, State.insertPlace, State.modRoster, State.askedAlone]

theorem askSlot_starts_heater (hon : (s.live i).grant = .on) (hholder : s.roster.holder = none) (hqueue : s.roster.queue = [])
    (hk : (s.cfg i).kind = .heater) (hr : s.heater.state = .requesting) :
    askSlot i s = enterStarting ((s.askedAlone i).headTaken { entry := i, asked := s.roster.asks } []) := by
  rw [askSlot_alone hon hholder hqueue]
  exact handOver_heater_head (n := 1) (s := s.askedAlone i) rfl hk hr

end Ask

/-- An entry in ON released at rest (R62). -/
theorem release_live_of_on {s : State} {i : Nat} (hon : (s.live i).grant = .on) :
    ((release false i s).live i).grant = .idle ∧ ((release false i s).live i).want = false := by
  unfold release
  dsimp only
  rw [if_pos hon]
  obtain ⟨hgrant, hwant, -⟩ := Live.kept_eq ((giveUpPlace_slotMoves i _).kept i)
  rw [hgrant, hwant, State.live_modLive_self (by simp [hon])]
  simp [hon]

/-- Without the slot a release hands nothing on. -/
theorem release_heater_of_not_holds {s : State} {i : Nat} (hh : s.holds i = false) (withStop : Bool) :
    (release withStop i s).heater = s.heater := by
  unfold release
  dsimp only
  split
  · rw [giveUpPlace, if_neg (by simpa [State.holds, State.modLive, State.modRoster] using hh)]
    rfl
  · rfl

/-- In OFF without demand the tests find nothing to do. -/
theorem heaterTests_off {s : State} (hs : s.heater.state = .off) (hd : s.heater.demand = false) : heaterTests s = s := by
  have hidle : heaterAtIdle s = s := by
    unfold heaterAtIdle
    split
    · simp [hs]
    · rfl
  have hstart : heaterStart s = s := if_neg fun hn => by simp [hd] at hn
  rw [heaterTests, hidle, hstart, heaterAsk_other (by simp [hs])]

theorem grantedOn_demandIs {s : State} {d : Bool} (hd : s.DemandIs d) (i : Nat) : (s.grantedOn i).DemandIs d :=
  hd.congr rfl rfl rfl rfl

/-! ### A heater's entry granted in REQUESTING (R118) -/

section Granted
variable {s : State} {i : Nat} (he : s.entryOfKind .heater = some i) (hw : (s.live i).grant = .waiting)
include he hw

theorem grant_heater : grant i s = heaterGranted (s.grantedOn i) := by
  rw [grant_eq hw]
  exact tellGranted_heater (State.cfg_kind_of_entryOfKind he)

theorem grant_heater_on (hd : s.DemandIs true) : ((grant i s).live i).grant = .on ∧ ((grant i s).live i).reason = .none := by
  have hlive := grantedOn_live hw
  rw [grant_heater he hw]
  obtain ⟨hgrant, hreason⟩ := heaterGranted_of_on (s := s.grantedOn i) (i := i) (grantedOn_demandIs hd i) he (by rw [hlive])
  exact ⟨hgrant, hreason.trans (by rw [hlive])⟩

theorem grant_heater_requesting (hd : s.DemandIs true) (hr : s.heater.state = .requesting) :
    grant i s = heaterDuty (heaterAsk (s.grantedOn i)) := by
  rw [grant_heater he hw, heaterGranted, if_pos (show (s.grantedOn i).heater.demand = true from hd.held)]
  exact heaterRefresh_requesting (grantedOn_demandIs hd i) hr

theorem grant_heater_not_ready (hd : s.DemandIs true) (hr : s.heater.state = .requesting) (hready : s.heaterReady = false) :
    (grant i s).heater.state = .requesting ∧ (grant i s).roster.holder = s.roster.holder ∧
      (grant i s).roster.queue = s.roster.queue := by
  have hask : heaterAsk (s.grantedOn i) = s.grantedOn i := if_neg fun hn => by
    have hnot : (s.grantedOn i).heaterReady = false := hready
    simp [hnot] at hn
  rw [grant_heater_requesting he hw hd hr, hask]
  obtain ⟨hholder, hqueue⟩ := heaterDuty_places (s.grantedOn i)
  exact ⟨by simp; exact hr, hholder, hqueue⟩

omit hw in
theorem heaterAsk_grantedOn (hr : s.heater.state = .requesting) (hready : s.heaterReady = true) :
    heaterAsk (s.grantedOn i) = askSlot i (s.grantedOn i) := by
  rw [heaterAsk, if_pos ⟨hr, hready⟩]
  exact onEntry_eq (s := s.grantedOn i) he _

theorem grant_heater_waits (hd : s.DemandIs true) (hr : s.heater.state = .requesting) (hready : s.heaterReady = true)
    (hh : s.holds i = false) (hq : s.queued i = false) (hholder : s.roster.holder ≠ none) :
    (grant i s).heater.state = .requesting ∧ (grant i s).roster.holder = s.roster.holder ∧ (grant i s).queued i = true := by
  have hon : ((s.grantedOn i).live i).grant = .on := by rw [grantedOn_live hw]
  have hask := askSlot_of_held (s := s.grantedOn i) hon hh hq hholder
  have hqueued := askSlot_queued (s := s.grantedOn i) hon hh hq hholder
  rw [grant_heater_requesting he hw hd hr, heaterAsk_grantedOn he hr hready]
  obtain ⟨hholder', hqueue'⟩ := heaterDuty_places (askSlot i (s.grantedOn i))
  refine ⟨?_, ?_, ?_⟩
  · rw [hask]
    simp
    exact hr
  · rw [hholder', hask]
    rfl
  · rw [State.queued, hqueue']
    exact hqueued

theorem grant_heater_starts (hd : s.DemandIs true) (hr : s.heater.state = .requesting) (hready : s.heaterReady = true)
    (hholder : s.roster.holder = none) (hqueue : s.roster.queue = []) :
    (grant i s).heater.state = .starting ∧ (grant i s).heater.ignition = some 0 ∧
      (grant i s).roster.holder = some { entry := i, limit := (s.live i).work.limit, elapsed := 0 } ∧ (grant i s).roster.queue = [] := by
  have hon : ((s.grantedOn i).live i).grant = .on := by rw [grantedOn_live hw]
  have hask := askSlot_starts_heater (s := s.grantedOn i) hon hholder hqueue (State.cfg_kind_of_entryOfKind he) hr
  set taken := ((s.grantedOn i).askedAlone i).headTaken { entry := i, asked := (s.grantedOn i).roster.asks } [] with htaken
  rw [grant_heater_requesting he hw hd hr, heaterAsk_grantedOn he hr hready, hask]
  obtain ⟨hholder₁, hqueue₁⟩ := heaterDuty_places (enterStarting taken)
  obtain ⟨hholder₂, hqueue₂⟩ := enterStarting_places taken
  obtain ⟨l, hheater⟩ := enterStarting_heater taken
  have hlimit : taken.roster.holder = some { entry := i, limit := ((s.grantedOn i).live i).work.limit, elapsed := 0 } := rfl
  rw [hholder₁, hqueue₁, hholder₂, hqueue₂, hlimit, grantedOn_live hw]
  exact ⟨by simp [hheater], by simp [hheater], rfl, rfl⟩

/-- Without demand the heater withdraws, at rest (R118). -/
theorem grant_heater_withdraws (hd : s.DemandIs false) (hr : s.heater.state = .requesting) (hh : s.holds i = false) :
    ((grant i s).live i).grant = .idle ∧ ((grant i s).live i).want = false ∧ (grant i s).heater.state = .off := by
  have hlive := grantedOn_live hw
  set u := s.grantedOn i with hu
  have hheater : (release false i u).heater = u.heater := release_heater_of_not_holds (s := u) hh false
  have hdemand : u.heater.demand = false := hd.held
  have hstate : u.heater.state = .requesting := hr
  have htold : grant i s = heaterRefresh ((release false i u).modHeater fun h => { h with state := .off }) := by
    rw [grant_heater he hw, ← hu, heaterGranted, if_neg (by simp [hdemand]), onEntry_eq (s := u) he]
    simp only [State.modHeater, hheater, hstate, if_true]
  set v := (release false i u).modHeater fun h => { h with state := .off } with hv
  have hvheater : v.heater = { u.heater with state := .off } := by rw [← hheater]; rfl
  have hvdemand : v.DemandIs false :=
    (grantedOn_demandIs hd i).congr (by rw [hvheater]; rfl) (by simp [hv]; rfl) (by simp [hv]; rfl) (by simp [hv]; rfl)
  have hrefresh : heaterRefresh v = heaterDuty v := by
    rw [heaterRefresh_of_demandIs hvdemand, takeLevel_of_stopped (by simp [State.heaterRun, hvheater]),
      heaterTests_off (by simp [hvheater]) hvdemand.held]
  obtain ⟨hgrant, hwant, -⟩ := Live.kept_eq (heaterDuty_kept i v)
  obtain ⟨hidle, hnot⟩ := release_live_of_on (s := u) (i := i) (by rw [hlive])
  rw [htold, hrefresh, hgrant, hwant]
  exact ⟨hidle, hnot, by simp [hvheater]⟩

end Granted

/-! ### A surge place given up for good (R76) -/

/-- The owner of an entry that is handed the slot now could not use it (R74). -/
structure State.CannotUse (s : State) (i : Nat) : Prop where
  heater : (s.cfg i).kind = .heater → s.heater.state ≠ .requesting
  fridge : (s.cfg i).kind = .fridge → s.fridge.state ≠ .held ∧ s.fridge.state ≠ .want

/-- The slot handed on does not come to such an entry. -/
theorem handOver_not_holds {i : Nat} {s : State} (h : s.CannotUse i) (n : Nat) : (handOver n s).holds i = false := by
  induction n generalizing s with
  | zero => rfl
  | succ n ih =>
    rw [handOver]
    split
    · rfl
    next p rest _ =>
      have hnext : (handOver n (s.headTaken p rest)).holds i = false := ih ⟨h.heater, h.fridge⟩
      have hused (hne : p.entry ≠ i) : (s.headTaken p rest).holds i = false := by
        simp [State.holds, State.headTaken, State.modRoster, hne]
      dsimp only
      split
      next hk =>
        split
        next hr =>
          have hne : p.entry ≠ i := fun heq => h.heater (heq ▸ hk) hr
          obtain ⟨hholder, -⟩ := enterStarting_places (s.headTaken p rest)
          have hstarts : (enterStarting (s.headTaken p rest)).holds i = false := by
            rw [State.holds, hholder]
            exact hused hne
          exact hstarts
        next => exact hnext
      next hk =>
        split
        next hc =>
          have hne : p.entry ≠ i := fun heq => hc.1.elim (h.fridge (heq ▸ hk)).1 (h.fridge (heq ▸ hk)).2
          exact hused hne
        next => exact hnext
      next => exact hnext

theorem giveUpPlace_not_holds {i : Nat} {s : State} (h : s.CannotUse i ∨ s.holds i = false) : (giveUpPlace i s).holds i = false := by
  unfold giveUpPlace
  split
  next hh => exact handOver_not_holds (h.resolve_right (by simp [hh])) _
  next hh => exact Bool.eq_false_iff.mpr hh

theorem giveUpPlace_of_not_holds {i : Nat} {s : State} (h : s.holds i = false) :
    giveUpPlace i s = s.modRoster fun r => { r with queue := r.queue.filter fun p => p.entry != i } := if_neg (by simp [h])

theorem giveUpPlace_not_queued {i : Nat} {s : State} (h : s.holds i = false) : (giveUpPlace i s).queued i = false := by
  rw [giveUpPlace_of_not_holds h]
  simp [State.queued, State.modRoster]

/-! ### A budget shed, up to what the owner does (R66) -/

/-- An entry of the roster shed from ON by the budget, its stop to come. -/
def State.sheddingOn (s : State) (i : Nat) : State := s.modLive i fun l => { l with grant := .shedding, reason := .budget }

/-- The part as the owner of a shed entry finds it: its surge place given up, the notice raised. -/
def State.shedTold (s : State) (i : Nat) : State := raiseLoadShed false i (giveUpPlace i (s.sheddingOn i))

theorem budgetShed_eq {s : State} {i : Nat} (h : (s.live i).grant = .on) : budgetShed i s = tellShed i (s.shedTold i) := if_pos h

section Told
variable {s : State} {i : Nat}

theorem shedTold_frame : (s.shedTold i).tables = s.tables ∧ (s.shedTold i).nodes = s.nodes ∧ (s.shedTold i).signals = s.signals := by
  simp [State.shedTold, raiseLoadShed, State.sheddingOn, State.modLive]

theorem shedTold_flag : (s.shedTold i).notices.flags.getLsbD 7 = true := raise_flag_self .loadShed _ _

theorem shedTold_kept (j : Nat) : ((s.shedTold i).live j).kept = ((s.sheddingOn i).live j).kept := by
  rw [State.shedTold, raiseLoadShed_live]
  exact (giveUpPlace_slotMoves i _).kept j

/-- The shed entry (R66). -/
theorem shedTold_entry (hon : (s.live i).grant = .on) :
    ((s.shedTold i).live i).grant = .shedding ∧ ((s.shedTold i).live i).reason = .budget ∧
      ((s.shedTold i).live i).want = (s.live i).want := by
  obtain ⟨hgrant, hwant, -, hreason, -⟩ := Live.kept_eq (shedTold_kept (s := s) (i := i) i)
  rw [hgrant, hwant, hreason, State.sheddingOn, State.live_modLive_self (by simp [hon])]
  exact ⟨rfl, rfl, rfl⟩

theorem shedTold_roster : (s.shedTold i).roster = (giveUpPlace i (s.sheddingOn i)).roster := by
  simp [State.shedTold, raiseLoadShed]

theorem shedTold_not_holds (h : s.CannotUse i ∨ s.holds i = false) : (s.shedTold i).holds i = false := by
  have hgiven : (giveUpPlace i (s.sheddingOn i)).holds i = false :=
    giveUpPlace_not_holds (h.imp (fun hc => ⟨hc.heater, hc.fridge⟩) id)
  rwa [State.holds, shedTold_roster]

theorem shedTold_not_queued (h : s.holds i = false) : (s.shedTold i).queued i = false := by
  have hgiven : (giveUpPlace i (s.sheddingOn i)).queued i = false := giveUpPlace_not_queued h
  rwa [State.queued, shedTold_roster]

/-- The heater is left as it was, unless its place is handed on to itself in REQUESTING. -/
theorem shedTold_heater (h : s.heater.state ≠ .requesting ∨ s.holds i = false) : (s.shedTold i).heater = s.heater := by
  have hgiven : (giveUpPlace i (s.sheddingOn i)).heater = s.heater := by
    rcases h with hr | hh
    · exact (giveUpPlace_heater i (s.sheddingOn i)).eq hr
    · rw [giveUpPlace_of_not_holds (s := s.sheddingOn i) hh]
      rfl
  rw [← hgiven]
  simp [State.shedTold, raiseLoadShed]

theorem shedTold_fridge (h : (s.fridge.state ≠ .held ∧ s.fridge.state ≠ .want) ∨ s.holds i = false) : (s.shedTold i).fridge = s.fridge := by
  have hgiven : (giveUpPlace i (s.sheddingOn i)).fridge = s.fridge := by
    rcases h with hr | hh
    · exact (giveUpPlace_fridge i (s.sheddingOn i)).resolve_right fun hn => hn.1.elim hr.1 hr.2
    · rw [giveUpPlace_of_not_holds (s := s.sheddingOn i) hh]
      rfl
  rw [← hgiven]
  simp [State.shedTold, raiseLoadShed]

theorem shedTold_demandIs {d : Bool} (hd : s.DemandIs d) (h : s.heater.state ≠ .requesting ∨ s.holds i = false) :
    (s.shedTold i).DemandIs d := by
  obtain ⟨htables, hnodes, hsignals⟩ := shedTold_frame (s := s) (i := i)
  exact hd.congr (by rw [shedTold_heater h]) hnodes hsignals htables

end Told

/-! ### The heater told of a shed (R122, R123) -/

/-- In STOPPING away from IDLE a refresh waits (R122). -/
theorem heaterRefresh_stopping {s : State} {d : Bool} (hd : s.DemandIs d) (hs : s.heater.state = .stopping) (hidle : s.heaterIdle = false) :
    heaterRefresh s = heaterDuty s := by
  have hrun : takeLevel s = s := takeLevel_of_stopped (by simp [State.heaterRun, hs])
  have hwait : heaterAtIdle s = s := by simp [heaterAtIdle, hidle]
  rw [heaterRefresh_of_demandIs hd, hrun, heaterTests, hwait, heaterStart_other (by simp [hs]), heaterAsk_other (by simp [hs])]

section Stopped
variable {s : State} {i : Nat} (he : s.entryOfKind .heater = some i)
include he

/-- An entry that is not in ON does not ask (R73). -/
theorem heaterAsk_of_not_on (hg : (s.live i).grant ≠ .on) : heaterAsk s = s := by
  unfold heaterAsk
  split
  · rw [onEntry_eq he]
    exact if_pos (.inl hg)
  · rfl

/-- The end of STOPPING with an entry in SHEDDING that is wanted: it is SHED, and the controller in REQUESTING (R122). -/
theorem endStopping_of_shedding (hg : (s.live i).grant = .shedding) (hw : (s.live i).want = true) (hd : s.heater.demand = true) :
    endStopping s = (stopComplete i s).modHeater fun h => { h with purge := none, state := .requesting } := by
  set u := s.modHeater fun h => { h with purge := none } with hu
  have heu : u.entryOfKind .heater = some i := he
  have hgrant : u.grantOfKind .heater = some .shedding := (grantOfKind_eq heu).trans (congrArg some hg)
  have hdu : u.heater.demand = true := hd
  have hstop : ((stopComplete i u).live i).grant = .shed := by
    have hlive : u.live i = s.live i := rfl
    rw [stopComplete_of_shedding (by rw [hlive, hg]) (by rw [hlive, hw])]
  have hshed : (stopComplete i u).grantOfKind .heater = some .shed := by
    rw [grantOfKind_eq (i := i) ((State.entryOfKind_congr (by simp) .heater).trans heu), hstop]
  simp only [endStopping, ← hu, hgrant, hdu, onEntry_eq heu, hshed]
  rfl

/-- At IDLE the stop is over, and nothing is asked until the entry is granted again (R122). -/
theorem heaterRefresh_stopped (hd : s.DemandIs true) (hs : s.heater.state = .stopping) (hidle : s.heaterIdle = true)
    (hg : (s.live i).grant = .shedding) (hw : (s.live i).want = true) :
    heaterRefresh s = heaterDuty ((stopComplete i s).modHeater fun h => { h with purge := none, state := .requesting }) := by
  set v := (stopComplete i s).modHeater fun h => { h with purge := none, state := .requesting } with hv
  have hrun : takeLevel s = s := takeLevel_of_stopped (by simp [State.heaterRun, hs])
  have hend : heaterAtIdle s = v := by
    simp only [heaterAtIdle, hidle, hs, if_true]
    exact endStopping_of_shedding he hg hw hd.held
  have hstate : v.heater.state = .requesting := rfl
  have hev : v.entryOfKind .heater = some i := (State.entryOfKind_congr (by simp [hv]) .heater).trans he
  have hlive : v.live i = { s.live i with grant := .shed } := stopComplete_of_shedding hg hw
  rw [heaterRefresh_of_demandIs hd, hrun, heaterTests, hend, heaterStart_other (by simp [hstate]),
    heaterAsk_of_not_on hev (by simp [hlive])]

end Stopped

/-! ### A budget shed of the heater (R123) -/

section Shed
variable {s : State} {i : Nat} (he : s.entryOfKind .heater = some i) (hon : (s.live i).grant = .on) (hw : (s.live i).want = true)
  (hd : s.DemandIs true)

/-- The heater told of a shed in STARTING, RUNNING or RETRY_WAIT is in STOPPING, its purge started unless it runs (R123). -/
def State.heaterStopping (s : State) : State :=
  if s.heaterRun then commandStop .stopping s else s.modHeater fun h => { h with state := .stopping }

theorem heaterShed_of_stopping {s : State} (h : s.heaterRun = true ∨ s.heater.state = .retryWait) :
    heaterShed s = heaterRefresh s.heaterStopping := by
  unfold heaterShed State.heaterStopping
  rcases h with hrun | hretry
  · rw [if_pos hrun]
    rcases (by simpa [State.heaterRun] using hrun : s.heater.state = .starting ∨ s.heater.state = .running) with hs | hs <;> rw [hs]
  · rw [if_neg (by simp [State.heaterRun, hretry]), hretry]

theorem heaterStopping_heater (s : State) :
    s.heaterStopping.heater.state = .stopping ∧
      s.heaterStopping.heater.purge = (if s.heaterRun = true then some 0 else s.heater.purge) ∧
      s.heaterStopping.heater.inputs = s.heater.inputs := by
  unfold State.heaterStopping
  split
  · exact ⟨rfl, rfl, rfl⟩
  · exact ⟨rfl, rfl, rfl⟩

theorem heaterStopping_frame (s : State) :
    s.heaterStopping.roster = s.roster ∧ s.heaterStopping.tables = s.tables ∧ s.heaterStopping.nodes = s.nodes ∧
      s.heaterStopping.signals = s.signals ∧ s.heaterStopping.notices = s.notices := by
  unfold State.heaterStopping
  split
  · exact ⟨rfl, rfl, rfl, rfl, rfl⟩
  · exact ⟨rfl, rfl, rfl, rfl, rfl⟩

include he hon in
theorem budgetShed_heater : budgetShed i s = heaterShed (s.shedTold i) := by
  have hk : ((s.shedTold i).cfg i).kind = .heater := by
    rw [State.cfg_congr shedTold_frame.1]
    exact State.cfg_kind_of_entryOfKind he
  simp only [budgetShed_eq hon, tellShed, hk]

include he hon in
theorem budgetShed_heater_flag : (budgetShed i s).notices.flags.getLsbD 7 = true := by
  have hframe : (heaterShed (s.shedTold i)).notices = (s.shedTold i).notices := by simp
  rw [budgetShed_heater he hon, hframe]
  exact shedTold_flag

/-- The part with the heater in STOPPING, its entry in SHEDDING and its surge place given up. -/
structure State.HeaterStops (s : State) (i : Nat) (x : State) : Prop where
  told : budgetShed i s = heaterRefresh x
  entry : x.entryOfKind .heater = some i
  demand : x.DemandIs true
  state : x.heater.state = .stopping
  purge : x.heater.purge = if s.heaterRun = true then some 0 else s.heater.purge
  idle : x.heaterIdle = s.heaterIdle
  grant : (x.live i).grant = .shedding
  reason : (x.live i).reason = .budget
  want : (x.live i).want = true
  holds : x.holds i = false

include he hon hw hd in
theorem budgetShed_stops (h : s.heaterRun = true ∨ s.heater.state = .retryWait) :
    s.HeaterStops i (s.shedTold i).heaterStopping := by
  have hr : s.heater.state ≠ .requesting := by
    rcases h with hrun | hretry
    · intro hs
      simp [State.heaterRun, hs] at hrun
    · simp [hretry]
  have hcannot : s.CannotUse i := ⟨fun _ => hr, fun hk => by simp [State.cfg_kind_of_entryOfKind he] at hk⟩
  have hheater := shedTold_heater (s := s) (i := i) (.inl hr)
  have hrun : (s.shedTold i).heaterRun = s.heaterRun := by rw [State.heaterRun, hheater]; rfl
  obtain ⟨htables, hnodes, -⟩ := shedTold_frame (s := s) (i := i)
  obtain ⟨hgrant, hreason, hwant⟩ := shedTold_entry hon
  obtain ⟨hstate, hpurge, hinputs⟩ := heaterStopping_heater (s.shedTold i)
  obtain ⟨froster, ftables, fnodes, fsignals, -⟩ := heaterStopping_frame (s.shedTold i)
  have hlive := State.live_congr froster i
  exact
    { told := by
        rw [budgetShed_heater he hon]
        exact heaterShed_of_stopping (by rwa [hrun, hheater])
      entry := (State.entryOfKind_congr (ftables.trans htables) .heater).trans he
      demand := (shedTold_demandIs hd (.inl hr)).congr hinputs fnodes fsignals ftables
      state := hstate
      purge := by rw [hpurge, hrun, hheater]
      idle := State.heaterIdle_congr (fnodes.trans hnodes) (ftables.trans htables)
      grant := by rw [hlive, hgrant]
      reason := by rw [hlive, hreason]
      want := by rw [hlive, hwant, hw]
      holds := by
        rw [State.holds, froster]
        exact shedTold_not_holds (.inl hcannot) }

theorem heaterDuty_holds (s : State) (i : Nat) : (heaterDuty s).holds i = s.holds i := by
  obtain ⟨hholder, -⟩ := heaterDuty_places s
  rw [State.holds, State.holds, hholder]

/-- Away from IDLE the entry stays in SHEDDING (R123). -/
theorem State.HeaterStops.away {x : State} (h : s.HeaterStops i x) (hidle : s.heaterIdle = false) :
    (budgetShed i s).holds i = false ∧ ((budgetShed i s).live i).reason = .budget ∧ ((budgetShed i s).live i).want = true ∧
      ((budgetShed i s).live i).grant = .shedding ∧ (budgetShed i s).heater.state = .stopping ∧
      (budgetShed i s).heater.purge = if s.heaterRun = true then some 0 else s.heater.purge := by
  obtain ⟨hgrant, hwant, -, hreason, -⟩ := Live.kept_eq (heaterDuty_kept i x)
  rw [h.told, heaterRefresh_stopping h.demand h.state (h.idle.trans hidle), heaterDuty_holds, hgrant, hwant, hreason]
  exact ⟨h.holds, h.reason, h.want, h.grant, by simpa using h.state, by simpa using h.purge⟩

/-- At IDLE the stop is over at once (R122, R123). -/
theorem State.HeaterStops.atIdle {x : State} (h : s.HeaterStops i x) (hidle : s.heaterIdle = true) :
    (budgetShed i s).holds i = false ∧ ((budgetShed i s).live i).reason = .budget ∧ ((budgetShed i s).live i).want = true ∧
      ((budgetShed i s).live i).grant = .shed ∧ (budgetShed i s).heater.state = .requesting ∧ (budgetShed i s).heater.purge = none := by
  set v := (stopComplete i x).modHeater fun y => { y with purge := none, state := .requesting } with hv
  have hlive : v.live i = { x.live i with grant := .shed } := stopComplete_of_shedding h.grant h.want
  have hholds : v.holds i = x.holds i := rfl
  obtain ⟨hgrant, hwant, -, hreason, -⟩ := Live.kept_eq (heaterDuty_kept i v)
  rw [h.told, heaterRefresh_stopped h.entry h.demand h.state (h.idle.trans hidle) h.grant h.want, ← hv, heaterDuty_holds, hholds,
    hgrant, hwant, hreason, hlive]
  exact ⟨h.holds, h.reason, h.want, rfl, by simp [hv], by simp [hv]⟩

include he hon hw hd in
/-- In REQUESTING the entry is SHED at once (R123). -/
theorem budgetShed_requesting (hr : s.heater.state = .requesting) (hh : s.holds i = false) :
    ((budgetShed i s).live i).grant = .shed ∧ ((budgetShed i s).live i).reason = .budget ∧ ((budgetShed i s).live i).want = true ∧
      (budgetShed i s).heater.state = .requesting ∧ (budgetShed i s).queued i = false := by
  have hheater := shedTold_heater (s := s) (i := i) (.inr hh)
  obtain ⟨hgrant, hreason, hwant⟩ := shedTold_entry hon
  obtain ⟨htables, -, -⟩ := shedTold_frame (s := s) (i := i)
  have het : (s.shedTold i).entryOfKind .heater = some i := (State.entryOfKind_congr htables .heater).trans he
  set v := stopComplete i (s.shedTold i) with hv
  have hlive : v.live i = { (s.shedTold i).live i with grant := .shed } := stopComplete_of_shedding hgrant (hwant.trans hw)
  have hvheater : v.heater = s.heater := by
    rw [← hheater]
    simp [hv]
  have hev : v.entryOfKind .heater = some i := (State.entryOfKind_congr (by simp [hv]) .heater).trans het
  have hvdemand : v.DemandIs true :=
    (shedTold_demandIs hd (.inr hh)).congr (by rw [hvheater, hheater]) (by simp [hv]) (by simp [hv]) (by simp [hv])
  have htold : budgetShed i s = heaterDuty v := by
    rw [budgetShed_heater he hon, heaterShed, hheater, hr]
    dsimp only
    rw [onEntry_eq het, ← hv, heaterRefresh_requesting hvdemand (by rw [hvheater, hr]), heaterAsk_of_not_on hev (by simp [hlive])]
  obtain ⟨hgrant', hwant', -, hreason', -⟩ := Live.kept_eq (heaterDuty_kept i v)
  obtain ⟨-, hqueue⟩ := heaterDuty_places v
  rw [htold, hgrant', hwant', hreason', hlive]
  refine ⟨rfl, hreason, hwant.trans hw, by simp [hvheater, hr], ?_⟩
  rw [State.queued, hqueue]
  exact shedTold_not_queued hh

end Shed

end Sys2Proof.Machine
end

section
/-! PROOF. The fridge's answers to a grant and to a budget shed, and those of lights and outlets (R65, R66, R79, R137, R158; O50). -/

namespace Sys2Proof.Machine

set_option Elab.async false -- one theorem after another: each would otherwise take a thread with its own large stack

/-! ### The checks of HELD and the slot (R133, R134) -/

theorem fridgeWant_slotMoves (s : State) : s.SlotMoves (fridgeWant s) := by
  have hwant : s.SlotMoves (s.modFridge fun f => { f with state := .want }) := .of_live rfl rfl
  have hask (t : State) : t.SlotMoves (if t.fridgeMayAsk = true then onEntry .fridge askSlot t else t) := by
    split
    · exact onEntry_slotMoves askSlot_slotMoves t
    · exact .refl t
  have hheld (t : State) : t.SlotMoves (if t.fridge.state = .want then t.modFridge fun f => { f with state := .held } else t) := by
    split
    · exact .of_live rfl rfl
    · exact .refl t
  exact (hwant.trans (hask _)).trans (hheld _)

theorem fridgeChecks_slotMoves (s : State) : s.SlotMoves (fridgeChecks s) := by
  unfold fridgeChecks
  split
  · exact fridgeWant_slotMoves s
  · exact .refl s

theorem fridgeChecks_not_ready {s : State} (h : s.fridgeReady = false) : fridgeChecks s = s := by
  have hask : s.fridgeMayAsk = false := by simp [State.fridgeMayAsk, h]
  exact if_neg fun hn => by simp [hask] at hn

theorem fridgeTests_slotMoves (s : State) : s.SlotMoves (fridgeTests s) := by
  unfold fridgeTests
  split
  · unfold fridgeCutIn
    repeat' split
    · exact fridgeWant_slotMoves s
    all_goals exact .refl s
  · unfold fridgeHeld
    split
    · have hto : s.SlotMoves (fridgeTo .idleCold s) := .of_live rfl rfl
      exact hto.trans (onEntry_slotMoves giveUpPlace_slotMoves _)
    · exact .refl s
  · unfold fridgeCutOut
    split
    · exact .of_live rfl rfl
    · exact .refl s
  · exact .refl s

/-- Without a node fault the fridge's news leave its entry in ON, whatever it begins (R131, R132). -/
theorem fridgeNews_of_on {s : State} {i : Nat} (he : s.entryOfKind .fridge = some i) (hon : (s.live i).grant = .on)
    (hsound : s.fridgeNodeFault = false) :
    ((fridgeNews s).live i).grant = .on ∧ ((fridgeNews s).live i).reason = (s.live i).reason := by
  have hbegin (t : State) (ht : t = s.modFridge fun f => { f with cause := none }) :
      ((fridgeBegin t).live i).grant = .on ∧ ((fridgeBegin t).live i).reason = (s.live i).reason := by
    have hlive : t.live i = s.live i := by rw [ht, State.modFridge_live]
    have het : t.entryOfKind .fridge = some i := by rw [ht]; exact he
    obtain ⟨hgrant, -, -, hreason, -⟩ := Live.kept_eq ((fridgeTests_slotMoves (fridgeTo .idleCold (onEntry .fridge request t))).kept i)
    rw [fridgeBegin, hgrant, hreason, onEntry_eq het, fridgeTo, State.modFridge_live, request_live_of_on (hlive ▸ hon), hlive]
    exact ⟨hon, rfl⟩
  have htests : ((fridgeFaultTests s).live i).grant = .on ∧ ((fridgeFaultTests s).live i).reason = (s.live i).reason := by
    unfold fridgeFaultTests
    rw [if_neg (by simp [hsound])]
    split
    · dsimp only
      split
      · exact hbegin _ rfl
      · exact ⟨hon, rfl⟩
    · exact ⟨hon, rfl⟩
  obtain ⟨hgrant, -, -, hreason, -⟩ := Live.kept_eq ((fridgeChecks_slotMoves (fridgeFaultTests s)).kept i)
  rw [fridgeNews, hgrant, hreason]
  exact htests

section FridgeGranted
variable {s : State} {i : Nat} (he : s.entryOfKind .fridge = some i) (hw : (s.live i).grant = .waiting)
  (hsound : s.fridgeNodeFault = false) (hfault : s.fridge.state ≠ .fault)
include he hw

theorem grant_fridge : grant i s = fridgeNews (s.grantedOn i) := by
  have hk : ((s.grantedOn i).cfg i).kind = .fridge := State.cfg_kind_of_entryOfKind he
  simp only [grant_eq hw, tellGranted, hk]

include hsound hfault in
theorem grant_fridge_sound : grant i s = fridgeChecks (s.grantedOn i) := by
  have hnode : (s.grantedOn i).fridgeNodeFault = false := hsound
  have htests : fridgeFaultTests (s.grantedOn i) = s.grantedOn i := by
    rw [fridgeFaultTests, if_neg (by simp [hnode])]
    exact if_neg fun hn => hfault hn.1
  rw [grant_fridge he hw, fridgeNews, htests]

include hsound in
theorem grant_fridge_on : ((grant i s).live i).grant = .on ∧ ((grant i s).live i).reason = .none := by
  have hlive := grantedOn_live hw
  obtain ⟨hgrant, hreason⟩ := fridgeNews_of_on (s := s.grantedOn i) (i := i) he (by rw [hlive]) hsound
  rw [grant_fridge he hw]
  exact ⟨hgrant, hreason.trans (by rw [hlive])⟩

include hsound hfault in
theorem grant_fridge_idle (h : s.fridge.state ≠ .held ∨ s.fridge.minOff ≠ none ∨ s.fridgeReady = false) :
    grant i s = s.grantedOn i := by
  rw [grant_fridge_sound he hw hsound hfault]
  rcases h with hstate | htimer | hready
  · exact fridgeChecks_other hstate
  · exact fridgeChecks_off htimer
  · exact fridgeChecks_not_ready hready

/-- The part with the fridge in WANT and its entry granted, about to ask (R133). -/
def State.fridgeAsking (s : State) (i : Nat) : State := (s.grantedOn i).modFridge fun f => { f with state := .want }

include hsound in
theorem grant_fridge_held (hs : s.fridge.state = .held) (hoff : s.fridge.minOff = none) (hready : s.fridgeReady = true)
    (hq : s.queued i = false) :
    grant i s =
      if (askSlot i (s.fridgeAsking i)).fridge.state = .want then
        (askSlot i (s.fridgeAsking i)).modFridge fun f => { f with state := .held }
      else askSlot i (s.fridgeAsking i) := by
  have heg : (s.grantedOn i).entryOfKind .fridge = some i := he
  have hgrant : (s.grantedOn i).grantOfKind .fridge = some .on := by rw [grantOfKind_eq heg, grantedOn_live hw]
  have hoffg : (s.grantedOn i).fridge.minOff = none := hoff
  have hreadyg : (s.grantedOn i).fridgeReady = true := hready
  have hask : (s.grantedOn i).fridgeMayAsk = true := by simp [State.fridgeMayAsk, hgrant, hoffg, hreadyg]
  have hasking : (s.fridgeAsking i).fridgeMayAsk = true := hask
  have hqueued : ((s.grantedOn i).entryOfKind .fridge).any (s.grantedOn i).queued = false := by
    rw [heg]
    exact hq
  have hstate : (s.grantedOn i).fridge.state = .held := hs
  rw [grant_fridge_sound he hw hsound (by simp [hs]), fridgeChecks, if_pos ⟨hstate, hask, by simp [hqueued]⟩]
  simp only [fridgeWant]
  rw [← State.fridgeAsking, if_pos hasking, onEntry_eq (s := s.fridgeAsking i) he]

omit he in
theorem fridgeAsking_on : ((s.fridgeAsking i).live i).grant = .on := by
  rw [State.fridgeAsking, State.modFridge_live, grantedOn_live hw]

include hsound in
theorem grant_fridge_waits (hs : s.fridge.state = .held) (hoff : s.fridge.minOff = none) (hready : s.fridgeReady = true)
    (hh : s.holds i = false) (hq : s.queued i = false) (hholder : s.roster.holder ≠ none) :
    (grant i s).fridge = s.fridge ∧ (grant i s).roster.holder = s.roster.holder ∧ (grant i s).queued i = true := by
  have hon := fridgeAsking_on hw
  have hask := askSlot_of_held (s := s.fridgeAsking i) hon hh hq hholder
  have hqueued := askSlot_queued (s := s.fridgeAsking i) hon hh hq hholder
  have hfridge : (askSlot i (s.fridgeAsking i)).fridge = { s.fridge with state := .want } := by rw [hask]; rfl
  rw [grant_fridge_held he hw hsound hs hoff hready hq, if_pos (by rw [hfridge])]
  refine ⟨?_, ?_, hqueued⟩
  · rw [State.modFridge_fridge, hfridge, ← hs]
  · rw [hask]
    rfl

include hsound in
theorem grant_fridge_cools (hs : s.fridge.state = .held) (hoff : s.fridge.minOff = none) (hready : s.fridgeReady = true)
    (hholder : s.roster.holder = none) (hqueue : s.roster.queue = []) :
    (grant i s).fridge = { s.fridge with state := .cooling, minOn := some 0, surgeHold := some 0 } ∧
      (grant i s).roster.holder = some { entry := i, limit := (s.live i).work.limit, elapsed := 0 } ∧ (grant i s).roster.queue = [] := by
  have hon := fridgeAsking_on hw
  have hq : s.queued i = false := by simp [State.queued, hqueue]
  have hk : ((s.fridgeAsking i).cfg i).kind = .fridge := State.cfg_kind_of_entryOfKind he
  have hask : askSlot i (s.fridgeAsking i) = enterCooling (((s.fridgeAsking i).askedAlone i).headTaken ⟨i, s.roster.asks⟩ []) := by
    rw [askSlot_alone hon hholder hqueue]
    exact handOver_fridge_head (n := 1) (s := (s.fridgeAsking i).askedAlone i) rfl hk (.inr rfl) hready
  have hstate : (askSlot i (s.fridgeAsking i)).fridge.state ≠ .want := by
    rw [hask]
    exact FridgeState.noConfusion
  have hlimit : ((s.fridgeAsking i).live i).work = (s.live i).work := by
    rw [State.fridgeAsking, State.modFridge_live, grantedOn_live hw]
  rw [grant_fridge_held he hw hsound hs hoff hready hq, if_neg hstate, hask]
  exact ⟨rfl, by rw [← hlimit]; rfl, rfl⟩

end FridgeGranted

/-! ### A budget shed of the fridge (R137) -/

/-- The fridge that has answered a shed: COOLING ends, in HELD above the effective set point and else in IDLE_COLD (R137). -/
def State.fridgeAnswered (s : State) : Fridge :=
  if s.fridge.state = .cooling then
    { s.fridge with
      state := if s.cabinet.any (fun r => decide (s.fridgeEffective < r)) = true then .held else .idleCold
      minOff := some 0, minOn := none, surgeHold := none }
  else s.fridge

theorem fridgeShed_eq {s : State} {i : Nat} (he : s.entryOfKind .fridge = some i) :
    fridgeShed s = stopComplete i (s.modFridge fun _ => s.fridgeAnswered) := by
  by_cases hs : s.fridge.state = .cooling
  · have hto (st : FridgeState) : (fridgeTo st s).entryOfKind .fridge = some i := he
    simp only [fridgeShed, hs, if_true, State.fridgeAnswered, onEntry_eq (hto _)]
    simp [fridgeTo, State.modFridge, hs]
  · simp only [fridgeShed, hs, if_false, State.fridgeAnswered, onEntry_eq he]
    rfl

section FridgeShed
variable {s : State} {i : Nat} (he : s.entryOfKind .fridge = some i) (hon : (s.live i).grant = .on)
  (hplace : s.fridge.state = .cooling ∨ s.holds i = false)
include hplace

theorem shedTold_fridge_of_place : (s.shedTold i).fridge = s.fridge :=
  shedTold_fridge (hplace.imp (fun hs => by simp [hs]) id)

theorem shedTold_fridgeAnswered : (s.shedTold i).fridgeAnswered = s.fridgeAnswered := by
  obtain ⟨htables, hnodes, -⟩ := shedTold_frame (s := s) (i := i)
  have hfridge := shedTold_fridge_of_place (i := i) hplace
  have hcabinet : (s.shedTold i).cabinet = s.cabinet := by
    simp only [State.cabinet, State.fridgeNode, State.nodeOf_congr hnodes htables]
  have heffective : (s.shedTold i).fridgeEffective = s.fridgeEffective := by
    simp only [State.fridgeEffective, hfridge, State.climate_congr htables]
  simp only [State.fridgeAnswered, hfridge, hcabinet, heffective]

include he hon in
theorem budgetShed_fridge :
    budgetShed i s = stopComplete i ((s.shedTold i).modFridge fun _ => s.fridgeAnswered) := by
  have htables := (shedTold_frame (s := s) (i := i)).1
  have hk : ((s.shedTold i).cfg i).kind = .fridge := by
    rw [State.cfg_congr htables]
    exact State.cfg_kind_of_entryOfKind he
  simp only [budgetShed_eq hon, tellShed, hk]
  rw [fridgeShed_eq ((State.entryOfKind_congr htables .fridge).trans he), shedTold_fridgeAnswered hplace]

include he hon in
theorem budgetShed_fridge_entry (hw : (s.live i).want = true) :
    ((budgetShed i s).live i).grant = .shed ∧ ((budgetShed i s).live i).reason = .budget ∧ ((budgetShed i s).live i).want = true ∧
      (budgetShed i s).holds i = false ∧ (budgetShed i s).notices.flags.getLsbD 7 = true ∧ (budgetShed i s).fridge = s.fridgeAnswered := by
  obtain ⟨hgrant, hreason, hwant⟩ := shedTold_entry hon
  have hcannot : s.CannotUse i ∨ s.holds i = false :=
    hplace.imp (fun hs => ⟨fun hk => by simp [State.cfg_kind_of_entryOfKind he] at hk, fun _ => by simp [hs]⟩) id
  have hlive := stopComplete_of_shedding (s := (s.shedTold i).modFridge fun _ => s.fridgeAnswered) hgrant (hwant.trans hw)
  rw [budgetShed_fridge he hon hplace, hlive]
  exact ⟨rfl, hreason, hwant.trans hw, shedTold_not_holds hcannot, shedTold_flag, rfl⟩

end FridgeShed

/-! ### Lights and outlets (R66, R79, R158) -/

/-- An owner of lights or of an outlet that is told of a grant does nothing (R65). -/
theorem grant_passive {s : State} {i : Nat} (hk : (s.cfg i).kind = .lights ∨ (s.cfg i).kind = .outlet)
    (hw : (s.live i).grant = .waiting) : grant i s = s.grantedOn i := by
  have hkind : ((s.grantedOn i).cfg i).kind = (s.cfg i).kind := rfl
  rw [grant_eq hw, tellGranted, hkind]
  rcases hk with hk | hk <;> rw [hk]

/-- One that is told of a shed reports stop complete at once (R79, R158). -/
theorem tellShed_passive {s : State} {i : Nat} (hk : (s.cfg i).kind = .lights ∨ (s.cfg i).kind = .outlet) :
    tellShed i s = stopComplete i s := by
  rw [tellShed]
  rcases hk with hk | hk <;> rw [hk]
  rfl

theorem budgetShed_passive {s : State} {i : Nat} (hk : (s.cfg i).kind = .lights ∨ (s.cfg i).kind = .outlet)
    (hon : (s.live i).grant = .on) (hw : (s.live i).want = true) (hh : s.holds i = false) :
    (budgetShed i s).live i = { s.live i with grant := .shed, reason := .budget } ∧
      (budgetShed i s).notices.flags.getLsbD 7 = true ∧ (∀ j, j ≠ i → (budgetShed i s).live j = s.live j) := by
  have hkt : ((s.shedTold i).cfg i).kind = .lights ∨ ((s.shedTold i).cfg i).kind = .outlet := by
    rwa [State.cfg_congr shedTold_frame.1]
  have htold (j : Nat) : (s.shedTold i).live j = (s.sheddingOn i).live j := by
    rw [State.shedTold, raiseLoadShed_live, giveUpPlace_of_not_holds (s := s.sheddingOn i) hh]
    rfl
  have hself : (s.sheddingOn i).live i = { s.live i with grant := .shedding, reason := .budget } :=
    State.live_modLive_self (by simp [hon]) _
  have hflag : (stopComplete i (s.shedTold i)).notices = (s.shedTold i).notices := rfl
  rw [budgetShed_eq hon, tellShed_passive hkt, hflag]
  refine ⟨?_, shedTold_flag, fun j hj => ?_⟩
  · rw [stopComplete_of_shedding (by rw [htold, hself]) (by rw [htold, hself]; exact hw), htold, hself]
  · rw [stopComplete_live_ne (Ne.symm hj), htold, State.sheddingOn, State.live_modLive_ne (Ne.symm hj)]

end Sys2Proof.Machine
end

section
/-! PROOF. What the owner of one entry leaves to the others (R61 to R63, R72 to R76; O50). -/

namespace Sys2Proof.Machine

set_option Elab.async false -- one theorem after another: each would otherwise take a thread with its own large stack

/-! ### What the owner of one entry leaves to the others (R61 to R63, R72 to R76) -/

/-- Between `s` and `t` entry `j` has been left alone, up to a duty estimate of the heater's; demand too where it is
the heater's entry. -/
structure State.Untouched (j : Nat) (s t : State) : Prop where
  tables : t.tables = s.tables
  nodes : t.nodes = s.nodes
  signals : t.signals = s.signals
  kept : (t.live j).kept = (s.live j).kept
  live : s.entryOfKind .heater ≠ some j → t.live j = s.live j
  inputs : s.entryOfKind .heater = some j → t.heater.inputs = s.heater.inputs

namespace State.Untouched
variable {j : Nat} {s t u : State}

theorem refl (s : State) : s.Untouched j s := ⟨rfl, rfl, rfl, rfl, fun _ => rfl, fun _ => rfl⟩

theorem trans (h : s.Untouched j t) (k : t.Untouched j u) : s.Untouched j u :=
  have hentry := State.entryOfKind_congr h.tables .heater
  { tables := k.tables.trans h.tables
    nodes := k.nodes.trans h.nodes
    signals := k.signals.trans h.signals
    kept := k.kept.trans h.kept
    live := fun hj => (k.live (hentry ▸ hj)).trans (h.live hj)
    inputs := fun hj => (k.inputs (hentry ▸ hj)).trans (h.inputs hj) }

theorem demandIs {d : Bool} (h : s.Untouched j t) (hj : s.entryOfKind .heater = some j) (hd : s.DemandIs d) : t.DemandIs d :=
  hd.congr (h.inputs hj) h.nodes h.signals h.tables

end State.Untouched

/-- Between `s` and `t` every entry but `i` has been left alone. -/
def State.Spares (i : Nat) (s t : State) : Prop := ∀ j, j ≠ i → s.Untouched j t

namespace State.Spares
variable {i : Nat} {s t u : State} {k : LoadKind}

theorem refl (s : State) : s.Spares i s := fun _ _ => .refl s

theorem trans (h : s.Spares i t) (h' : t.Spares i u) : s.Spares i u := fun j hj => (h j hj).trans (h' j hj)

theorem tables (h : s.Spares i t) : t.tables = s.tables := (h (i + 1) (Nat.succ_ne_self i)).tables

theorem entry (h : s.Spares i t) (he : s.entryOfKind k = some i) : t.entryOfKind k = some i :=
  (State.entryOfKind_congr h.tables k).trans he

/-- Then a change outside the roster. -/
theorem keep (h : s.Spares i t) (hr : u.roster = t.roster) (hf : u.tables = t.tables ∧ u.nodes = t.nodes ∧ u.signals = t.signals)
    (hi : s.entryOfKind .heater = some i ∨ u.heater.inputs = t.heater.inputs) : s.Spares i u := fun j hj =>
  have hkept := h j hj
  { tables := hf.1.trans hkept.tables
    nodes := hf.2.1.trans hkept.nodes
    signals := hf.2.2.trans hkept.signals
    kept := (congrArg Live.kept (State.live_congr hr j)).trans hkept.kept
    live := fun he => (State.live_congr hr j).trans (hkept.live he)
    inputs := fun he => (hi.resolve_left fun he' => hj (Option.some.inj (he.symm.trans he'))).trans (hkept.inputs he) }

theorem modHeater (h : s.Spares i t) (he : s.entryOfKind .heater = some i) (f : Heater → Heater) : s.Spares i (t.modHeater f) :=
  h.keep rfl ⟨rfl, rfl, rfl⟩ (.inl he)

theorem modFridge (h : s.Spares i t) (f : Fridge → Fridge) : s.Spares i (t.modFridge f) := h.keep rfl ⟨rfl, rfl, rfl⟩ (.inr rfl)

theorem ite {c : Prop} [Decidable c] (h : c → s.Spares i t) (h' : ¬ c → s.Spares i u) : s.Spares i (if c then t else u) := by
  split
  next hc => exact h hc
  next hc => exact h' hc

/-- Then what the owner does to its entry. -/
theorem onEntry (h : s.Spares i t) (he : s.entryOfKind k = some i) {f : Nat → State → State} (hf : ∀ v : State, v.Spares i (f i v)) :
    s.Spares i (onEntry k f t) := by
  rw [onEntry_eq (h.entry he)]
  exact h.trans (hf t)

end State.Spares

theorem State.modLive_spares (i : Nat) (f : Live → Live) (s : State) : s.Spares i (s.modLive i f) := fun j hj =>
  have hlive : (s.modLive i f).live j = s.live j := State.live_modLive_ne (Ne.symm hj) f
  ⟨rfl, rfl, rfl, by rw [hlive], fun _ => hlive, fun _ => rfl⟩

theorem State.SlotMoves.spares {s t : State} (h : s.SlotMoves t) (hf : t.nodes = s.nodes ∧ t.signals = s.signals)
    (hi : s.heater.MayStart t.heater) (i : Nat) : s.Spares i t := fun j _ =>
  ⟨h.tables, hf.1, hf.2, h.kept j, h.live j, fun _ => hi.inputs⟩

section Entry
variable (i : Nat) (s : State)

theorem request_spares : s.Spares i (request i s) := s.modLive_spares i _

theorem stopComplete_spares : s.Spares i (stopComplete i s) := s.modLive_spares i _

theorem giveUpPlace_spares (j : Nat) : s.Spares j (giveUpPlace i s) :=
  (giveUpPlace_slotMoves i s).spares (by simp) (giveUpPlace_heater i s) j

theorem askSlot_spares (j : Nat) : s.Spares j (askSlot i s) := (askSlot_slotMoves i s).spares (by simp) (askSlot_heater i s) j

theorem release_spares (withStop : Bool) : s.Spares i (release withStop i s) := by
  unfold release
  exact .ite (fun _ => (s.modLive_spares i _).trans (giveUpPlace_spares i _ i)) fun _ => s.modLive_spares i _

theorem heaterDuty_spares : s.Spares i (heaterDuty s) := (heaterDuty_slotMoves s).spares (by simp) (.inl (by simp)) i

end Entry

namespace State.Spares
variable {i : Nat} {s t : State} {k : LoadKind} (h : s.Spares i t) (he : s.entryOfKind k = some i)
include h he

theorem thenRequest : s.Spares i (Machine.onEntry k request t) := h.onEntry he (request_spares i)

theorem thenStopComplete : s.Spares i (Machine.onEntry k stopComplete t) := h.onEntry he (stopComplete_spares i)

theorem thenRelease (withStop : Bool) : s.Spares i (Machine.onEntry k (release withStop) t) :=
  h.onEntry he fun v => release_spares i v withStop

theorem thenReleaseWanted (withStop : Bool) :
    s.Spares i (Machine.onEntry k (fun i u => if (u.live i).want then release withStop i u else u) t) :=
  h.onEntry he fun v => .ite (fun _ => release_spares i v withStop) fun _ => .refl v

theorem thenGiveUpPlace : s.Spares i (Machine.onEntry k giveUpPlace t) := h.onEntry he fun v => giveUpPlace_spares i v i

theorem thenAskSlot : s.Spares i (Machine.onEntry k askSlot t) := h.onEntry he fun v => askSlot_spares i v i

end State.Spares

/-! ### The heater leaves the other entries alone (chapter 6) -/

section Heater
variable {i : Nat} {s t : State} (he : s.entryOfKind .heater = some i) (h : s.Spares i t)
include he h

theorem commandStop_spares (st : HeaterState) : s.Spares i (commandStop st t) := h.modHeater he _

theorem heaterAsk_spares : s.Spares i (heaterAsk t) := .ite (fun _ => h.thenAskSlot he) fun _ => h

theorem heaterStart_spares : s.Spares i (heaterStart t) := .ite (fun _ => (h.thenRequest he).modHeater he _) fun _ => h

theorem endStopping_spares : s.Spares i (endStopping t) := by
  have hpurged := h.modHeater he fun x => { x with purge := none }
  simp only [endStopping]
  split
  · exact (hpurged.thenRequest he).modHeater he _
  · exact (hpurged.thenStopComplete he).modHeater he _
  · split
    · exact (hpurged.thenStopComplete he).modHeater he _
    · exact ((hpurged.thenStopComplete he).thenRequest he).modHeater he _
  · exact (hpurged.thenRelease he false).modHeater he _
  · exact hpurged.modHeater he _

theorem endRetry_spares : s.Spares i (endRetry t) := by
  have hpurged := h.modHeater he fun x => { x with purge := none }
  exact .ite (fun _ => hpurged.modHeater he _) fun _ => (hpurged.thenRelease he false).modHeater he _

theorem heaterAtIdle_spares : s.Spares i (heaterAtIdle t) := by
  unfold heaterAtIdle
  refine .ite (fun _ => ?_) fun _ => h
  split
  · exact endStopping_spares he h
  · exact endRetry_spares he h
  · exact .ite (fun _ => (h.thenStopComplete he).modHeater he _) fun _ => h
  · exact h

theorem demandEnds_spares : s.Spares i (demandEnds t) := by
  unfold demandEnds
  split
  · exact (h.thenRelease he false).modHeater he _
  · exact (commandStop_spares he h .stopping).thenRelease he true
  · exact (commandStop_spares he h .stopping).thenRelease he true
  · exact h.thenReleaseWanted he true
  · exact h

theorem takeLevel_spares : s.Spares i (takeLevel t) := h.keep (by simp) (by simp) (.inl he)

theorem heaterRefresh_spares : s.Spares i (heaterRefresh t) := by
  have hmarked : s.Spares i t.remarked := h.keep rfl ⟨rfl, rfl, rfl⟩ (.inl he)
  have hended : s.Spares i
      (if ((heaterMarks t).heater.demand && !(heaterMarks t).demandNow) = true then demandEnds t.remarked else t.remarked) :=
    .ite (fun _ => demandEnds_spares he hmarked) fun _ => hmarked
  rw [heaterRefresh_eq]
  exact (heaterAsk_spares he (heaterStart_spares he (heaterAtIdle_spares he (takeLevel_spares he hended)))).trans (heaterDuty_spares i _)

theorem heaterGranted_spares : s.Spares i (heaterGranted t) :=
  .ite (fun _ => heaterRefresh_spares he h) fun _ => heaterRefresh_spares he ((h.thenRelease he false).modHeater he _)

theorem heaterShed_spares : s.Spares i (heaterShed t) := by
  unfold heaterShed
  refine heaterRefresh_spares he ?_
  split
  · exact commandStop_spares he h .stopping
  · exact commandStop_spares he h .stopping
  · exact h.modHeater he _
  · exact h.thenStopComplete he
  · exact h.thenStopComplete he
  · exact h

end Heater

/-! ### The fridge leaves the other entries alone (chapter 7) -/

section Fridge
variable {i : Nat} {s t : State} (he : s.entryOfKind .fridge = some i) (h : s.Spares i t)

include h in
theorem fridgeTo_spares (st : FridgeState) : s.Spares i (fridgeTo st t) := h.modFridge _

include h in
theorem setProtect_spares (v : Bool) : s.Spares i (setProtect v t) :=
  .ite (fun _ => h) fun _ => (h.modFridge fun f => { f with protectRequest := v }).keep (by simp) (by simp) (.inr (by simp))

include he h

theorem fridgeWant_spares : s.Spares i (fridgeWant t) := by
  have hasked (u : State) (hu : s.Spares i u) : s.Spares i (if u.fridgeMayAsk = true then onEntry .fridge askSlot u else u) :=
    .ite (fun _ => hu.thenAskSlot he) fun _ => hu
  have hwant := hasked _ (h.modFridge fun f => { f with state := .want })
  exact .ite (fun _ => hwant.modFridge _) fun _ => hwant

theorem fridgeChecks_spares : s.Spares i (fridgeChecks t) := .ite (fun _ => fridgeWant_spares he h) fun _ => h

theorem fridgeTests_spares : s.Spares i (fridgeTests t) := by
  unfold fridgeTests
  split
  · unfold fridgeCutIn
    split
    · exact .ite (fun _ => fridgeWant_spares he h) fun _ => h
    · exact h
  · exact .ite (fun _ => (fridgeTo_spares h .idleCold).thenGiveUpPlace he) fun _ => h
  · exact .ite (fun _ => fridgeTo_spares h .idleCold) fun _ => h
  · exact h

theorem fridgeFault_spares (c : FridgeCause) : s.Spares i (fridgeFault c t) := by
  have hreleased := ((fridgeTo_spares h .fault).thenGiveUpPlace he).thenReleaseWanted he false
  unfold fridgeFault fridgeStop
  exact ((setProtect_spares hreleased false).modFridge _).modFridge _

theorem fridgeFaultTests_spares : s.Spares i (fridgeFaultTests t) := by
  have hcleared := h.modFridge fun f => { f with cause := none }
  refine .ite (fun _ => .ite (fun _ => h.modFridge _) fun _ => fridgeFault_spares he h .nodeFault) fun _ => .ite (fun _ => ?_) fun _ => h
  exact .ite (fun _ => fridgeTests_spares he (fridgeTo_spares (hcleared.thenRequest he) .idleCold)) fun _ =>
    fridgeTo_spares hcleared .off

theorem fridgeNews_spares : s.Spares i (fridgeNews t) := fridgeChecks_spares he (fridgeFaultTests_spares he h)

end Fridge

end Sys2Proof.Machine
end

section
/-! PROOF. The decisions of SURPLUS and of CUTOFF, entry by entry, and the statement on the night budget's decisions (R67, R97, R100; O50). -/

namespace Sys2Proof.Machine

set_option Elab.async false -- one theorem after another: each would otherwise take a thread with its own large stack

/-! ### A grant, entry by entry (R65) -/

/-- The one valid entry of the heater or of the fridge is the one that its owner deals with (R58). -/
theorem State.OneEach.entryOfKind {s : State} (hone : s.OneEach) {i : Nat} {k : LoadKind} (hk : k ∈ [LoadKind.heater, .fridge])
    (hi : i ∈ s.validEntries) (hik : (s.cfg i).kind = k) : s.entryOfKind k = some i :=
  RosterView.first_eq_of_oneEach (v := s.rosterView) (s.oneEach_iff.mp hone) hk hi hik

theorem State.OneEach.congr {s t : State} (hone : s.OneEach) (h : t.tables = s.tables) : t.OneEach := by
  unfold State.OneEach
  rwa [h]

section Grant
variable {s : State} {i : Nat} (hone : s.OneEach) (hi : i ∈ s.validEntries)
include hone hi

theorem grant_spares : s.Spares i (grant i s) := by
  have hgranted : s.Spares i (s.grantedOn i) := s.modLive_spares i _
  refine .ite (fun _ => ?_) fun _ => .refl s
  rw [← State.grantedOn, tellGranted]
  split
  next hk => exact heaterGranted_spares (hone.entryOfKind (by simp) hi hk) hgranted
  next hk => exact fridgeNews_spares (hone.entryOfKind (by simp) hi hk) hgranted
  next => exact hgranted

/-- A WAITING entry is ON after its grant, the heater's with demand and the fridge's without a node fault (R97, R118, R132). -/
theorem grant_settles (hw : (s.live i).grant = .waiting) (hheater : (s.cfg i).kind = .heater → s.DemandIs true)
    (hfridge : (s.cfg i).kind = .fridge → s.fridgeNodeFault = false) :
    ((grant i s).live i).grant = .on ∧ ((grant i s).live i).reason = .none := by
  cases hk : (s.cfg i).kind with
  | heater => exact grant_heater_on (hone.entryOfKind (by simp) hi hk) hw (hheater hk)
  | fridge => exact grant_fridge_on (hone.entryOfKind (by simp) hi hk) hw (hfridge hk)
  | lights =>
    rw [grant_passive (.inl hk) hw, grantedOn_live hw]
    exact ⟨rfl, rfl⟩
  | outlet =>
    rw [grant_passive (.inr hk) hw, grantedOn_live hw]
    exact ⟨rfl, rfl⟩

end Grant

/-- Neither in SHED nor on the way to it. -/
def Standing.Unshed (x : Standing) : Prop := x.grant ≠ .shed ∧ x.grant ≠ .shedding

/-- An owner does not bring an entry to SHED of itself (R61 to R63). -/
theorem OwnerMoves.unshed {k : LoadKind} {s t : State} (h : OwnerMoves k s t) {j : Nat} (hj : (s.live j).standing.Unshed) :
    (t.live j).standing.Unshed := by
  rw [State.live_standing] at hj ⊢
  refine kept_by_moves (I := fun v => (v.standing j).Unshed) (fun hv hm => ?_) hj h
  refine RosterView.ownerMove_standing (P := Standing.Unshed) hm hv (fun x hx => ?_) (fun x hx => ?_) fun b x hx => ?_
  · cases hg : x.grant <;> simp_all [Standing.Unshed, Standing.requested]
  · cases hg : x.grant <;> simp_all [Standing.Unshed, Standing.stopped]
  · cases hg : x.grant <;> cases b <;> simp_all [Standing.Unshed, Standing.released, Standing.releasedGrant]

/-- A WAITING entry is not in SHED after its grant. -/
theorem grant_not_shed {s : State} {i : Nat} (hw : (s.live i).grant = .waiting) : ((grant i s).live i).grant ≠ .shed := by
  have hon : ((s.grantedOn i).live i).standing.Unshed := by
    rw [grantedOn_live hw]
    exact ⟨Grant.noConfusion, Grant.noConfusion⟩
  have htold : ((tellGranted i (s.grantedOn i)).live i).standing.Unshed := by
    unfold tellGranted
    split
    · exact (heaterGranted_moves _).unshed hon
    · exact (fridgeNews_moves _).unshed hon
    · exact hon
  rw [grant_eq hw]
  exact htold.1

/-! ### Every WAITING entry granted (R97) -/

/-- Grants of other entries leave an entry alone. -/
theorem grantAll_untouched {i : Nat} {is : List Nat} (n : Nat) {s : State} (hone : s.OneEach) (hvalid : ∀ k ∈ is, k ∈ s.validEntries)
    (hi : i ∉ is) : s.Untouched i (grantAll n is s) := by
  induction n generalizing is s with
  | zero => exact .refl s
  | succ n ih =>
    unfold grantAll
    split
    next k hk =>
      have hmem := highest_mem hk
      have hspares := grant_spares hone (hvalid k hmem)
      refine (hspares i fun hik => hi (hik ▸ hmem)).trans (ih (hone.congr hspares.tables) (fun j hj => ?_)
        fun hj => hi (List.mem_of_mem_erase hj))
      rw [State.validEntries_congr hspares.tables]
      exact hvalid j (List.mem_of_mem_erase hj)
    next => exact .refl s

/-- Each entry of the set is granted, in a state that the grants before it have led to. -/
theorem grantAll_reaches {i : Nat} {is : List Nat} {n : Nat} {s : State} (hone : s.OneEach) (hvalid : ∀ k ∈ is, k ∈ s.validEntries)
    (hnd : is.Nodup) (hn : is.length ≤ n) (hi : i ∈ is) : ∃ t, s.Untouched i t ∧ (grant i t).Untouched i (grantAll n is s) := by
  induction n generalizing is s with
  | zero => simp [List.eq_nil_of_length_eq_zero (Nat.le_zero.mp hn)] at hi
  | succ n ih =>
    unfold grantAll
    split
    next k hk =>
      have hmem := highest_mem hk
      have hspares := grant_spares hone (hvalid k hmem)
      have hvalid' (j : Nat) (hj : j ∈ is.erase k) : j ∈ (grant k s).validEntries := by
        rw [State.validEntries_congr hspares.tables]
        exact hvalid j (List.mem_of_mem_erase hj)
      have hone' : (grant k s).OneEach := hone.congr hspares.tables
      by_cases hik : i = k
      · subst hik
        exact ⟨s, .refl s, grantAll_untouched n hone' hvalid' hnd.not_mem_erase⟩
      · have hlen : (is.erase k).length ≤ n := by
          rw [List.length_erase_of_mem hmem]
          omega
        obtain ⟨t, hbefore, hafter⟩ := ih hone' hvalid' (hnd.erase k) hlen ((List.mem_erase_of_ne hik).mpr hi)
        exact ⟨t, (hspares i hik).trans hbefore, hafter⟩
    next hnone => simp [eq_nil_of_highest_none hnone] at hi

/-! ### The decisions of SURPLUS (R97) -/

/-- The part with every WAITING entry granted. -/
def State.allGranted (s : State) : State := grantAll 16 (s.inGrant .waiting) s

theorem State.mem_inGrant {s : State} {g : Grant} {i : Nat} : i ∈ s.inGrant g ↔ i ∈ s.validEntries ∧ (s.live i).grant = g := by
  simp [State.inGrant]

theorem State.inGrant_nodup (s : State) (g : Grant) : (s.inGrant g).Nodup := s.validEntries_nodup.filter _

theorem State.inGrant_length (s : State) (g : Grant) : (s.inGrant g).length ≤ 16 :=
  calc (s.inGrant g).length ≤ s.validEntries.length := List.length_filter_le _ _
    _ ≤ entries.length := List.length_filter_le _ _
    _ = 16 := rfl

section Surplus
variable {s : State} (hone : s.OneEach)
include hone

theorem allGranted_reaches {i : Nat} (hi : i ∈ s.inGrant .waiting) :
    ∃ t, s.Untouched i t ∧ (grant i t).Untouched i s.allGranted ∧ t.OneEach ∧ i ∈ t.validEntries ∧ (t.live i).grant = .waiting := by
  obtain ⟨hvalid, hw⟩ := State.mem_inGrant.mp hi
  obtain ⟨t, hbefore, hafter⟩ := grantAll_reaches hone (fun k hk => (State.mem_inGrant.mp hk).1) (s.inGrant_nodup .waiting)
    (s.inGrant_length .waiting) hi
  exact ⟨t, hbefore, hafter, hone.congr hbefore.tables, State.validEntries_congr hbefore.tables ▸ hvalid,
    (Live.kept_eq hbefore.kept).1.trans hw⟩

theorem allGranted_untouched {i : Nat} (hi : i ∉ s.inGrant .waiting) : s.Untouched i s.allGranted :=
  grantAll_untouched 16 hone (fun _ hk => (State.mem_inGrant.mp hk).1) hi

theorem allGranted_tables : s.allGranted.tables = s.tables :=
  (allGranted_untouched hone (i := 16) fun h => by
    have hlt := (State.mem_inGrant.mp h).1
    simp [State.validEntries, entries] at hlt).tables

theorem allGranted_waiting {i : Nat} (hi : i ∈ s.inGrant .waiting) (hheater : (s.cfg i).kind = .heater → s.DemandIs true)
    (hfridge : (s.cfg i).kind = .fridge → s.fridgeNodeFault = false) :
    (s.allGranted.live i).grant = .on ∧ (s.allGranted.live i).reason = .none := by
  obtain ⟨t, hbefore, hafter, hone', hvalid, hw⟩ := allGranted_reaches hone hi
  have hcfg := State.cfg_congr hbefore.tables i
  obtain ⟨hgrant, -, -, hreason, -⟩ := Live.kept_eq hafter.kept
  rw [hgrant, hreason]
  refine grant_settles hone' hvalid hw (fun hk => ?_) fun hk => ?_
  · rw [hcfg] at hk
    exact hbefore.demandIs (hone.entryOfKind (by simp) (State.mem_inGrant.mp hi).1 hk) (hheater hk)
  · have hnode : t.fridgeNodeFault = s.fridgeNodeFault := by
      simp only [State.fridgeNodeFault, State.fridgeNode, State.nodeOf_congr hbefore.nodes hbefore.tables]
    rw [hnode]
    exact hfridge (hcfg ▸ hk)

/-- The grants bring no entry to SHED and none out of it. -/
theorem allGranted_shed : s.allGranted.inGrant .shed = s.inGrant .shed := by
  have htables := allGranted_tables hone
  simp only [State.inGrant, State.validEntries_congr htables]
  refine List.filter_congr fun j hj => decide_eq_decide.mpr ?_
  by_cases hmem : j ∈ s.inGrant .waiting
  · obtain ⟨t, -, hafter, -, -, hw⟩ := allGranted_reaches hone hmem
    rw [(Live.kept_eq hafter.kept).1, (State.mem_inGrant.mp hmem).2]
    simp [grant_not_shed hw]
  · rw [(Live.kept_eq (allGranted_untouched hone hmem).kept).1]

theorem allGranted_shed_kept {j : Nat} (hj : j ∈ s.inGrant .shed) : (s.allGranted.live j).kept = (s.live j).kept :=
  (allGranted_untouched hone fun hw =>
    Grant.noConfusion ((State.mem_inGrant.mp hw).2.symm.trans (State.mem_inGrant.mp hj).2)).kept

theorem allGranted_highest : s.allGranted.highest (s.inGrant .shed) = s.highest (s.inGrant .shed) :=
  State.highest_congr fun j hj => by
    obtain ⟨-, -, -, -, hwork⟩ := Live.kept_eq (allGranted_shed_kept hone hj)
    exact hwork

theorem decideSurplus_none (h : s.highest (s.inGrant .shed) = none) : decideSurplus s = s.allGranted := by
  have hmatch := (allGranted_highest hone).trans h
  rw [← allGranted_shed hone, State.allGranted] at hmatch
  simp only [decideSurplus, hmatch]
  rfl

theorem decideSurplus_some {i : Nat} (h : s.highest (s.inGrant .shed) = some i) : decideSurplus s = restore i s.allGranted := by
  have hmatch := (allGranted_highest hone).trans h
  rw [← allGranted_shed hone, State.allGranted] at hmatch
  simp only [decideSurplus, hmatch]
  rfl

/-- The restore of SURPLUS leaves what is not in SHED. -/
theorem decideSurplus_live {j : Nat} (hj : s.highest (s.inGrant .shed) ≠ some j) : (decideSurplus s).live j = s.allGranted.live j := by
  cases h : s.highest (s.inGrant .shed) with
  | none => rw [decideSurplus_none hone h]
  | some i => rw [decideSurplus_some hone h, restore_live_ne fun hij => hj (h.trans (congrArg some hij))]

theorem surplus_grants {i : Nat} (hi : i ∈ s.inGrant .waiting) (hheater : (s.cfg i).kind = .heater → s.DemandIs true)
    (hfridge : (s.cfg i).kind = .fridge → s.fridgeNodeFault = false) :
    ((decideSurplus s).live i).grant = .on ∧ ((decideSurplus s).live i).reason = .none := by
  rw [decideSurplus_live hone fun h =>
    Grant.noConfusion ((State.mem_inGrant.mp hi).2.symm.trans (State.mem_inGrant.mp (highest_mem h)).2)]
  exact allGranted_waiting hone hi hheater hfridge

theorem surplus_restores {i : Nat} (h : s.highest (s.inGrant .shed) = some i) :
    ((decideSurplus s).live i).grant = .waiting ∧ ((decideSurplus s).live i).reason = .none ∧
      (decideSurplus s).notices.flags.getLsbD 7 = true ∧
      ∀ j ∈ s.inGrant .shed, j ≠ i → ((decideSurplus s).live j).grant = .shed ∧ ((decideSurplus s).live j).reason = (s.live j).reason := by
  have hshed : (s.allGranted.live i).grant = .shed := by
    rw [(Live.kept_eq (allGranted_shed_kept hone (highest_mem h))).1]
    exact (State.mem_inGrant.mp (highest_mem h)).2
  have hentry := restore_live_self hshed
  refine ⟨?_, ?_, ?_, fun j hj hne => ?_⟩
  · rw [decideSurplus_some hone h, hentry]
  · rw [decideSurplus_some hone h, hentry]
  · rw [decideSurplus_some hone h, restore, if_pos hshed]
    exact raise_flag_self .loadShed _ _
  · obtain ⟨hgrant, -, -, hreason, -⟩ := Live.kept_eq (allGranted_shed_kept hone hj)
    rw [decideSurplus_live hone fun heq => hne (Option.some.inj (heq.symm.trans h)), hgrant, hreason]
    exact ⟨(State.mem_inGrant.mp hj).2, rfl⟩

end Surplus

/-! ### One entry in an emergency shed (R67) -/

/-- Nobody has a surge place. -/
def State.NoPlaces (s : State) : Prop := s.roster.holder = none ∧ s.roster.queue = []

theorem State.noPlaces_iff {s : State} : s.NoPlaces ↔ s.rosterView.slot = 0 := by
  cases hh : s.roster.holder <;> simp [State.NoPlaces, RosterView.slot, State.rosterView, hh]

/-- Between `s` and `t` of the roster only the entries of `is` have been dealt with, and nobody has come to have a surge place. -/
structure State.ShedsOnly (is : List Nat) (s t : State) : Prop where
  tables : t.tables = s.tables
  nodes : t.nodes = s.nodes
  signals : t.signals = s.signals
  live : ∀ j, j ∉ is → t.live j = s.live j
  places : s.NoPlaces → t.NoPlaces
  heater : (∀ i ∈ is, (s.cfg i).kind ≠ .heater) → t.heater = s.heater
  flag : s.notices.flags.getLsbD 7 = true → t.notices.flags.getLsbD 7 = true

namespace State.ShedsOnly
variable {is js : List Nat} {s t u : State}

theorem refl (s : State) : s.ShedsOnly is s := ⟨rfl, rfl, rfl, fun _ _ => rfl, id, fun _ => rfl, id⟩

theorem trans (h : s.ShedsOnly is t) (k : t.ShedsOnly js u) : s.ShedsOnly (is ++ js) u where
  tables := k.tables.trans h.tables
  nodes := k.nodes.trans h.nodes
  signals := k.signals.trans h.signals
  live j hj := (k.live j fun hm => hj (List.mem_append_right is hm)).trans (h.live j fun hm => hj (List.mem_append_left js hm))
  places hp := k.places (h.places hp)
  heater hk := (k.heater fun i hi => State.cfg_congr h.tables i ▸ hk i (List.mem_append_right is hi)).trans
    (h.heater fun i hi => hk i (List.mem_append_left js hi))
  flag hf := k.flag (h.flag hf)

theorem mono (h : s.ShedsOnly is t) (hs : is ⊆ js) : s.ShedsOnly js t :=
  { h with
    live := fun j hj => h.live j fun hm => hj (hs hm)
    heater := fun hk => h.heater fun i hi => hk i (hs hi) }

end State.ShedsOnly

theorem State.modLive_shedsOnly (i : Nat) (f : Live → Live) (s : State) : s.ShedsOnly [i] (s.modLive i f) where
  tables := rfl
  nodes := rfl
  signals := rfl
  live _ hj := State.live_modLive_ne (fun hij => hj (List.mem_singleton.mpr hij.symm)) f
  places := id
  heater _ := rfl
  flag := id

theorem raiseLoadShed_shedsOnly (i : Nat) (s : State) : s.ShedsOnly [] (raiseLoadShed false i s) where
  tables := by simp [raiseLoadShed]
  nodes := by simp [raiseLoadShed]
  signals := by simp [raiseLoadShed]
  live j _ := raiseLoadShed_live false i j s
  places hp := by simpa [State.NoPlaces, raiseLoadShed] using hp
  heater _ := by simp [raiseLoadShed]
  flag _ := raise_flag_self .loadShed _ _

/-- The heater told of a shed asks for no slot: its entry is not in ON and does not come back to it. -/
theorem heaterShed_noPlaces {s : State} {i : Nat} (he : s.entryOfKind .heater = some i) (hg : (s.live i).grant = .shedding)
    (hp : s.NoPlaces) : (heaterShed s).NoPlaces := by
  have hoff : s.rosterView.OffAt i := by simp [RosterView.OffAt, hg]
  have hkept : (heaterShed s).rosterView.table = s.rosterView.table ∧ (heaterShed s).rosterView.OffAt i ∧
      (heaterShed s).rosterView.slot = 0 := by
    refine kept_by_moves (I := fun v => v.table = s.rosterView.table ∧ v.OffAt i ∧ v.slot = 0) (fun {v w} hv hm => ?_)
      ⟨rfl, hoff, State.noPlaces_iff.mp hp⟩ (heaterShed_moves s)
    obtain ⟨htable, hoffv, hslot⟩ := hv
    refine ⟨(RosterView.ownerMove_table hm).trans htable, hoffv.ownerMove hm, ?_⟩
    cases hm with
    | request | stop | release => exact hslot
    | leave _ hw => exact Multiset.le_zero.mp (hslot ▸ hw.le)
    | free hw => exact Multiset.le_zero.mp (hslot ▸ hw.le)
    | ask hfirst hon =>
      rw [RosterView.first_congr htable, ← State.entryOfKind_eq_view, he] at hfirst
      exact absurd (Option.some.inj hfirst ▸ hon) hoffv.1
  exact State.noPlaces_iff.mpr hkept.2.2

theorem heaterShed_notices (s : State) : (heaterShed s).notices = s.notices := by simp

/-- The part as the owner of an entry in ON finds it in an emergency: the entry in SHEDDING, the notice raised. -/
def State.emergencyTold (s : State) (i : Nat) : State :=
  raiseLoadShed false i (s.modLive i fun l => { l with grant := .shedding, reason := .emergency })

section Emergency
variable {s : State} {i : Nat}

theorem emergencyOne_of_on (hon : (s.live i).grant = .on) : emergencyOne i s = tellShed i (s.emergencyTold i) := by
  simp only [emergencyOne, hon]
  rfl

theorem emergencyTold_shedsOnly : s.ShedsOnly [i] (s.emergencyTold i) := (s.modLive_shedsOnly i _).trans (raiseLoadShed_shedsOnly i _)

theorem emergencyTold_live (hon : (s.live i).grant = .on) :
    (s.emergencyTold i).live i = { s.live i with grant := .shedding, reason := .emergency } := by
  rw [State.emergencyTold, raiseLoadShed_live, State.live_modLive_self (by simp [hon])]

theorem emergencyTold_flag : (s.emergencyTold i).notices.flags.getLsbD 7 = true := raise_flag_self .loadShed _ _

/-- The heater told of the shed of its entry deals with that entry only. -/
theorem heaterShed_shedsOnly (he : s.entryOfKind .heater = some i) (hg : (s.live i).grant = .shedding) :
    s.ShedsOnly [i] (heaterShed s) := by
  have hspares := heaterShed_spares he (.refl s)
  have hother := hspares (i + 1) (Nat.succ_ne_self i)
  exact
    { tables := hother.tables
      nodes := hother.nodes
      signals := hother.signals
      live := fun j hj => by
        have hji : j ≠ i := fun hij => hj (List.mem_singleton.mpr hij)
        exact (hspares j hji).live fun he' => hji (Option.some.inj (he'.symm.trans he))
      places := heaterShed_noPlaces he hg
      heater := fun hk => absurd (State.cfg_kind_of_entryOfKind he) (hk i (List.mem_singleton.mpr rfl))
      flag := fun hf => by rwa [heaterShed_notices] }

theorem stopComplete_shedsOnly (i : Nat) (s : State) : s.ShedsOnly [i] (stopComplete i s) := s.modLive_shedsOnly i _

theorem fridgeShed_shedsOnly (he : s.entryOfKind .fridge = some i) : s.ShedsOnly [i] (fridgeShed s) := by
  have hanswered : s.ShedsOnly [] (s.modFridge fun _ => s.fridgeAnswered) := ⟨rfl, rfl, rfl, fun _ _ => rfl, id, fun _ => rfl, id⟩
  rw [fridgeShed_eq he]
  exact hanswered.trans (stopComplete_shedsOnly i _)

variable (hone : s.OneEach) (hi : i ∈ s.validEntries)
include hone hi

theorem tellShed_shedsOnly (hg : (s.live i).grant = .shedding) : s.ShedsOnly [i] (tellShed i s) := by
  unfold tellShed
  split
  next hk => exact heaterShed_shedsOnly (hone.entryOfKind (by simp) hi hk) hg
  next hk => exact fridgeShed_shedsOnly (hone.entryOfKind (by simp) hi hk)
  next => exact stopComplete_shedsOnly i s
  next => exact stopComplete_shedsOnly i s

theorem emergencyOne_shedsOnly : s.ShedsOnly [i] (emergencyOne i s) := by
  have htold := emergencyTold_shedsOnly (s := s) (i := i)
  cases hg : (s.live i).grant with
  | on =>
    rw [emergencyOne_of_on hg]
    have htell := tellShed_shedsOnly (i := i) (hone.congr htold.tables) (State.validEntries_congr htold.tables ▸ hi)
      (by rw [emergencyTold_live hg])
    exact (htold.trans htell).mono (by simp)
  | waiting =>
    simp only [emergencyOne, hg]
    exact (s.modLive_shedsOnly i _).trans (raiseLoadShed_shedsOnly i _)
  | shed =>
    simp only [emergencyOne, hg]
    exact s.modLive_shedsOnly i _
  | idle | stopping | shedding =>
    simp only [emergencyOne, hg]
    exact .refl s

end Emergency

/-! ### The emergency shed as a whole (R67, R100) -/

theorem State.OneEach.forEach_shedsOnly {s : State} (hone : s.OneEach) {is : List Nat} (hvalid : ∀ i ∈ is, i ∈ s.validEntries) :
    s.ShedsOnly is (s.forEach is emergencyOne) := by
  unfold State.forEach
  induction is generalizing s with
  | nil => exact .refl s
  | cons k ks ih =>
    have hfirst := emergencyOne_shedsOnly hone (hvalid k List.mem_cons_self)
    refine hfirst.trans (ih (hone.congr hfirst.tables) fun j hj => ?_)
    rw [State.validEntries_congr hfirst.tables]
    exact hvalid j (List.mem_cons_of_mem k hj)

/-- An entry of the set is dealt with once, between two sets of others. -/
theorem State.OneEach.forEach_reaches {s : State} (hone : s.OneEach) {is : List Nat} (hvalid : ∀ i ∈ is, i ∈ s.validEntries)
    (hnd : is.Nodup) {i : Nat} (hi : i ∈ is) :
    ∃ u before after, s.ShedsOnly before u ∧ (emergencyOne i u).ShedsOnly after (s.forEach is emergencyOne) ∧
      i ∉ before ∧ i ∉ after ∧ before ⊆ is ∧ after ⊆ is := by
  obtain ⟨before, after, rfl⟩ := List.append_of_mem hi
  have hnot : i ∉ before ∧ i ∉ after := by simpa using (List.nodup_middle.mp hnd).notMem
  have hbefore : before ⊆ before ++ i :: after := by simp
  have hafter : after ⊆ before ++ i :: after := by simp
  set u := s.forEach before emergencyOne with hu
  have hfirst : s.ShedsOnly before u := hone.forEach_shedsOnly fun j hj => hvalid j (hbefore hj)
  have hentry := emergencyOne_shedsOnly (hone.congr hfirst.tables) (State.validEntries_congr hfirst.tables ▸ hvalid i hi)
  have htables := hentry.tables.trans hfirst.tables
  have hrest : (emergencyOne i u).ShedsOnly after ((emergencyOne i u).forEach after emergencyOne) :=
    (hone.congr htables).forEach_shedsOnly fun j hj => State.validEntries_congr htables ▸ hvalid j (hafter hj)
  have hall : s.forEach (before ++ i :: after) emergencyOne = (emergencyOne i u).forEach after emergencyOne := by
    simp [hu, State.forEach]
  exact ⟨u, before, after, hfirst, hall ▸ hrest, hnot.1, hnot.2, hbefore, hafter⟩

/-- The part with its surge places given up (R67). -/
def State.placesEmptied (s : State) : State := s.modRoster fun r => { r with queue := [], holder := none }

/-- The entries that an emergency shed deals with, in its order. -/
def State.emergencyEntries (s : State) : List Nat := s.inGrant .on ++ (s.inGrant .waiting ++ s.inGrant .shed)

theorem emergencyShed_eq (s : State) : emergencyShed s = s.placesEmptied.forEach s.emergencyEntries emergencyOne := by
  simp only [emergencyShed, State.emergencyEntries, State.forEach, List.foldl_append]
  rfl

theorem State.mem_emergencyEntries {s : State} {i : Nat} :
    i ∈ s.emergencyEntries ↔ i ∈ s.validEntries ∧
      ((s.live i).grant = .on ∨ (s.live i).grant = .waiting ∨ (s.live i).grant = .shed) := by
  simp only [State.emergencyEntries, List.mem_append, State.mem_inGrant]
  tauto

theorem State.emergencyEntries_nodup (s : State) : s.emergencyEntries.Nodup := by
  have hdisjoint {g g' : Grant} (hg : g ≠ g') : (s.inGrant g).Disjoint (s.inGrant g') := fun i hi hi' =>
    hg ((State.mem_inGrant.mp hi).2.symm.trans (State.mem_inGrant.mp hi').2)
  refine (s.inGrant_nodup .on).append ((s.inGrant_nodup .waiting).append (s.inGrant_nodup .shed) (hdisjoint (by simp))) ?_
  exact List.disjoint_append_right.mpr ⟨hdisjoint (by simp), hdisjoint (by simp)⟩

section Cutoff
variable {s : State} {i : Nat}

/-- One in WAITING or SHED is then in SHED as an emergency's. -/
theorem emergencyOne_live_of_off (hg : (s.live i).grant = .waiting ∨ (s.live i).grant = .shed) :
    ((emergencyOne i s).live i).grant = .shed ∧ ((emergencyOne i s).live i).reason = .emergency := by
  rcases hg with hg | hg
  · simp only [emergencyOne, hg]
    rw [raiseLoadShed_live, State.live_modLive_self (by simp [hg])]
    exact ⟨rfl, rfl⟩
  · simp only [emergencyOne, hg]
    rw [State.live_modLive_self (by simp [hg])]
    exact ⟨hg, rfl⟩

/-- An entry in ON or in WAITING is reported shed (R67). -/
theorem emergencyOne_flag (hone : s.OneEach) (hi : i ∈ s.validEntries) (hg : (s.live i).grant = .on ∨ (s.live i).grant = .waiting) :
    (emergencyOne i s).notices.flags.getLsbD 7 = true := by
  rcases hg with hg | hg
  · have htables := (emergencyTold_shedsOnly (s := s) (i := i)).tables
    rw [emergencyOne_of_on hg]
    exact (tellShed_shedsOnly (hone.congr htables) (State.validEntries_congr htables ▸ hi) (by rw [emergencyTold_live hg])).flag
      emergencyTold_flag
  · simp only [emergencyOne, hg]
    exact raise_flag_self .loadShed _ _

/-- An owner other than the heater's answers at once (R79, R137, R158). -/
theorem emergencyOne_live_of_on (hone : s.OneEach) (hi : i ∈ s.validEntries) (hg : (s.live i).grant = .on) (hw : (s.live i).want = true)
    (hk : (s.cfg i).kind ≠ .heater) :
    ((emergencyOne i s).live i).grant = .shed ∧ ((emergencyOne i s).live i).reason = .emergency := by
  have htold := emergencyTold_live hg
  have htables := (emergencyTold_shedsOnly (s := s) (i := i)).tables
  have hcfg := State.cfg_congr htables i
  have hstop (u : State) (hu : u.live i = (s.emergencyTold i).live i) :
      ((stopComplete i u).live i).grant = .shed ∧ ((stopComplete i u).live i).reason = .emergency := by
    rw [stopComplete_of_shedding (by rw [hu, htold]) (by rw [hu, htold]; exact hw), hu, htold]
    exact ⟨rfl, rfl⟩
  rw [emergencyOne_of_on hg]
  cases hkind : (s.cfg i).kind with
  | heater => exact absurd hkind hk
  | fridge =>
    simp only [tellShed, hcfg, hkind]
    rw [fridgeShed_eq ((State.entryOfKind_congr htables .fridge).trans (hone.entryOfKind (by simp) hi hkind))]
    exact hstop _ rfl
  | lights =>
    rw [tellShed_passive (.inl (hcfg ▸ hkind))]
    exact hstop _ rfl
  | outlet =>
    rw [tellShed_passive (.inr (hcfg ▸ hkind))]
    exact hstop _ rfl

/-- The heater that burns with its node away from IDLE goes to STOPPING, its entry to SHEDDING (R123). -/
theorem emergencyOne_stops (hg : (s.live i).grant = .on) (hk : (s.cfg i).kind = .heater) (hrun : s.heaterRun = true)
    (hd : s.DemandIs true) (hidle : s.heaterIdle = false) :
    ((emergencyOne i s).live i).grant = .shedding ∧ ((emergencyOne i s).live i).reason = .emergency ∧
      (emergencyOne i s).heater.state = .stopping ∧ (emergencyOne i s).heater.purge = some 0 := by
  have htold := emergencyTold_live hg
  have hsheds := emergencyTold_shedsOnly (s := s) (i := i)
  set u := s.emergencyTold i with hu
  have hheater : u.heater = s.heater := by simp [hu, State.emergencyTold, raiseLoadShed, State.modLive, State.modRoster]
  have hkind : (u.cfg i).kind = .heater := State.cfg_congr hsheds.tables i ▸ hk
  have hrunu : u.heaterRun = true := by rwa [State.heaterRun, hheater]
  obtain ⟨hstate, hpurge, hinputs⟩ := heaterStopping_heater u
  obtain ⟨hroster, htables, hnodes, hsignals, -⟩ := heaterStopping_frame u
  have hdemand : u.heaterStopping.DemandIs true :=
    hd.congr (hinputs.trans (by rw [hheater])) (hnodes.trans hsheds.nodes) (hsignals.trans hsheds.signals)
      (htables.trans hsheds.tables)
  have haway : u.heaterStopping.heaterIdle = false := by
    rw [← hidle]
    simp only [State.heaterIdle, State.heaterNode,
      State.nodeOf_congr (hnodes.trans hsheds.nodes) (htables.trans hsheds.tables)]
  obtain ⟨hgrant, -, -, hreason, -⟩ := Live.kept_eq (heaterDuty_kept i u.heaterStopping)
  have hlive := State.live_congr hroster i
  rw [emergencyOne_of_on hg, ← hu, tellShed, hkind]
  dsimp only
  rw [heaterShed_of_stopping (.inl hrunu), heaterRefresh_stopping hdemand hstate haway, hgrant, hreason, hlive, htold]
  exact ⟨rfl, rfl, by simpa using hstate, by simpa [hrunu] using hpurge⟩

end Cutoff

/-- `u` is where an emergency shed between `s` and `t` comes to entry `i`: nothing is done to the entry before
or after. -/
structure State.ComesTo (s : State) (i : Nat) (u t : State) : Prop where
  oneEach : u.OneEach
  valid : i ∈ u.validEntries
  kind : (u.cfg i).kind = (s.cfg i).kind
  frame : u.nodes = s.nodes ∧ u.signals = s.signals ∧ u.tables = s.tables
  before : u.live i = s.live i
  after : t.live i = (emergencyOne i u).live i
  heater : (s.cfg i).kind = .heater → u.heater = s.heater ∧ t.heater = (emergencyOne i u).heater
  flag : (emergencyOne i u).notices.flags.getLsbD 7 = true → t.notices.flags.getLsbD 7 = true

section Cutoff
variable {s : State} (hone : s.OneEach)
include hone

theorem emergencyShed_shedsOnly : s.placesEmptied.ShedsOnly s.emergencyEntries (emergencyShed s) := by
  have hempty : s.placesEmptied.OneEach := hone
  rw [emergencyShed_eq]
  exact hempty.forEach_shedsOnly fun j hj => (State.mem_emergencyEntries.mp hj).1

theorem emergencyShed_comesTo {i : Nat} (hi : i ∈ s.emergencyEntries) : ∃ u, s.ComesTo i u (emergencyShed s) := by
  have hvalid (j : Nat) (hj : j ∈ s.emergencyEntries) : j ∈ s.validEntries := (State.mem_emergencyEntries.mp hj).1
  have hempty : s.placesEmptied.OneEach := hone
  obtain ⟨u, before, after, hbefore, hafter, hnotBefore, hnotAfter, hsub, hsub'⟩ :=
    hempty.forEach_reaches hvalid s.emergencyEntries_nodup hi
  rw [← emergencyShed_eq] at hafter
  have htables : u.tables = s.tables := hbefore.tables
  have honeu := hone.congr htables
  have hvalidu : i ∈ u.validEntries := State.validEntries_congr htables ▸ hvalid i hi
  have hentry := (emergencyOne_shedsOnly honeu hvalidu).tables.trans htables
  have hothers {is : List Nat} (hin : i ∉ is) (his : is ⊆ s.emergencyEntries) (hk : (s.cfg i).kind = .heater) (j : Nat) (hj : j ∈ is) :
      (s.cfg j).kind ≠ .heater := fun hjk => by
    have hej := hone.entryOfKind (by simp) (hvalid j (his hj)) hjk
    rw [hone.entryOfKind (by simp) (hvalid i hi) hk] at hej
    exact hin (Option.some.inj hej ▸ hj)
  exact ⟨u,
    { oneEach := honeu
      valid := hvalidu
      kind := by rw [State.cfg_congr htables]
      frame := ⟨hbefore.nodes, hbefore.signals, htables⟩
      before := hbefore.live i hnotBefore
      after := hafter.live i hnotAfter
      heater := fun hk => ⟨hbefore.heater (hothers hnotBefore hsub hk), hafter.heater fun j hj => by
        rw [State.cfg_congr hentry]
        exact hothers hnotAfter hsub' hk j hj⟩
      flag := hafter.flag }⟩

/-- Nobody has a surge place after an emergency shed. -/
theorem emergencyShed_places : (emergencyShed s).roster.holder = none ∧ (emergencyShed s).roster.queue = [] :=
  (emergencyShed_shedsOnly hone).places ⟨rfl, rfl⟩

/-- What an emergency shed does to a valid entry (R67, R100). -/
theorem emergencyShed_decides {i : Nat} (hi : i ∈ s.validEntries) :
    ((s.live i).grant = .waiting ∨ (s.live i).grant = .shed →
      ((emergencyShed s).live i).grant = .shed ∧ ((emergencyShed s).live i).reason = .emergency) ∧
    ((s.live i).grant = .on → (s.live i).want = true → (s.cfg i).kind ≠ .heater →
      ((emergencyShed s).live i).grant = .shed ∧ ((emergencyShed s).live i).reason = .emergency) ∧
    ((s.live i).grant = .on → (s.cfg i).kind = .heater → s.heaterRun = true → s.heater.demand = true → s.demandNow = true →
      (heaterMarks s).heater = s.heater → s.heaterIdle = false →
      ((emergencyShed s).live i).grant = .shedding ∧ ((emergencyShed s).live i).reason = .emergency ∧
        (emergencyShed s).heater.state = .stopping ∧ (emergencyShed s).heater.purge = some 0) ∧
    ((s.live i).grant = .idle ∨ (s.live i).grant = .stopping ∨ (s.live i).grant = .shedding → (emergencyShed s).live i = s.live i) ∧
    ((s.live i).grant = .on ∨ (s.live i).grant = .waiting → (emergencyShed s).notices.flags.getLsbD 7 = true) := by
  have hcomes (hg : (s.live i).grant = .on ∨ (s.live i).grant = .waiting ∨ (s.live i).grant = .shed) :=
    emergencyShed_comesTo hone (State.mem_emergencyEntries.mpr ⟨hi, hg⟩)
  refine ⟨fun hg => ?_, fun hg hw hk => ?_, fun hg hk hrun hdemand hnow hmarks hidle => ?_, fun hg => ?_, fun hg => ?_⟩
  · obtain ⟨u, hu⟩ := hcomes (.inr hg)
    rw [hu.after]
    exact emergencyOne_live_of_off (by rwa [hu.before])
  · obtain ⟨u, hu⟩ := hcomes (.inl hg)
    rw [hu.after]
    exact emergencyOne_live_of_on hu.oneEach hu.valid (by rwa [hu.before]) (by rwa [hu.before]) (by rwa [hu.kind])
  · obtain ⟨u, hu⟩ := hcomes (.inl hg)
    obtain ⟨hheater, hafter⟩ := hu.heater hk
    obtain ⟨hnodes, hsignals, htables⟩ := hu.frame
    have hd : u.DemandIs true := State.DemandIs.congr ⟨hdemand, hnow, hmarks⟩ (by rw [hheater]) hnodes hsignals htables
    have haway : u.heaterIdle = false := by
      rw [← hidle]
      simp only [State.heaterIdle, State.heaterNode, State.nodeOf_congr hnodes htables]
    rw [hu.after, hafter]
    exact emergencyOne_stops (by rwa [hu.before]) (hu.kind.trans hk) (by rwa [State.heaterRun, hheater]) hd haway
  · refine (emergencyShed_shedsOnly hone).live i fun hmem => ?_
    rcases (State.mem_emergencyEntries.mp hmem).2 with h | h | h <;> simp [h] at hg
  · obtain ⟨u, hu⟩ := hcomes (hg.imp id .inl)
    exact hu.flag (emergencyOne_flag hu.oneEach hu.valid (by rwa [hu.before]))

end Cutoff

/-! ### The statement, clause by clause -/

theorem passive_decides (i : Nat) (s : State) (hk : (s.cfg i).kind = .lights ∨ (s.cfg i).kind = .outlet) :
    ((s.live i).grant = .waiting →
      grant i s = { s with roster := { s.roster with
        live := s.roster.live.modify i fun l => { l with grant := .on, reason := .none } } }) ∧
    ((s.live i).grant = .on → (s.live i).want = true → s.holds i = false → s.queued i = false →
      (budgetShed i s).live i = { s.live i with grant := .shed, reason := .budget } ∧
      (budgetShed i s).notices.flags.getLsbD 7 = true ∧ (∀ j, j ≠ i → (budgetShed i s).live j = s.live j)) :=
  ⟨grant_passive hk, fun hon hw hh _ => budgetShed_passive hk hon hw hh⟩

/-- Settles O50: the ranks by the order they are of, each grant and shed by what the owner does with its entry, and each mode's decisions
from these, an entry at a time. -/
theorem ranksGrantsAndSheds : Obligations.RanksGrantsAndSheds := by
  refine ⟨fun s is hnd => ranks_decide s hnd, fun i s => ⟨fun hw => if_neg hw, passive_decides i s⟩, fun i s he hw hh hq => ?_,
    fun i s he hw hh hq hsound hfault => ?_, fun i s he hon hw hd => ?_, fun i s he hon hw hplace => ?_, normal_and_low_decide,
    fun s d p hone => ?_, fun s d p hone => ?_⟩
  · refine ⟨fun hd => ?_, fun hd hr => grant_heater_withdraws he hw hd hr hh⟩
    obtain ⟨hgrant, hreason⟩ := grant_heater_on he hw hd
    exact ⟨hgrant, hreason, fun hr => ⟨grant_heater_not_ready he hw hd hr,
      fun hready hholder => grant_heater_waits he hw hd hr hready hh hq hholder,
      fun hready hholder hqueue => grant_heater_starts he hw hd hr hready hholder hqueue⟩⟩
  · obtain ⟨hgrant, hreason⟩ := grant_fridge_on he hw hsound
    exact ⟨hgrant, hreason, grant_fridge_idle he hw hsound hfault, fun hs hoff hready =>
      ⟨grant_fridge_waits he hw hsound hs hoff hready hh hq, grant_fridge_cools he hw hsound hs hoff hready⟩⟩
  · refine ⟨budgetShed_heater_flag he hon, fun h => ?_, fun hr hh => budgetShed_requesting he hon hw hd hr hh⟩
    have hstops := budgetShed_stops he hon hw hd h
    cases hidle : s.heaterIdle with
    | false =>
      obtain ⟨hholds, hreason, hwant, hgrant, hstate, hpurge⟩ := hstops.away hidle
      exact ⟨hholds, hreason, hwant, fun _ => ⟨hgrant, hstate, hpurge⟩, fun hn => Bool.noConfusion hn⟩
    | true =>
      obtain ⟨hholds, hreason, hwant, hgrant, hstate, hpurge⟩ := hstops.atIdle hidle
      exact ⟨hholds, hreason, hwant, fun hn => Bool.noConfusion hn, fun _ => ⟨hgrant, hstate, hpurge⟩⟩
  · obtain ⟨hgrant, hreason, hwant, hholds, hflag, hfridge⟩ := budgetShed_fridge_entry he hon hplace hw
    exact ⟨hgrant, hreason, hwant, hholds, hflag, fun hs => hfridge.trans (if_neg hs), fun hs => hfridge.trans (if_pos hs)⟩
  · exact ⟨fun i hi hheater hfridge => surplus_grants hone hi hheater hfridge, fun i hi => surplus_restores hone hi⟩
  · obtain ⟨hholder, hqueue⟩ := emergencyShed_places hone
    exact ⟨hholder, hqueue, fun i hi => emergencyShed_decides hone hi⟩

end Sys2Proof.Machine
end

section
/-! PROOF. The law of R108 in states with more entries than the roster has: a surge place beyond the sixteen breaks it (O15). -/

namespace Sys2Proof.Machine

set_option Elab.async false -- one theorem after another: each would otherwise take a thread with its own large stack

/-- The live part of an entry that is wanted and in ON. -/
def Live.granted : Live := { Live.init Working.init with grant := .on, want := true }

/-- A part whose roster has a place too many: behind the default entries stands entry 16, a valid HEATER entry in ON, and it waits in the
surge queue while the fridge's entry 1 holds the slot. The controller is in REQUESTING, and its own entry 0 is at rest. -/
def State.overfull : State :=
  { State.reset with
    phase := .running
    tables := { defaultTables with roster := defaultRoster ++ [rosterEntry 0 0 12 28 85 90] }
    roster :=
      { Roster.init with
        live := (Roster.init.live ++ [Live.granted]).set 1 Live.granted
        holder := some { entry := 1, limit := 5, elapsed := 5 }
        queue := [{ entry := 16, asked := 0 }] }
    heater := { Heater.init with state := .requesting } }

namespace State.overfull

theorem settled : State.overfull.Settled := by
  unfold State.Settled
  decide +kernel

/-- The premises of the law bind the entries that surge places name, wherever they stand, and the kinds of the first sixteen. -/
theorem slotOk : State.overfull.SlotOk := by
  have hon : ∀ i ∈ [1, 16], (State.overfull.cfg i).valid = true ∧ (State.overfull.live i).grant = .on := by decide +kernel
  refine ⟨fun h hh => ?_, fun p hp => ?_, by decide, fun hn => nomatch hn⟩
  · cases hh
    exact hon 1 (by simp)
  · rw [List.mem_singleton.mp hp]
    exact hon 16 (by simp)

theorem oneEach : State.overfull.OneEach := by
  unfold State.OneEach Tables.OneEach
  decide +kernel

/-- The slot handed over to entry 16 starts the heater. -/
theorem handedOver : surgeLimitExpires State.overfull = enterStarting (State.overfull.headTaken { entry := 16, asked := 0 } []) :=
  (surgeLimitExpires_held rfl).trans (handOver_heater_head rfl (by decide +kernel) rfl)

theorem not_heaterLaw : ¬ (qualify (surgeLimitExpires State.overfull)).HeaterLaw := by
  rw [handedOver]
  unfold State.HeaterLaw
  decide +kernel

end State.overfull

/-- Refutes O15: nothing keeps the surge places to the sixteen entries of the roster. With a seventeenth, a valid HEATER entry in ON in the
surge queue, SURGE_LIMIT_EXPIRY hands it the slot, and RUN is commanded with the heater's entry 0 at rest. -/
theorem not_heaterRunsOnlyWhileOn : ¬ Obligations.HeaterRunsOnlyWhileOn := by
  intro h
  have hstep : step { State.overfull with pending := [.surgeLimitExpiry] } = .next (qualify (surgeLimitExpires State.overfull)) :=
    exec_surgeLimitExpiry State.overfull.settled
  have hheld : State.HeldOk { State.overfull with pending := [.surgeLimitExpiry] } := fun hp => Phase.noConfusion hp
  have hlaw : State.HeaterLaw { State.overfull with pending := [.surgeLimitExpiry] } := fun hr => Bool.noConfusion hr
  exact State.overfull.not_heaterLaw (h _ _ hheld State.overfull.slotOk State.overfull.oneEach hlaw hstep)

end Sys2Proof.Machine
end

section
/-! PROOF. A refresh of the heater that stops nothing: what it finds to do and where it rests (R115 to R126), and IGNITION_TIMEOUT, which
fails a start (R119; O54). -/

namespace Sys2Proof.Machine

set_option Elab.async false -- one theorem after another: each would otherwise take a thread with its own large stack

/-! ### Refreshes that command no stop (R115, R116) -/

section Refresh
variable {s : State}

/-- The end of demand says nothing to a controller that neither asks, runs nor waits for a stop (R115). -/
theorem demandEnds_other (h : s.heater.state = .off ∨ s.heater.state = .retryWait ∨ s.heater.state = .lockout) : demandEnds s = s := by
  unfold demandEnds
  rcases h with h | h | h <;> rw [h]

/-- With STOP commanded and no end of demand to act on, a refresh makes the tests alone. -/
theorem heaterRefresh_of_stopped (hrun : s.heaterRun = false)
    (h : (heaterMarks s).demandNow = s.heater.demand ∨ demandEnds s.remarked = s.remarked) :
    heaterRefresh s = heaterDuty (heaterTests s.remarked) := by
  have hheld : (heaterMarks s).heater.demand = s.heater.demand := rfl
  have hlevel : takeLevel s.remarked = s.remarked := takeLevel_of_stopped hrun
  have hended : (if ((heaterMarks s).heater.demand && !(heaterMarks s).demandNow) = true then demandEnds s.remarked
      else s.remarked) = s.remarked := by
    split
    next hc => exact h.resolve_left fun hd => by simp [hheld, hd] at hc
    next => rfl
  rw [heaterRefresh_eq, hended, hlevel]

/-- A refresh that has nothing to do: STOP is commanded, no demand ends that the controller would act on, and the tests find nothing. -/
structure State.HeaterRests (s : State) : Prop where
  run : s.heaterRun = false
  ends : (heaterMarks s).demandNow = s.heater.demand ∨ demandEnds s.remarked = s.remarked
  tests : heaterTests s.remarked = s.remarked

theorem State.HeaterRests.refresh (h : s.HeaterRests) : heaterRefresh s = heaterDuty s.remarked := by
  rw [heaterRefresh_of_stopped h.run h.ends, h.tests]

theorem State.HeaterRests.heater (h : s.HeaterRests) : (heaterRefresh s).heater = s.remarked.heater := by
  rw [h.refresh]
  simp

/-- It leaves the state, the timers and the purge outstanding. -/
theorem State.HeaterRests.keeps (h : s.HeaterRests) :
    (heaterRefresh s).heater.state = s.heater.state ∧ (heaterRefresh s).heater.purge = s.heater.purge ∧
      (heaterRefresh s).heater.ignition = s.heater.ignition ∧ (heaterRefresh s).heater.levelHold = s.heater.levelHold ∧
      (heaterRefresh s).heater.purgeOutstanding = s.heater.purgeOutstanding := by
  rw [h.heater]
  exact ⟨rfl, rfl, rfl, rfl, rfl⟩

theorem State.HeaterRests.grant (h : s.HeaterRests) (j : Nat) : ((heaterRefresh s).live j).grant = (s.live j).grant := by
  rw [h.refresh]
  exact (Live.kept_eq (heaterDuty_kept j s.remarked)).1

/-! ### Where a refresh rests (R118, R120, R126) -/

/-- In RETRY_WAIT away from IDLE the purge goes on (R120). -/
theorem heaterRests_of_retryWait (hs : s.heater.state = .retryWait) (hidle : s.heaterIdle = false) : s.HeaterRests where
  run := heaterRun_false (by simp [hs]) (by simp [hs])
  ends := .inr (demandEnds_other (.inr (.inl hs)))
  tests := heaterTests_calm (.inr (.inr (.inl ⟨hs, hidle⟩)))

/-- In LOCKOUT a purge that is not outstanding, or not at IDLE, is left (R126). -/
theorem heaterRests_of_lockout (hs : s.heater.state = .lockout) (h : s.heaterIdle = false ∨ s.heater.purgeOutstanding = false) :
    s.HeaterRests where
  run := heaterRun_false (by simp [hs]) (by simp [hs])
  ends := .inr (demandEnds_other (.inr (.inr hs)))
  tests := heaterTests_calm (.inr (.inr (.inr ⟨hs, h⟩)))

/-- A refresh never ends LOCKOUT (R126). -/
theorem heaterRefresh_lockout_state (hs : s.heater.state = .lockout) : (heaterRefresh s).heater.state = .lockout := by
  by_cases h : s.heaterIdle = false ∨ s.heater.purgeOutstanding = false
  · rw [(heaterRests_of_lockout hs h).keeps.1, hs]
  · simp only [not_or, Bool.not_eq_false] at h
    have hrun : s.heaterRun = false := heaterRun_false (by simp [hs]) (by simp [hs])
    have htests : (heaterTests s.remarked).heater = { s.remarked.heater with purge := none, purgeOutstanding := false } :=
      heaterTests_lockout hs h.1 h.2
    rw [heaterRefresh_of_stopped hrun (.inr (demandEnds_other (.inr (.inr hs))))]
    simp only [heaterDuty_frame, htests]
    exact hs

end Refresh

/-! ### IGNITION_TIMEOUT (R119) -/

theorem exec_ignitionTimeout {s : State} {n : Nat} (hs : s.Settled) (hst : s.heater.state = .starting) (hn : s.heater.ignition = some n) :
    exec .ignitionTimeout s = .next (qualify (heaterRefresh (heaterFails false s))) := by
  have he : exec .ignitionTimeout s = .next (external (fun t => whenRuns t.heater.ignition ignitionExpires t) s) := rfl
  rw [he, external_settled hs]
  simp [whenRuns, hn, ignitionExpires, hst]

theorem heaterFails_failedStarts (nodeFault : Bool) (s : State) :
    (heaterFails nodeFault s).ret.failedStarts = min 3 (s.ret.failedStarts + 1) := by
  rcases Nat.lt_or_ge s.ret.failedStarts 2 with h | h
  · simp [heaterFails_early s nodeFault h]
  · obtain ⟨-, hret, -⟩ := heaterFails_third s nodeFault h
    have hthree : min 3 (s.ret.failedStarts + 1) = 3 := by omega
    rw [hret, hthree]

/-- The third failure is LOCKOUT, latched, whatever the refresh then finds (R119, R126). -/
theorem heaterFails_refreshed_third {s : State} (nodeFault : Bool) (h : 2 ≤ s.ret.failedStarts) :
    (heaterRefresh (heaterFails nodeFault s)).heater.state = .lockout ∧
      (heaterRefresh (heaterFails nodeFault s)).ret.lockout = true ∧
      (heaterRefresh (heaterFails nodeFault s)).notices.flags.getLsbD 1 = true := by
  obtain ⟨hheater, hret, hflag⟩ := heaterFails_third s nodeFault h
  refine ⟨heaterRefresh_lockout_state (by rw [hheater]; rfl), by simp [hret], by simpa using hflag⟩

/-- Before it, away from IDLE, the controller purges in RETRY_WAIT (R119, R120). -/
theorem heaterFails_refreshed_early {s : State} (nodeFault : Bool) (h : s.ret.failedStarts < 2) (hidle : s.heaterIdle = false) :
    (heaterRefresh (heaterFails nodeFault s)).heater.state = .retryWait ∧
      (heaterRefresh (heaterFails nodeFault s)).heater.purge = some 0 ∧
      (heaterRefresh (heaterFails nodeFault s)).heater.ignition = none ∧
      (heaterRefresh (heaterFails nodeFault s)).heater.levelHold = none := by
  have hheater : (heaterFails nodeFault s).heater = { leaveRun .retryWait s.heater with purge := some 0 } := by
    rw [heaterFails_early s nodeFault h, failing_heater]
  have haway : (heaterFails nodeFault s).heaterIdle = false := (State.heaterIdle_congr (by simp) (by simp)).trans hidle
  have hrests : (heaterFails nodeFault s).HeaterRests := heaterRests_of_retryWait (by rw [hheater]; rfl) haway
  obtain ⟨hstate, hpurge, hignition, hhold, -⟩ := hrests.keeps
  rw [hstate, hpurge, hignition, hhold, hheater]
  exact ⟨rfl, rfl, rfl, rfl⟩

theorem heaterFails_refreshed_onlyIn (nodeFault : Bool) (s : State) :
    s.OnlyIn [.bus, .roster, .heater, .fridge, .notices, .power, .ret] (heaterRefresh (heaterFails nodeFault s)) := by
  intro b hb
  cases b <;> simp_all [Block.Same]

/-- Settles O54: the failure counted, then a refresh that leaves LOCKOUT, and RETRY_WAIT away from IDLE, as they are. -/
theorem ignitionTimeoutFailsTheStart : Obligations.IgnitionTimeoutFailsTheStart := by
  intro s n hs hst hn
  refine ⟨_, exec_ignitionTimeout hs hst hn, ?_, fun h => ?_, fun h hidle => ?_,
    (heaterFails_refreshed_onlyIn false s).qualify (by simp)⟩
  · simpa using heaterFails_failedStarts false s
  · simpa using heaterFails_refreshed_third false h
  · simpa [heaterFails_early s false h] using heaterFails_refreshed_early false h hidle

end Sys2Proof.Machine
end

section
/-! PROOF. What a refresh leaves of the window's end and of a purge timer that is stopped, and where it rests with the heater's entry off
(R114, R118, R124; O55). -/

namespace Sys2Proof.Machine

set_option Elab.async false -- one theorem after another: each would otherwise take a thread with its own large stack

/-! ### The mark of the window's end, and a purge timer that is stopped -/

/-- The mark of the window's end stays, and a purge timer that is stopped is not started. -/
structure Heater.Quiet (h h' : Heater) : Prop where
  windowDue : h'.windowDue = h.windowDue
  purge : h.purge = none → h'.purge = none

namespace Heater.Quiet

variable {h h' h'' : Heater}

theorem trans (k : h.Quiet h') (k' : h'.Quiet h'') : h.Quiet h'' :=
  ⟨k'.windowDue.trans k.windowDue, fun hp => k'.purge (k.purge hp)⟩

theorem of_mayStart (k : h.MayStart h') : h.Quiet h' := by
  rcases k with rfl | ⟨-, l, rfl⟩ <;> exact ⟨rfl, id⟩

end Heater.Quiet

section Refresh
variable (s : State)

theorem onEntry_quiet {k : LoadKind} {f : Nat → State → State} (h : ∀ i (t : State), t.heater.MayStart (f i t).heater) :
    s.heater.Quiet (onEntry k f s).heater := .of_mayStart (onEntry_mayStart h s)

theorem heaterAsk_quiet : s.heater.Quiet (heaterAsk s).heater := by
  unfold heaterAsk
  split
  · exact onEntry_quiet s askSlot_heater
  · exact ⟨rfl, id⟩

theorem heaterStart_quiet : s.heater.Quiet (heaterStart s).heater := by
  unfold heaterStart
  split
  · exact (onEntry_quiet s fun i t => .inl (by simp)).trans ⟨rfl, id⟩
  · exact ⟨rfl, id⟩

theorem endStopping_quiet : s.heater.Quiet (endStopping s).heater := by
  have hstart : s.heater.Quiet (s.modHeater fun h => { h with purge := none }).heater := ⟨rfl, fun _ => rfl⟩
  have hrequest (t : State) : t.heater.Quiet (onEntry .heater request t).heater := onEntry_quiet t fun _ _ => .inl (by simp)
  have hstop (t : State) : t.heater.Quiet (onEntry .heater stopComplete t).heater := onEntry_quiet t fun _ _ => .inl (by simp)
  simp only [endStopping]
  split
  · exact (hstart.trans (hrequest _)).trans ⟨rfl, id⟩
  · exact (hstart.trans (hstop _)).trans ⟨rfl, id⟩
  · split
    · exact (hstart.trans (hstop _)).trans ⟨rfl, id⟩
    · exact ((hstart.trans (hstop _)).trans (hrequest _)).trans ⟨rfl, id⟩
  · exact (hstart.trans (onEntry_quiet _ (release_heater false))).trans ⟨rfl, id⟩
  · exact hstart.trans ⟨rfl, id⟩

theorem endRetry_quiet : s.heater.Quiet (endRetry s).heater := by
  have hstart : s.heater.Quiet (s.modHeater fun h => { h with purge := none }).heater := ⟨rfl, fun _ => rfl⟩
  simp only [endRetry]
  split
  · exact hstart.trans ⟨rfl, id⟩
  · exact (hstart.trans (onEntry_quiet _ (release_heater false))).trans ⟨rfl, id⟩

theorem endLockoutPurge_quiet : s.heater.Quiet (endLockoutPurge s).heater :=
  (onEntry_quiet s fun i t => .inl (by simp)).trans ⟨rfl, fun _ => rfl⟩

theorem heaterAtIdle_quiet : s.heater.Quiet (heaterAtIdle s).heater := by
  unfold heaterAtIdle
  split
  · split
    · exact endStopping_quiet s
    · exact endRetry_quiet s
    · split
      · exact endLockoutPurge_quiet s
      · exact ⟨rfl, id⟩
    · exact ⟨rfl, id⟩
  · exact ⟨rfl, id⟩

theorem heaterTests_quiet : s.heater.Quiet (heaterTests s).heater :=
  ((heaterAtIdle_quiet s).trans (heaterStart_quiet _)).trans (heaterAsk_quiet _)

theorem takeLevel_quiet : s.heater.Quiet (takeLevel s).heater := by
  unfold takeLevel
  split
  · split <;> exact ⟨rfl, id⟩
  · exact ⟨rfl, id⟩

/-- The end of demand starts the purge timer where RUN is commanded, and only there (R121). -/
theorem demandEnds_quiet : (demandEnds s).heater.windowDue = s.heater.windowDue ∧
    (s.heaterRun = false → s.heater.Quiet (demandEnds s).heater) := by
  have hreleased (t : State) := onEntry_quiet (k := .heater) t (release_heater true)
  unfold demandEnds
  split
  · have hquiet := (onEntry_quiet (k := .heater) s (release_heater false)).trans
      (h'' := { (onEntry .heater (release false) s).heater with state := .off }) ⟨rfl, id⟩
    exact ⟨hquiet.windowDue, fun _ => hquiet⟩
  next hs => exact ⟨(hreleased (commandStop .stopping s)).windowDue, fun hrun => by simp [State.heaterRun, hs] at hrun⟩
  next hs => exact ⟨(hreleased (commandStop .stopping s)).windowDue, fun hrun => by simp [State.heaterRun, hs] at hrun⟩
  · have hquiet := onEntry_quiet (k := .heater) (f := fun i t => if (t.live i).want then release true i t else t) s fun i t => by
      split
      · exact release_heater true i t
      · exact .inl rfl
    exact ⟨hquiet.windowDue, fun _ => hquiet⟩
  · exact ⟨rfl, fun _ => ⟨rfl, id⟩⟩

/-- The level, the tests and the duty at the end of a refresh. -/
theorem refreshed_quiet (t : State) : t.heater.Quiet (heaterDuty (heaterTests (takeLevel t))).heater := by
  have hduty : (heaterDuty (heaterTests (takeLevel t))).heater = (heaterTests (takeLevel t)).heater := by simp
  rw [hduty]
  exact (takeLevel_quiet t).trans (heaterTests_quiet _)

theorem heaterRefresh_windowDue : (heaterRefresh s).heater.windowDue = s.heater.windowDue := by
  rw [heaterRefresh_eq, (refreshed_quiet _).windowDue]
  split
  · exact (demandEnds_quiet s.remarked).1
  · rfl

/-- Where RUN is not commanded a refresh starts no purge. -/
theorem heaterRefresh_purge {s : State} (hrun : s.heaterRun = false) (hp : s.heater.purge = none) :
    (heaterRefresh s).heater.purge = none := by
  rw [heaterRefresh_eq]
  refine (refreshed_quiet _).purge ?_
  split
  · exact ((demandEnds_quiet s.remarked).2 hrun).purge hp
  · exact hp

end Refresh

end Sys2Proof.Machine
end

section
/-! PROOF. PURGE_LIMIT, and how each stop ends (R122 to R126, R196; O55). -/

namespace Sys2Proof.Machine

set_option Elab.async false -- one theorem after another: each would otherwise take a thread with its own large stack

/-! ### Where a refresh rests with the heater's entry out of ON (R118) -/

section Rests
variable {s t : State}

/-- Marks worked out again from the same inputs are the same. -/
theorem demandNow_marks_congr (hi : t.heater.inputs = s.heater.inputs) (hn : t.nodes = s.nodes) (hs : t.signals = s.signals)
    (ht : t.tables = s.tables) : (heaterMarks t).demandNow = (heaterMarks s).demandNow := by
  have hmode : t.heater.mode = s.heater.mode := congrArg Heater.Inputs.mode hi
  have hset : t.heater.setPoint = s.heater.setPoint := congrArg Heater.Inputs.setPoint hi
  have hwindow : t.heater.window = s.heater.window := congrArg Heater.Inputs.window hi
  have hthermo : t.heater.thermo = s.heater.thermo := congrArg Heater.Inputs.thermo hi
  have hpreheat : t.heater.preheat = s.heater.preheat := congrArg Heater.Inputs.preheat hi
  simp only [State.demandNow, heaterMarks, State.modHeater_heater, hmode, hset, hwindow, hthermo, hpreheat,
    State.cabReading_congr hn ht hs, State.climate_congr ht]

/-- In OFF away from IDLE no start is made (R118). -/
theorem heaterRests_of_off (hs : s.heater.state = .off) (hidle : s.heaterIdle = false) : s.HeaterRests where
  run := heaterRun_false (by simp [hs]) (by simp [hs])
  ends := .inr (demandEnds_other (.inl hs))
  tests := by
    have haway : s.remarked.heaterIdle = false := hidle
    have hoff : s.remarked.heater.state = .off := hs
    have hrest : heaterAtIdle s.remarked = s.remarked := by simp [heaterAtIdle, haway]
    have hstart : heaterStart s.remarked = s.remarked := if_neg fun hn => by simp [haway] at hn
    rw [heaterTests, hrest, hstart, heaterAsk_other (by simp [hoff])]

/-- In OFF without demand none is made either (R118). -/
theorem heaterRests_of_no_demand (hs : s.heater.state = .off) (hd : (heaterMarks s).demandNow = false) : s.HeaterRests where
  run := heaterRun_false (by simp [hs]) (by simp [hs])
  ends := .inr (demandEnds_other (.inl hs))
  tests := heaterTests_off hs hd

/-- In REQUESTING an entry that is not ON does not ask (R73, R118). -/
theorem heaterRests_of_requesting {i : Nat} (he : s.entryOfKind .heater = some i) (hg : (s.live i).grant ≠ .on)
    (hs : s.heater.state = .requesting) (hd : (heaterMarks s).demandNow = s.heater.demand) : s.HeaterRests where
  run := heaterRun_false (by simp [hs]) (by simp [hs])
  ends := .inl hd
  tests := by
    have hasks : s.remarked.heater.state = .requesting := hs
    have hrest : heaterAtIdle s.remarked = s.remarked := by
      unfold heaterAtIdle
      split
      · rw [hasks]
      · rfl
    rw [heaterTests, hrest, heaterStart_other (by simp [hasks])]
    exact heaterAsk_of_not_on (s := s.remarked) he hg

end Rests

/-! ### The heater's entry at the end of a stop (R61 to R63) -/

section Entry
variable {s : State} {i : Nat}

/-- A stop complete ends STOPPING, and SHEDDING without want, in IDLE (R63). -/
theorem stopComplete_grant_idle (h : (s.live i).grant = .stopping ∨ (s.live i).grant = .shedding ∧ (s.live i).want = false) :
    ((stopComplete i s).live i).grant = .idle := by
  have hin : (s.live i).grant ≠ .idle := by rcases h with h | ⟨h, -⟩ <;> simp [h]
  rw [stopComplete, State.live_modLive_self hin]
  rcases h with h | ⟨h, hw⟩
  · simp [h]
  · simp [h, hw]

/-- A request then made waits for a grant (R61). -/
theorem request_stopComplete_grant (h : (s.live i).grant = .stopping ∨ (s.live i).grant = .shedding ∧ (s.live i).want = false) :
    ((request i (stopComplete i s)).live i).grant = .waiting := by
  have hin : (s.live i).grant ≠ .idle := by rcases h with h | ⟨h, -⟩ <;> simp [h]
  have hlen : i < (stopComplete i s).roster.live.length := by
    simpa [stopComplete, State.modLive, State.modRoster] using State.lt_of_grant hin
  rw [request, State.live_modLive, if_pos ⟨rfl, hlen⟩]
  simp [stopComplete_grant_idle h]

/-- A release at rest leaves the entry in IDLE, whatever it stood at (R62). -/
theorem release_grant_idle (i : Nat) (s : State) : ((release false i s).live i).grant = .idle := by
  have hreleased : ((s.rosterView.modify i (Standing.released false)).standing i).grant = .idle := by
    rw [RosterView.standing_modify]
    split
    · cases hg : (s.rosterView.standing i).grant <;> simp [Standing.released, Standing.releasedGrant, hg]
    next hout =>
      by_contra hin
      exact hout ⟨rfl, by simpa [State.rosterView] using State.lt_of_grant (by simpa using hin)⟩
  rw [← State.grant_eq_view]
  rcases release_rosterView false i s with ⟨-, hview⟩ | hfrees
  · rw [hview, hreleased]
  · rw [hfrees.standing i, hreleased]

end Entry

/-! ### PURGE_LIMIT (R124) -/

/-- The purge timer stopped, and the limit noted where the node is PRESENT (R124, R196). -/
def State.purgeNoted (s : State) : State :=
  if s.heaterPresent then
    raise .heaterFault (byte 1 :: s.heldCode ++ [byte s.ret.failedStarts]) (s.modHeater fun h => { h with purge := none })
  else s.modHeater fun h => { h with purge := none }

/-- The controller's state alone changed. -/
def State.heaterTo (st : HeaterState) (s : State) : State := s.modHeater fun h => { h with state := st }

/-- The end of a stop whose purge has run out, in STOPPING with the node PRESENT (R124). -/
def State.stopEnded (s : State) : State :=
  if (onEntry .heater stopComplete s).grantOfKind .heater = some .shed then (onEntry .heater stopComplete s).heaterTo .requesting
  else if (onEntry .heater stopComplete s).heater.demand then
    (onEntry .heater request (onEntry .heater stopComplete s)).heaterTo .requesting
  else (onEntry .heater stopComplete s).heaterTo .off

/-- The end of whatever stop the controller waits for, its purge having run out (R124). -/
def State.purgeEnded (s : State) (present : Bool) : State :=
  match s.heater.state with
  | .stopping => if present then s.stopEnded else (onEntry .heater (release false) s).heaterTo .off
  | .retryWait => (onEntry .heater (release false) s).heaterTo .off
  | .lockout =>
    (if present then onEntry .heater stopComplete s else onEntry .heater (release false) s).modHeater
      fun h => { h with purgeOutstanding := false }
  | _ => s

theorem purgeExpires_eq (s : State) : purgeExpires s = heaterRefresh (s.purgeNoted.purgeEnded s.heaterPresent) := by
  unfold purgeExpires State.purgeNoted State.purgeEnded State.stopEnded State.heaterTo State.heldCode
  rfl

theorem exec_purgeLimit {s : State} {n : Nat} (hs : s.Settled) (hn : s.heater.purge = some n) :
    exec .purgeLimit s = .next (qualify (purgeExpires s)) := by
  have he : exec .purgeLimit s = .next (external (fun t => whenRuns t.heater.purge purgeExpires t) s) := rfl
  rw [he, external_settled hs]
  simp [whenRuns, hn]

section Noted
variable (s : State)

@[simp] theorem purgeNoted_frame :
    s.purgeNoted.heater = { s.heater with purge := none } ∧ s.purgeNoted.roster = s.roster ∧ s.purgeNoted.tables = s.tables ∧
      s.purgeNoted.nodes = s.nodes ∧ s.purgeNoted.signals = s.signals := by
  unfold State.purgeNoted
  split <;> simp

/-- The cause PURGE_LIMIT is 1, the second that R196 names (assumption 18). -/
theorem purgeNoted_latched (hp : s.heaterPresent = true) (hlen : s.notices.details.length = 16) :
    s.purgeNoted.Latched 4 (padTo 4 (byte 1 :: s.heldCode ++ [byte s.ret.failedStarts])) := by
  rw [State.purgeNoted, if_pos hp]
  exact raise_latched (c := .heaterFault) hlen

theorem purgeNoted_notices (hp : s.heaterPresent = false) : s.purgeNoted.notices = s.notices := by
  simp [State.purgeNoted, hp]

end Noted

/-- The end of a stop leaves what the owners' entries and the controller do not hold. -/
@[simp] theorem purgeEnded_frame (s : State) (present : Bool) :
    (s.purgeEnded present).notices = s.notices ∧ (s.purgeEnded present).tables = s.tables ∧
      (s.purgeEnded present).nodes = s.nodes ∧ (s.purgeEnded present).signals = s.signals := by
  unfold State.purgeEnded State.stopEnded State.heaterTo
  repeat' split
  all_goals simp

end Sys2Proof.Machine
end

section
/-! PROOF. Each stop that PURGE_LIMIT ends, from the controller's state, the node and the entry (R124, R126; O55). -/

namespace Sys2Proof.Machine

set_option Elab.async false -- one theorem after another: each would otherwise take a thread with its own large stack

theorem State.grantOfKind_eq_some {s : State} {k : LoadKind} {g : Grant} :
    s.grantOfKind k = some g ↔ ∃ i, s.entryOfKind k = some i ∧ (s.live i).grant = g := by
  simp [State.grantOfKind]

/-- Out of REQUESTING an owner's dealings with the slot leave the heater. -/
theorem onEntry_heater_eq {k : LoadKind} {f : Nat → State → State} (h : ∀ i (t : State), t.heater.MayStart (f i t).heater)
    {s : State} (hs : s.heater.state ≠ .requesting) : (onEntry k f s).heater = s.heater :=
  (onEntry_mayStart h s).eq hs

section Ends
variable {u : State} {i : Nat}

/-- In LOCKOUT the purge is no longer outstanding (R126). -/
theorem purgeEnded_lockout (present : Bool) (hs : u.heater.state = .lockout) :
    (u.purgeEnded present).heater = { u.heater with purgeOutstanding := false } := by
  have hout : u.heater.state ≠ .requesting := by simp [hs]
  simp only [State.purgeEnded, hs, State.modHeater_heater]
  split
  · rw [onEntry_heater_eq (fun _ _ => .inl (by simp)) hout, hs]
  · rw [onEntry_heater_eq (release_heater false) hout, hs]

/-- The entry that was STOPPING is in IDLE (R62, R63). -/
theorem purgeEnded_lockout_entry (present : Bool) (hs : u.heater.state = .lockout) (he : u.entryOfKind .heater = some i)
    (hg : (u.live i).grant = .stopping) : ((u.purgeEnded present).live i).grant = .idle := by
  simp only [State.purgeEnded, hs, State.modHeater_live]
  split
  · rw [onEntry_eq he]
    exact stopComplete_grant_idle (.inl hg)
  · rw [onEntry_eq he]
    exact release_grant_idle i u

/-- RETRY_WAIT, and STOPPING of a node that is not PRESENT, end in OFF with the entry released at rest. -/
theorem purgeEnded_released {present : Bool} (hs : u.heater.state = .retryWait ∨ u.heater.state = .stopping ∧ present = false) :
    u.purgeEnded present = (onEntry .heater (release false) u).heaterTo .off := by
  rcases hs with hs | ⟨hs, rfl⟩
  · simp only [State.purgeEnded, hs]
  · simp only [State.purgeEnded, hs, Bool.false_eq_true, if_false]

theorem purgeEnded_stopping (hs : u.heater.state = .stopping) : u.purgeEnded true = u.stopEnded := by
  simp only [State.purgeEnded, hs, if_true]

variable (he : u.entryOfKind .heater = some i)
include he

/-- An entry in SHEDDING that is wanted is SHED, and the controller in REQUESTING (R124). -/
theorem stopEnded_shed (hg : (u.live i).grant = .shedding) (hw : (u.live i).want = true) :
    u.stopEnded = (stopComplete i u).heaterTo .requesting := by
  have hshed : (stopComplete i u).grantOfKind .heater = some .shed := by
    rw [grantOfKind_eq ((State.entryOfKind_congr (by simp) .heater).trans he), stopComplete_of_shedding hg hw]
  rw [State.stopEnded, onEntry_eq he, if_pos hshed]

/-- Any other entry at the end of its stop is requested again with demand, and left in IDLE without (R124). -/
theorem stopEnded_idle (hg : (u.live i).grant = .stopping ∨ (u.live i).grant = .shedding ∧ (u.live i).want = false) :
    u.stopEnded = if u.heater.demand then (request i (stopComplete i u)).heaterTo .requesting
      else (stopComplete i u).heaterTo .off := by
  have hei : (stopComplete i u).entryOfKind .heater = some i := (State.entryOfKind_congr (by simp) .heater).trans he
  have hnot : (stopComplete i u).grantOfKind .heater ≠ some .shed := by
    rw [grantOfKind_eq hei, stopComplete_grant_idle hg]
    simp
  have hdemand : (stopComplete i u).heater.demand = u.heater.demand := by simp
  rw [State.stopEnded, onEntry_eq he, if_neg hnot, onEntry_eq hei, hdemand]

end Ends

/-! ### After the refresh -/

section Refreshed
variable {u : State}

/-- The stop that PURGE_LIMIT ends commands no RUN, and its purge timer is stopped. -/
theorem purgeEnded_stopped (present : Bool) (hrun : u.heaterRun = false) (hp : u.heater.purge = none) :
    (u.purgeEnded present).heaterRun = false ∧ (u.purgeEnded present).heater.purge = none := by
  have hquiet {f : Nat → State → State} (hf : ∀ i (t : State), t.heater.MayStart (f i t).heater) (t : State)
      (ht : t.heater.purge = none) : (onEntry .heater f t).heater.purge = none := (onEntry_quiet t hf).purge ht
  have hstop := hquiet (f := stopComplete) (fun _ _ => .inl (by simp)) u hp
  cases hs : u.heater.state with
  | stopping =>
    cases present with
    | true =>
      rw [purgeEnded_stopping hs]
      unfold State.stopEnded
      split
      · exact ⟨rfl, hstop⟩
      · split
        · exact ⟨rfl, hquiet (fun _ _ => .inl (by simp)) _ hstop⟩
        · exact ⟨rfl, hstop⟩
    | false =>
      rw [purgeEnded_released (.inr ⟨hs, rfl⟩)]
      exact ⟨rfl, hquiet (release_heater false) u hp⟩
  | retryWait =>
    rw [purgeEnded_released (.inl hs)]
    exact ⟨rfl, hquiet (release_heater false) u hp⟩
  | lockout =>
    rw [State.heaterRun, purgeEnded_lockout present hs]
    exact ⟨hrun, hp⟩
  | off | requesting | starting | running =>
    simp only [State.purgeEnded, hs]
    exact ⟨hrun, hp⟩

/-- A refresh after a stop in LOCKOUT (R126). -/
theorem lockout_refreshed (present : Bool) (hs : u.heater.state = .lockout) :
    (heaterRefresh (u.purgeEnded present)).heater.state = .lockout ∧
      (heaterRefresh (u.purgeEnded present)).heater.purgeOutstanding = false ∧
      (u.grantOfKind .heater = some .stopping → (heaterRefresh (u.purgeEnded present)).grantOfKind .heater = some .idle) := by
  have hheater := purgeEnded_lockout present hs
  have hrests : (u.purgeEnded present).HeaterRests :=
    heaterRests_of_lockout (by rw [hheater]; exact hs) (.inr (by rw [hheater]))
  obtain ⟨hstate, -, -, -, hout⟩ := hrests.keeps
  refine ⟨by rw [hstate, hheater]; exact hs, by rw [hout, hheater], fun hg => ?_⟩
  obtain ⟨i, he, hg⟩ := State.grantOfKind_eq_some.mp hg
  refine State.grantOfKind_eq_some.mpr ⟨i, (State.entryOfKind_congr (by simp) .heater).trans he, ?_⟩
  rw [hrests.grant]
  exact purgeEnded_lockout_entry present hs he hg

/-- A refresh after RETRY_WAIT, or STOPPING of a node that is not PRESENT, has ended (R124). -/
theorem released_refreshed {present : Bool} (hs : u.heater.state = .retryWait ∨ u.heater.state = .stopping ∧ present = false)
    (hidle : u.heaterIdle = false) :
    (heaterRefresh (u.purgeEnded present)).heater.state = .off ∧
      ∀ i, u.entryOfKind .heater = some i → ((heaterRefresh (u.purgeEnded present)).live i).grant = .idle := by
  have hended := purgeEnded_released hs
  have haway : (u.purgeEnded present).heaterIdle = false := (State.heaterIdle_congr (by simp) (by simp)).trans hidle
  have hrests : (u.purgeEnded present).HeaterRests := heaterRests_of_off (by rw [hended]; rfl) haway
  refine ⟨by rw [hrests.keeps.1, hended]; rfl, fun i he => ?_⟩
  rw [hrests.grant, hended, State.heaterTo, State.modHeater_live, onEntry_eq he]
  exact release_grant_idle i u

variable {i : Nat} (he : u.entryOfKind .heater = some i) (hd : (heaterMarks u).demandNow = u.heater.demand)
include he hd

/-- A refresh of the controller in REQUESTING, its entry moved by its owner and not in ON (R118). -/
theorem requesting_refreshed {v : State} (hheater : v.heater = u.heater) (hn : v.nodes = u.nodes) (hsig : v.signals = u.signals)
    (ht : v.tables = u.tables) (hg : (v.live i).grant ≠ .on) :
    (heaterRefresh (v.heaterTo .requesting)).heater.state = .requesting ∧
      ((heaterRefresh (v.heaterTo .requesting)).live i).grant = (v.live i).grant := by
  have hmarks : (heaterMarks (v.heaterTo .requesting)).demandNow = (v.heaterTo .requesting).heater.demand := by
    have hinputs : (v.heaterTo .requesting).heater.inputs = u.heater.inputs := by
      rw [← hheater]
      rfl
    rw [demandNow_marks_congr hinputs hn hsig ht, hd]
    exact (congrArg Heater.demand hheater).symm
  have hrests : (v.heaterTo .requesting).HeaterRests :=
    heaterRests_of_requesting (s := v.heaterTo .requesting) ((State.entryOfKind_congr ht .heater).trans he) hg rfl hmarks
  exact ⟨hrests.keeps.1, hrests.grant i⟩

/-- STOPPING with the node PRESENT and the entry wanted in SHEDDING (R124). -/
theorem shed_refreshed (hs : u.heater.state = .stopping) (hg : (u.live i).grant = .shedding) (hw : (u.live i).want = true) :
    (heaterRefresh (u.purgeEnded true)).heater.state = .requesting ∧
      ((heaterRefresh (u.purgeEnded true)).live i).grant = .shed := by
  have hshed : ((stopComplete i u).live i).grant = .shed := by rw [stopComplete_of_shedding hg hw]
  rw [purgeEnded_stopping hs, stopEnded_shed he hg hw, ← hshed]
  exact requesting_refreshed he hd (by simp) (by simp) (by simp) (by simp) (by simp [hshed])

/-- The same with the entry STOPPING, or in SHEDDING and not wanted: it is requested again with demand, and is in IDLE without (R124). -/
theorem stopping_refreshed (hs : u.heater.state = .stopping)
    (hg : (u.live i).grant = .stopping ∨ (u.live i).grant = .shedding ∧ (u.live i).want = false) :
    (u.heater.demand = true → (heaterRefresh (u.purgeEnded true)).heater.state = .requesting ∧
      ((heaterRefresh (u.purgeEnded true)).live i).grant = .waiting) ∧
    (u.heater.demand = false → (heaterRefresh (u.purgeEnded true)).heater.state = .off ∧
      ((heaterRefresh (u.purgeEnded true)).live i).grant = .idle) := by
  rw [purgeEnded_stopping hs, stopEnded_idle he hg]
  refine ⟨fun hdemand => ?_, fun hdemand => ?_⟩
  · have hwaiting := request_stopComplete_grant hg
    rw [if_pos hdemand, ← hwaiting]
    exact requesting_refreshed he hd (by simp) (by simp) (by simp) (by simp) (by simp [hwaiting])
  · have hmarks : (heaterMarks ((stopComplete i u).heaterTo .off)).demandNow = false := by
      rw [demandNow_marks_congr (s := u) (t := (stopComplete i u).heaterTo .off) rfl rfl rfl rfl, hd, hdemand]
    have hrests : ((stopComplete i u).heaterTo .off).HeaterRests := heaterRests_of_no_demand rfl hmarks
    rw [if_neg (by simp [hdemand])]
    exact ⟨hrests.keeps.1, (hrests.grant i).trans (stopComplete_grant_idle hg)⟩

end Refreshed

end Sys2Proof.Machine
end

section
/-! PROOF. The heater's level hold, run limit and preheat window (R110, R114, R116, R176), and the statement on its timers and limits (O55). -/

namespace Sys2Proof.Machine

set_option Elab.async false -- one theorem after another: each would otherwise take a thread with its own large stack

/-! ### PURGE_LIMIT, read from the state it meets (R124) -/

section Purge
variable {s : State}

theorem purgeExpires_onlyIn (s : State) : s.OnlyIn [.bus, .roster, .heater, .fridge, .notices, .power] (purgeExpires s) := by
  intro b hb
  cases b <;> simp_all [Block.Same]

theorem purgeExpires_purge (hrun : s.heaterRun = false) : (purgeExpires s).heater.purge = none := by
  have hstopped : s.purgeNoted.heaterRun = false := by
    rw [State.heaterRun, (purgeNoted_frame s).1]
    exact hrun
  obtain ⟨hrun', hpurge⟩ := purgeEnded_stopped s.heaterPresent hstopped (by simp)
  rw [purgeExpires_eq]
  exact heaterRefresh_purge hrun' hpurge

/-- With the node PRESENT the notice HEATER_FAULT stands latched, its cause PURGE_LIMIT. -/
theorem purgeExpires_latched (hp : s.heaterPresent = true) (hlen : s.notices.details.length = 16) :
    (purgeExpires s).Latched 4 (padTo 4 (byte 1 :: s.heldCode ++ [byte s.ret.failedStarts])) := by
  refine (purgeNoted_latched s hp hlen).congr ?_
  rw [purgeExpires_eq]
  simp

theorem purgeExpires_notices (hp : s.heaterPresent = false) : (purgeExpires s).notices = s.notices := by
  rw [purgeExpires_eq]
  simp [purgeNoted_notices s hp]

theorem purgeNoted_demandNow (s : State) : (heaterMarks s.purgeNoted).demandNow = (heaterMarks s).demandNow :=
  demandNow_marks_congr (by simp [Heater.inputs]) (by simp) (by simp) (by simp)

theorem purgeNoted_entryOfKind (s : State) (k : LoadKind) : s.purgeNoted.entryOfKind k = s.entryOfKind k :=
  State.entryOfKind_congr (by simp) k

theorem purgeNoted_live (s : State) (i : Nat) : s.purgeNoted.live i = s.live i := State.live_congr (by simp) i

theorem purgeNoted_heaterIdle (s : State) : s.purgeNoted.heaterIdle = s.heaterIdle := State.heaterIdle_congr (by simp) (by simp)

theorem purgeNoted_grantOfKind (s : State) (k : LoadKind) : s.purgeNoted.grantOfKind k = s.grantOfKind k := by
  simp only [State.grantOfKind, purgeNoted_entryOfKind, purgeNoted_live]

/-- A node at IDLE is PRESENT. -/
theorem heaterIdle_of_not_present (hp : s.heaterPresent = false) : s.heaterIdle = false := by
  unfold State.heaterPresent at hp
  unfold State.heaterIdle
  split
  next r hr =>
    rw [hr] at hp
    simp [hp]
  next => rfl

theorem purgeExpires_lockout (hs : s.heater.state = .lockout) :
    (purgeExpires s).heater.state = .lockout ∧ (purgeExpires s).heater.purgeOutstanding = false ∧
      (s.grantOfKind .heater = some .stopping → (purgeExpires s).grantOfKind .heater = some .idle) := by
  have h := lockout_refreshed (u := s.purgeNoted) s.heaterPresent (by simpa using hs)
  rwa [← purgeExpires_eq, purgeNoted_grantOfKind] at h

theorem purgeExpires_released (hs : s.heater.state = .retryWait ∨ s.heater.state = .stopping ∧ s.heaterPresent = false)
    (hidle : s.heaterIdle = false) :
    (purgeExpires s).heater.state = .off ∧ ∀ i, s.entryOfKind .heater = some i → ((purgeExpires s).live i).grant = .idle := by
  have h := released_refreshed (u := s.purgeNoted) (present := s.heaterPresent) (by simpa using hs)
    ((purgeNoted_heaterIdle s).trans hidle)
  rwa [← purgeExpires_eq, purgeNoted_entryOfKind] at h

section Stopping
variable {i : Nat} (hs : s.heater.state = .stopping) (hp : s.heaterPresent = true) (he : s.entryOfKind .heater = some i)
  (hd : (heaterMarks s).demandNow = s.heater.demand)
include hs hp he hd

theorem purgeExpires_shed (hg : (s.live i).grant = .shedding) (hw : (s.live i).want = true) :
    (purgeExpires s).heater.state = .requesting ∧ ((purgeExpires s).live i).grant = .shed := by
  rw [purgeExpires_eq, hp]
  exact shed_refreshed ((purgeNoted_entryOfKind s _).trans he) ((purgeNoted_demandNow s).trans (by simpa using hd))
    (by simpa using hs) (by rwa [purgeNoted_live]) (by rwa [purgeNoted_live])

theorem purgeExpires_stopping (hg : (s.live i).grant = .stopping ∨ (s.live i).grant = .shedding ∧ (s.live i).want = false) :
    (s.heater.demand = true → (purgeExpires s).heater.state = .requesting ∧ ((purgeExpires s).live i).grant = .waiting) ∧
    (s.heater.demand = false → (purgeExpires s).heater.state = .off ∧ ((purgeExpires s).live i).grant = .idle) := by
  have h := stopping_refreshed (u := s.purgeNoted) ((purgeNoted_entryOfKind s _).trans he)
    ((purgeNoted_demandNow s).trans (by simpa using hd)) (by simpa using hs) (by rwa [purgeNoted_live])
  rw [purgeExpires_eq, hp]
  simpa using h

end Stopping

end Purge

/-! ### LEVEL_HOLD_EXPIRY (R116) -/

section LevelHold
variable {s : State}

theorem exec_levelHoldExpiry {n : Nat} (hs : s.Settled) (hn : s.heater.levelHold = some n) :
    exec .levelHoldExpiry s = .next (qualify (levelHoldExpires s)) := by
  have he : exec .levelHoldExpiry s = .next (external (fun t => whenRuns t.heater.levelHold levelHoldExpires t) s) := rfl
  rw [he, external_settled hs]
  simp [whenRuns, hn]

theorem levelHoldExpires_onlyIn (s : State) : s.OnlyIn [.roster, .heater, .power] (levelHoldExpires s) := by
  intro b hb
  cases b <;> simp_all [Block.Same]

theorem levelHoldExpires_heater (s : State) :
    (levelHoldExpires s).heater = (takeLevel (s.modHeater fun h => { h with levelHold := none })).heater := by
  simp [levelHoldExpires]

/-- A level chosen that differs is commanded, with a hold. -/
theorem levelHoldExpires_takes (hrun : s.heaterRun = true) {l : Nat} (hl : s.chosenLevel = some l) (hne : l ≠ s.heater.level) :
    (levelHoldExpires s).heater = { s.heater with level := l, levelHold := some 0 } := by
  have hchosen : (s.modHeater fun h => { h with levelHold := none }).chosenLevel = some l := hl
  have htakes : (s.modHeater fun h => { h with levelHold := none }).heaterRun = true ∧
      (s.modHeater fun h => { h with levelHold := none }).heater.levelHold = none ∧
      l ≠ (s.modHeater fun h => { h with levelHold := none }).heater.level := ⟨hrun, rfl, hne⟩
  rw [levelHoldExpires_heater]
  simp only [takeLevel, hchosen]
  rw [if_pos htakes]
  rfl

/-- Otherwise the hold only ends. -/
theorem levelHoldExpires_ends (h : s.chosenLevel = none ∨ s.chosenLevel = some s.heater.level) :
    (levelHoldExpires s).heater = { s.heater with levelHold := none } := by
  have hchosen : (s.modHeater fun h => { h with levelHold := none }).chosenLevel = s.chosenLevel := rfl
  rw [levelHoldExpires_heater]
  rcases h with h | h
  · simp only [takeLevel, hchosen, h]
    rfl
  · simp only [takeLevel, hchosen, h]
    rw [if_neg fun hn => hn.2.2 rfl]
    rfl

end LevelHold

/-! ### What a refresh makes of the window and the PREHEAT mark (R114) -/

theorem heaterRefresh_window (s : State) : (heaterRefresh s).heater.window = s.heater.window := by
  have h := congrArg Heater.Inputs.window (heaterRefresh_inputs s)
  simp only [Heater.inputs] at h
  exact h

theorem heaterRefresh_preheat (s : State) : (heaterRefresh s).heater.preheat = (heaterMarks s).heater.preheat := by
  have h := congrArg Heater.Inputs.preheat (heaterRefresh_inputs s)
  simp only [Heater.inputs] at h
  exact h

/-! ### MANUAL_LIMIT_EXPIRY (R110) -/

section Manual
variable {s : State}

theorem exec_manualLimitExpiry (hs : s.phase = .running) (hdue : s.heater.manualDue = true) :
    exec .manualLimitExpiry s = .next (qualify (qualify (manualExpires s))) := by
  have he : exec .manualLimitExpiry s = .next (internal manualLimitStep s) := rfl
  rw [he, internal_running hs, manualLimitStep, if_pos hdue]

theorem manualExpires_onlyIn (s : State) : s.OnlyIn [.roster, .heater, .fridge, .power] (manualExpires s) := by
  intro b hb
  cases b <;> simp_all [Block.Same]

/-- The mode is OFF, the count discarded and the window as it was. -/
theorem manualExpires_heater (s : State) :
    (manualExpires s).heater.mode = .off ∧ (manualExpires s).heater.manualCount = none ∧
      (manualExpires s).heater.manualDue = false ∧ (manualExpires s).heater.window = s.heater.window := by
  have hmanual := heaterRefresh_manual (setHeatMode 0 s)
  simp only [Heater.manual, Prod.mk.injEq] at hmanual
  rw [manualExpires, heaterRefresh_mode, heaterRefresh_window, hmanual.1, hmanual.2]
  exact ⟨rfl, rfl, rfl, rfl⟩

end Manual

/-! ### PREHEAT_WINDOW_CLOSE (R114, R176) -/

section Window
variable {s : State}

theorem exec_preheatWindowClose (hs : s.phase = .running) (hdue : s.heater.windowDue = true) :
    exec .preheatWindowClose s = .next (qualify (qualify (windowExpires s))) := by
  have he : exec .preheatWindowClose s = .next (internal preheatCloseStep s) := rfl
  rw [he, internal_running hs, preheatCloseStep, if_pos hdue]

/-- The window closed, its mark and the PREHEAT mark are gone. -/
theorem closeWindow_heater (s : State) :
    (closeWindow s).heater.window = none ∧ (closeWindow s).heater.windowDue = false ∧ (closeWindow s).heater.preheat = false := by
  rw [closeWindow, heaterRefresh_window, heaterRefresh_windowDue, heaterRefresh_preheat]
  exact ⟨rfl, rfl, rfl⟩

/-- With no queued warning due the rest clock closes its preheat record and sweeps nothing (R171, R176). -/
theorem windowClosed_quiet (hq : ∀ w ∈ s.ret.queue, s.ret.clock < w.due) :
    windowClosed s = refreshIdle (s.modRet fun r => { r with preheat := r.preheat.map fun p => { p with isOpen := false } }) := by
  set t := s.modRet fun r => { r with preheat := r.preheat.map fun p => { p with isOpen := false } } with ht
  have hlater : ∀ w ∈ t.ret.queue, t.ret.clock < w.due := hq
  simp only [windowClosed, restEnd, ← ht, sweepN_quiet hlater, ite_self]

theorem windowExpires_quiet (hq : ∀ w ∈ s.ret.queue, s.ret.clock < w.due) :
    windowExpires s =
      refreshIdle ((closeWindow s).modRet fun r => { r with preheat := r.preheat.map fun p => { p with isOpen := false } }) :=
  windowClosed_quiet (by simpa using hq)

theorem windowExpires_onlyIn (hq : ∀ w ∈ s.ret.queue, s.ret.clock < w.due) :
    s.OnlyIn [.panel, .roster, .heater, .fridge, .ret, .power] (windowExpires s) := by
  rw [windowExpires_quiet hq]
  intro b hb
  cases b <;> simp_all [Block.Same]

end Window

/-! ### The statement -/

@[simp] theorem qualify_live (s : State) (i : Nat) : (qualify s).live i = s.live i := State.live_congr (by simp) i

@[simp] theorem qualify_grantOfKind (s : State) (k : LoadKind) : (qualify s).grantOfKind k = s.grantOfKind k := by
  simp only [State.grantOfKind, qualify_live, State.entryOfKind_congr (s := s) (t := qualify s) (by simp)]

theorem purgeExpires_grantOfKind {s : State} {i : Nat} (he : s.entryOfKind .heater = some i) :
    (purgeExpires s).grantOfKind .heater = some ((purgeExpires s).live i).grant :=
  grantOfKind_eq ((State.entryOfKind_congr (by simp) .heater).trans he)

/-- STOPPING with the node PRESENT, by the entry and the demand. -/
theorem purgeExpires_of_stopping {s : State} (hs : s.heater.state = .stopping) (hp : s.heaterPresent = true)
    (hd : (heaterMarks s).demandNow = s.heater.demand) :
    (s.grantOfKind .heater = some .stopping →
      (s.heater.demand = true → (purgeExpires s).heater.state = .requesting ∧ (purgeExpires s).grantOfKind .heater = some .waiting) ∧
      (s.heater.demand = false → (purgeExpires s).heater.state = .off ∧ (purgeExpires s).grantOfKind .heater = some .idle)) ∧
    (∀ i, s.entryOfKind .heater = some i → (s.live i).grant = .shedding →
      ((s.live i).want = true → (purgeExpires s).heater.state = .requesting ∧ ((purgeExpires s).live i).grant = .shed) ∧
      ((s.live i).want = false → s.heater.demand = true →
        (purgeExpires s).heater.state = .requesting ∧ ((purgeExpires s).live i).grant = .waiting) ∧
      ((s.live i).want = false → s.heater.demand = false →
        (purgeExpires s).heater.state = .off ∧ ((purgeExpires s).live i).grant = .idle)) := by
  refine ⟨fun hg => ?_, fun i he hg => ⟨fun hw => purgeExpires_shed hs hp he hd hg hw, fun hw hdemand => ?_, fun hw hdemand => ?_⟩⟩
  · obtain ⟨i, he, hg⟩ := State.grantOfKind_eq_some.mp hg
    rw [purgeExpires_grantOfKind he, Option.some.injEq, Option.some.injEq]
    exact purgeExpires_stopping hs hp he hd (.inl hg)
  · exact (purgeExpires_stopping hs hp he hd (.inr ⟨hg, hw⟩)).1 hdemand
  · exact (purgeExpires_stopping hs hp he hd (.inr ⟨hg, hw⟩)).2 hdemand

/-- Settles O55: PURGE_LIMIT by the stop it ends and a refresh that rests there, the other three by what each writes. -/
theorem heaterTimersAndLimits : Obligations.HeaterTimersAndLimits := by
  refine ⟨fun s n hs => ⟨fun hn hrun hlen => ⟨_, exec_purgeLimit hs hn, ?_⟩, fun hn hrun => ⟨_, exec_levelHoldExpiry hs hn, ?_⟩⟩,
    fun s hs => ⟨fun hdue => ⟨_, exec_manualLimitExpiry hs hdue, ?_⟩, fun hdue hq => ⟨_, exec_preheatWindowClose hs hdue, ?_⟩⟩⟩
  · refine ⟨by simpa using purgeExpires_purge hrun, fun hp => ?_, fun hp => by simp [purgeExpires_notices hp],
      fun hst _ => by simpa using purgeExpires_lockout hst, fun hd => ⟨fun hst hp => ?_, fun hst hp => ?_, fun hst hidle => ?_⟩,
      (purgeExpires_onlyIn s).qualify (by simp)⟩
    · obtain ⟨-, hflag, hdetail⟩ := (purgeExpires_latched hp hlen).congr (t := qualify (purgeExpires s)) (by simp)
      exact ⟨hflag, by rw [hdetail]; rfl⟩
    · simpa using purgeExpires_of_stopping hst hp hd
    · simpa using purgeExpires_released (.inr ⟨hst, hp⟩) (heaterIdle_of_not_present hp)
    · simpa using purgeExpires_released (.inl hst) hidle
  · exact ⟨(levelHoldExpires_onlyIn s).qualify (by simp), fun l hl hne => by simpa using levelHoldExpires_takes hrun hl hne,
      fun h => by simpa using levelHoldExpires_ends h⟩
  · obtain ⟨hmode, hcount, hmark, hwindow⟩ := manualExpires_heater s
    exact ⟨by simpa using hmode, by simpa using hcount, by simpa using hmark, by simpa using hwindow,
      ((manualExpires_onlyIn s).qualify (by simp)).qualify (by simp)⟩
  · obtain ⟨hwindow, hmark, hpreheat⟩ := closeWindow_heater s
    have hquiet := windowExpires_quiet hq
    exact ⟨by simpa [hquiet] using hwindow, by simpa [hquiet] using hmark, by simpa [hquiet] using hpreheat, by simp [hquiet],
      ((windowExpires_onlyIn hq).qualify (by simp)).qualify (by simp)⟩

end Sys2Proof.Machine
end

section
/-! PROOF. The timers of the fridge: what each expiry makes of the controller, the surge slot and the protect request (R133 to R136, R139;
O56). -/

namespace Sys2Proof.Machine

set_option Elab.async false -- one theorem after another: each would otherwise take a thread with its own large stack

/-! ### The commands -/

section Commands
variable {s : State} {n : Nat}

theorem exec_minimumOnExpiry (hs : s.Settled) (hn : s.fridge.minOn = some n) :
    exec .minimumOnExpiry s = .next (qualify (minimumOnExpires s)) := by
  have he : exec .minimumOnExpiry s = .next (external (fun t => whenRuns t.fridge.minOn minimumOnExpires t) s) := rfl
  rw [he, external_settled hs, hn]
  rfl

theorem exec_minimumOffExpiry (s : State) :
    exec .minimumOffExpiry s = .next (external (fun t => whenRuns t.fridge.minOff minimumOffExpires t) s) := rfl

theorem exec_minimumOffExpiry_of_settled (hs : s.Settled) (hn : s.fridge.minOff = some n) :
    exec .minimumOffExpiry s = .next (qualify (minimumOffExpires s)) := by
  rw [exec_minimumOffExpiry, external_settled hs, hn]
  rfl

theorem exec_surgeHoldExpiry (hs : s.Settled) (hn : s.fridge.surgeHold = some n) :
    exec .surgeHoldExpiry s = .next (qualify (surgeHoldExpires s)) := by
  have he : exec .surgeHoldExpiry s = .next (external (fun t => whenRuns t.fridge.surgeHold surgeHoldExpires t) s) := rfl
  rw [he, external_settled hs, hn]
  rfl

theorem exec_protectTimerExpiry (hs : s.Settled) (hn : s.fridge.protectTimer = some n) (hlt : n < 600) :
    exec .protectTimerExpiry s = .next (qualify (protectExpires s)) := by
  have he : exec .protectTimerExpiry s = .next (external (fun t => if t.protectRuns then protectExpires t else t) s) := rfl
  have hruns : s.protectRuns = true := by simp [State.protectRuns, hn, hlt]
  rw [he, external_settled hs, if_pos hruns]

end Commands

/-! ### MINIMUM_ON_EXPIRY (R135) -/

section MinimumOn
variable {s : State}

/-- In COOLING the expiry is the cut-out test, nothing holding it back any more. -/
theorem minimumOnExpires_of_cooling (hs : s.fridge.state = .cooling) :
    minimumOnExpires s = fridgeCutOut (s.modFridge fun f => { f with minOn := none }) := by
  simp [minimumOnExpires, fridgeTests, hs]

theorem minimumOnExpires_cold (hs : s.fridge.state = .cooling) (hc : s.cabinet.any (fun r => decide (r ≤ s.fridgeEffective)) = true) :
    minimumOnExpires s =
      { s with fridge := { s.fridge with state := .idleCold, minOff := some 0, minOn := none, surgeHold := none } } := by
  rw [minimumOnExpires_of_cooling hs, fridgeCutOut, if_pos ⟨hs, rfl, hc⟩]
  simp [fridgeTo, State.modFridge, hs]

theorem minimumOnExpires_warm (hs : s.fridge.state = .cooling) (hc : s.cabinet.any (fun r => decide (r ≤ s.fridgeEffective)) = false) :
    minimumOnExpires s = { s with fridge := { s.fridge with minOn := none } } := by
  rw [minimumOnExpires_of_cooling hs, fridgeCutOut]
  exact if_neg fun hn => Bool.false_ne_true (hc.symm.trans hn.2.2)

end MinimumOn

/-! ### MINIMUM_OFF_EXPIRY (R133, R134, R136) -/

/-- A controller given the slot keeps its minimum-off timer. -/
theorem Fridge.MayCool.minOff {f f' : Fridge} (h : f.MayCool f') : f'.minOff = f.minOff := by
  rcases h with rfl | ⟨_, rfl⟩ <;> rfl

/-- The ask of WANT leaves the minimum-off timer. -/
theorem fridgeWant_minOff (s : State) : (fridgeWant s).fridge.minOff = s.fridge.minOff := by
  have hask (t : State) : (if t.fridgeMayAsk = true then onEntry .fridge askSlot t else t).fridge.minOff = t.fridge.minOff := by
    split
    · exact (onEntry_mayCool askSlot_fridge t).minOff
    · rfl
  have hheld (t : State) :
      (if t.fridge.state = .want then t.modFridge fun f => { f with state := .held } else t).fridge.minOff = t.fridge.minOff := by
    split <;> rfl
  exact (hheld _).trans (hask _)

theorem minimumOffExpires_minOff (s : State) : (minimumOffExpires s).fridge.minOff = none := by
  rw [minimumOffExpires, fridgeChecks]
  split
  · exact fridgeWant_minOff _
  · rfl

/-- Out of HELD the expiry only ends the timer. -/
theorem minimumOffExpires_other {s : State} (hs : s.fridge.state ≠ .held) :
    minimumOffExpires s = s.modFridge fun f => { f with minOff := none } :=
  fridgeChecks_other hs

theorem minimumOffExpires_onlyIn (s : State) : s.OnlyIn [.roster, .heater, .fridge, .power] (minimumOffExpires s) := by
  intro b hb
  cases b <;> simp_all [Block.Same]

section Start
variable {s : State} {i : Nat}

/-- The part with the fridge in COOLING, its entry having asked alone and holding the slot (R74, R135). -/
def State.fridgeStarted (s : State) (i : Nat) : State :=
  enterCooling ((s.askedAlone i).headTaken { entry := i, asked := s.roster.asks } [])

/-- A fridge in WANT asking for a free slot starts at once. -/
theorem askSlot_starts_fridge (hw : s.fridge.state = .want) (hready : s.fridgeReady = true) (hk : (s.cfg i).kind = .fridge)
    (hon : (s.live i).grant = .on) (hholder : s.roster.holder = none) (hqueue : s.roster.queue = []) :
    askSlot i s = s.fridgeStarted i := by
  rw [askSlot_alone hon hholder hqueue]
  exact handOver_fridge_head (n := 1) (s := s.askedAlone i) rfl hk (.inr hw) hready

/-- In HELD, with the checks of R133 holding and the slot free, the checks start the compressor (R134). -/
theorem fridgeChecks_starts (h : s.FridgeFree i) :
    fridgeChecks s = (s.modFridge fun f => { f with state := .want }).fridgeStarted i := by
  have hgrant : s.grantOfKind .fridge = some .on := by rw [grantOfKind_eq h.entry, h.on]
  have hmay : s.fridgeMayAsk = true := by simp [State.fridgeMayAsk, hgrant, h.timer, h.ready]
  have hqueued : (s.entryOfKind .fridge).any s.queued = false := by simp [h.entry, State.queued, h.queue]
  set u := s.modFridge fun f => { f with state := .want } with hu
  have hmayu : u.fridgeMayAsk = true := hmay
  have hask : onEntry .fridge askSlot u = u.fridgeStarted i := by
    rw [onEntry_eq (s := u) h.entry]
    exact askSlot_starts_fridge rfl h.ready (State.cfg_kind_of_entryOfKind h.entry) h.on h.holder h.queue
  have hstate : (u.fridgeStarted i).fridge.state ≠ .want := FridgeState.noConfusion
  rw [fridgeChecks, if_pos ⟨h.held, hmay, by simp [hqueued]⟩]
  simp only [fridgeWant, ← hu, if_pos hmayu, hask, if_neg hstate]

theorem fridgeStarted_onlyIn (s : State) (f : Fridge → Fridge) (i : Nat) :
    s.OnlyIn [.roster, .fridge, .power] ((s.modFridge f).fridgeStarted i) := by
  intro b hb
  cases b <;> simp_all [Block.Same, State.fridgeStarted, State.askedAlone, State.headTaken]

theorem minimumOffExpires_starts (h : (s.modFridge fun f => { f with minOff := none }).FridgeFree i) :
    minimumOffExpires s = (s.modFridge fun f => { f with state := .want, minOff := none }).fridgeStarted i :=
  fridgeChecks_starts h

end Start

/-! ### SURGE_HOLD_EXPIRY (R74, R135) -/

/-- The fridge's entry gives back the slot it holds, for which nothing waits. -/
theorem surgeHoldExpires_frees {s : State} {i : Nat} {h : Holder} (he : s.entryOfKind .fridge = some i)
    (hh : s.roster.holder = some h) (hi : h.entry = i) (hq : s.roster.queue = []) :
    surgeHoldExpires s =
      { s with fridge := { s.fridge with surgeHold := none }, roster := { s.roster with holder := none } } := by
  set u := s.modFridge fun f => { f with surgeHold := none } with hu
  have hholds : u.holds i = true := by simp [State.holds, hu, hh, hi]
  have hqueue : u.roster.queue = [] := hq
  rw [surgeHoldExpires, onEntry_eq (s := u) he, surgeDone, if_pos hholds, handOver_empty hqueue]
  rfl

/-! ### PROTECT_TIMER_EXPIRY (R139) -/

section Protect
variable {s : State}

theorem protectExpires_fridge (s : State) :
    (protectExpires s).fridge = { s.fridge with protectTimer := some 600, protectRequest := true } :=
  setProtect_fridge _ _

/-- A request that becomes set latches FRIDGE_PROTECT with the asserted edge and the cabinet reading. -/
theorem protectExpires_latched (hr : s.fridge.protectRequest = false) (hlen : s.notices.details.length = 16) :
    (protectExpires s).Latched 5 (padTo 4 (edgeByte true :: leSOpt 2 s.cabinet)) := by
  rw [protectExpires, setProtect, if_neg (by simp [hr])]
  exact raise_latched (c := .fridgeProtect) hlen

theorem protectExpires_onlyIn (s : State) : s.OnlyIn [.bus, .fridge, .notices, .power] (protectExpires s) := by
  intro b hb
  cases b <;> simp_all [Block.Same]

end Protect

/-! ### The statement -/

/-- Settles O56: each expiry, in the state its clause names, by what it writes; the start out of HELD by the slot that stands free. -/
theorem fridgeTimersExpire : Obligations.FridgeTimersExpire := by
  refine ⟨fun s n hs => ⟨fun hn hst => ⟨fun hc => ?_, fun hc => ?_⟩, fun hn hst => ?_, fun i h hn he hh hi hq => ?_⟩,
    fun s n hs hn hlt hr hlen => ⟨_, exec_protectTimerExpiry hs hn hlt, ?_⟩⟩
  · rw [exec_minimumOnExpiry hs hn, minimumOnExpires_cold hst hc]
  · rw [exec_minimumOnExpiry hs hn, minimumOnExpires_warm hst hc]
  · have hexec := exec_minimumOffExpiry_of_settled hs hn
    refine ⟨⟨_, hexec, by simpa using minimumOffExpires_minOff s, (minimumOffExpires_onlyIn s).qualify (by simp)⟩,
      fun i hheld he hon hready hholder hqueue => ⟨_, hexec, ?_⟩⟩
    rw [minimumOffExpires_starts ⟨hheld, rfl, hready, he, hon, hholder, hqueue⟩]
    exact ⟨rfl, rfl, rfl, (fridgeStarted_onlyIn s _ i).qualify (by simp)⟩
  · rw [exec_surgeHoldExpiry hs hn, surgeHoldExpires_frees he hh hi hq]
  · obtain ⟨-, hflag, hdetail⟩ := qualify_latched (protectExpires_latched hr hlen)
    exact ⟨by simpa using protectExpires_fridge s, hflag, by rw [hdetail]; rfl, (protectExpires_onlyIn s).qualify (by simp)⟩

end Sys2Proof.Machine
end

section
/-! PROOF. The second half of the law of R136 where a command meets a step that is due: the step commands the compressor off, and
MINIMUM_OFF_EXPIRY ends the timer that it has just started (O16). -/

namespace Sys2Proof.Machine

set_option Elab.async false -- one theorem after another: each would otherwise take a thread with its own large stack

/-- The fridge cooling with its entry 1 in ON and its node PRESENT and running, while the out-of-sync count stands at 5, which makes
LOOP_FAILED due (R31). -/
def State.coolingAsLoopFails : State :=
  { State.reset with
    phase := .running
    nodes := State.reset.nodes.set 2 { NodeRec.never .present with stale := false, measures := .fridge 56, heldA := some 1 }
    roster := { Roster.init with live := Roster.init.live.set 1 Live.granted }
    fridge := { State.reset.fridge with state := .cooling, on := true, minOff := none }
    tx := { State.reset.tx with outOfSync := 5 } }

/-- LOOP_FAILED makes the fridge's node LOST, and the FAULT that follows commands the compressor off (R40, R130, R138). -/
theorem State.coolingAsLoopFails_settles :
    (settle coolingAsLoopFails).phase = .running ∧ (settle coolingAsLoopFails).fridge.state = .fault ∧
      (settle coolingAsLoopFails).fridge.minOff = some 0 := by
  decide +kernel

/-- Refutes O16: MINIMUM_OFF_EXPIRY first settles what is due. Here LOOP_FAILED ends COOLING and starts the minimum-off timer at 0, which the
expiry then ends in the same command, so the part stands with the compressor off and no timer running. -/
theorem not_compressorKeepsItsRest : ¬ Obligations.CompressorKeepsItsRest := by
  rintro ⟨-, h⟩
  obtain ⟨hrun, hfault, htimer⟩ := State.coolingAsLoopFails_settles
  have hexec : exec .minimumOffExpiry State.coolingAsLoopFails =
      .next (qualify ((settle State.coolingAsLoopFails).modFridge fun f => { f with minOff := none })) := by
    rw [exec_minimumOffExpiry, external_eq, if_neg (by simp [hrun]), whenRuns, htimer, Option.isSome_some, if_pos rfl,
      minimumOffExpires_other (by simp [hfault])]
  have hrest := h _ _ _ rfl hexec (by simpa using hrun) (by simp [hfault])
  simp at hrest

end Sys2Proof.Machine
end

section
/-! PROOF. The links of the channels to the overlay records (R154, R156): what leaves them as they are, and what an overlay's start and end
make of them (O14). -/

namespace Sys2Proof.Machine

set_option Elab.async false -- one theorem after another: each would otherwise take a thread with its own large stack

/-! ### What the links are read from -/

/-- What LinksOk reads of the light engine: the link of each channel, and of each overlay record whether it is in use and its mask. -/
structure Lights.Links where
  link : List (Option Nat)
  records : List (Bool × Nat)

/-- The links of a light engine. -/
def Lights.links (l : Lights) : Lights.Links where
  link := l.channels.map (·.link)
  records := l.overlays.map fun o => (o.inUse, o.mask)

/-- The link of channel `c`. -/
def Lights.linkAt (l : Lights) (c : Nat) : Option Nat := (l.channels.getD c Channel.init).link

/-- Overlay record `r` is in use and covers channel `c`. -/
def Lights.Covers (l : Lights) (r c : Nat) : Prop :=
  (l.overlays.getD r Overlay.init).inUse = true ∧ bitAt (l.overlays.getD r Overlay.init).mask c = true

theorem Lights.linksOk_iff (l : Lights) :
    l.LinksOk ↔ l.channels.length = 8 ∧ l.overlays.length = 2 ∧
      ∀ c < 8, (∀ r, l.linkAt c = some r → r < 2 ∧ l.Covers r c) ∧ (l.linkAt c = none → ∀ r < 2, ¬ l.Covers r c) := by
  refine and_congr_right' (and_congr_right' (forall₂_congr fun c _ => ?_))
  change (match l.linkAt c with
    | some r => r < 2 ∧ l.Covers r c
    | none => ∀ r < 2, ¬ l.Covers r c) ↔ _
  cases l.linkAt c <;> simp

theorem Lights.linkAt_eq_links (l : Lights) (c : Nat) : l.linkAt c = l.links.link.getD c none :=
  (List.getD_map (f := Channel.link) (d := Channel.init) (n := c) (l := l.channels)).symm

theorem Lights.covers_iff_links (l : Lights) (r c : Nat) :
    l.Covers r c ↔ (l.links.records.getD r (false, 0)).1 = true ∧ bitAt (l.links.records.getD r (false, 0)).2 c = true := by
  have hrecord : l.links.records.getD r (false, 0) =
      ((l.overlays.getD r Overlay.init).inUse, (l.overlays.getD r Overlay.init).mask) :=
    List.getD_map (f := fun o : Overlay => (o.inUse, o.mask)) (d := Overlay.init) (n := r) (l := l.overlays)
  rw [hrecord, Lights.Covers]

/-- LinksOk is a matter of the links. -/
theorem Lights.LinksOk.congr {l m : Lights} (h : l.LinksOk) (hm : m.links = l.links) : m.LinksOk := by
  have hchannels : m.channels.length = l.channels.length := by simpa [Lights.links] using congrArg (·.link.length) hm
  have hoverlays : m.overlays.length = l.overlays.length := by simpa [Lights.links] using congrArg (·.records.length) hm
  have hlink (c : Nat) : m.linkAt c = l.linkAt c := by rw [Lights.linkAt_eq_links, hm, Lights.linkAt_eq_links]
  have hcovers (r c : Nat) : m.Covers r c ↔ l.Covers r c := by rw [Lights.covers_iff_links, hm, Lights.covers_iff_links]
  simpa only [Lights.linksOk_iff, hchannels, hoverlays, hlink, hcovers] using h

/-! ### Channels and records that keep their links -/

@[simp] theorem Channel.startFade_link (target n : Nat) (c : Channel) : (c.startFade target n).link = c.link := by
  unfold Channel.startFade
  split <;> rfl

@[simp] theorem Channel.stepTarget_link (d : Int) (c : Channel) : (c.stepTarget d).link = c.link := by
  simp only [Channel.stepTarget]
  split <;> simp

@[simp] theorem Channel.step_link (c : Channel) : c.step.link = c.link := by
  obtain ⟨_, fade, _, pending, _, _, _⟩ := c
  cases fade <;> cases pending <;> rfl

@[simp] theorem Overlay.advance_inUse (o : Overlay) : o.advance.inUse = o.inUse := by
  unfold Overlay.advance
  repeat' split
  all_goals rfl

@[simp] theorem Overlay.advance_mask (o : Overlay) : o.advance.mask = o.mask := by
  unfold Overlay.advance
  repeat' split
  all_goals rfl

/-- A channel changed in anything but its link. -/
theorem State.modChannel_links (s : State) (c : Nat) {f : Channel → Channel} (h : ∀ ch, (f ch).link = ch.link) :
    (s.modChannel c f).lights.links = s.lights.links := by
  have hlinks : (s.lights.channels.modify c f).map (·.link) = s.lights.channels.map (·.link) := by
    refine List.ext_getElem (by simp) fun i _ _ => ?_
    simp only [List.getElem_map, List.getElem_modify]
    split
    · exact h _
    · rfl
  simp [Lights.links, State.modChannel, hlinks]

theorem State.forEach_links (s : State) (is : List Nat) (f : Nat → State → State)
    (h : ∀ i t, (f i t).lights.links = t.lights.links) : (s.forEach is f).lights.links = s.lights.links := by
  unfold State.forEach
  induction is generalizing s with
  | nil => rfl
  | cons i is ih => rw [List.foldl_cons, ih, h]

/-! ### Actions, cycle steps and reports (R142, R147 to R150, R153, R157, R159) -/

theorem lightTests_lights (s : State) : (lightTests s).lights = s.lights := by simp

theorem sceneAction_links (n : Nat) (s : State) : (sceneAction n s).lights.links = s.lights.links := by
  rw [sceneAction, lightTests_lights]
  refine State.forEach_links _ _ _ fun c t => ?_
  dsimp only
  split
  · exact t.modChannel_links c fun ch => Channel.startFade_link _ _ _
  · rfl

theorem lightsOff_links (s : State) : (lightsOff s).lights.links = s.lights.links := by
  rw [lightsOff, lightTests_lights]
  refine State.forEach_links _ _ _ fun c t => t.modChannel_links c fun ch => ?_
  split
  · exact Channel.startFade_link _ _ _
  · rfl

theorem lightStep_links (d : Int) (s : State) : (lightStep d s).lights.links = s.lights.links := by
  rw [lightStep, lightTests_lights]
  refine State.forEach_links _ _ _ fun c t => ?_
  split
  · exact t.modChannel_links c (Channel.stepTarget_link d)
  · rfl

theorem sunriseStart_links (lead : Nat) (s : State) : (sunriseStart lead s).lights.links = s.lights.links := by
  rw [sunriseStart, lightTests_lights]
  refine State.forEach_links _ _ _ fun c t => ?_
  dsimp only
  split
  · exact t.modChannel_links c fun ch => Channel.startFade_link _ _ _
  · rfl

/-- The fades, pending tints and overlay phases moved on by one cycle (R147, R155). -/
def State.lightsAdvanced (s : State) : State :=
  s.modLights fun l => { l with channels := l.channels.map Channel.step, overlays := l.overlays.map Overlay.advance }

/-- The channels' outputs as a cycle step composes them (R151). -/
def State.outputsComposed (s : State) : State :=
  s.forEach channels fun c t => t.modChannel c fun ch => { ch with out := (channels.map s.outputOf).getD c Output.init }

theorem cycleStep_lights (s : State) : (cycleStep s).lights = s.lightsAdvanced.outputsComposed.lights :=
  lightTests_lights _

theorem cycleStep_links (s : State) : (cycleStep s).lights.links = s.lights.links := by
  have hadvanced : s.lightsAdvanced.lights.links = s.lights.links := by
    simp [Lights.links, State.lightsAdvanced, Function.comp_def]
  rw [cycleStep_lights, ← hadvanced]
  exact State.forEach_links _ _ _ fun c t => t.modChannel_links c fun _ => rfl

theorem lightRestOpened_links (s : State) : (lightRestOpened s).lights.links = s.lights.links := rfl

theorem lightRestChanged_links (s : State) : (lightRestChanged s).lights.links = s.lights.links := by
  unfold lightRestChanged
  split <;> rfl

theorem lightFaults_links (p : Nat) (s : State) : (lightFaults p s).lights.links = s.lights.links := by
  have hput (c x : Nat) (t : State) : (t.modChannel c fun ch => { ch with fault := x }).lights.links = t.lights.links :=
    t.modChannel_links c fun _ => rfl
  simp only [lightFaults]
  repeat' split
  all_goals simp only [hput]

theorem lightSleep_links (s : State) : (lightSleep s).lights.links = s.lights.links := by
  simp [Lights.links, lightSleep, Function.comp_def, Channel.sleep]

/-! ### The end and the start of an overlay (R154, R156) -/

theorem getD_map_range {α : Type*} (f : Nat → α) (d : α) {n c : Nat} (hc : c < n) : ((List.range n).map f).getD c d = f c := by
  simp [List.getD_eq_getElem?_getD, hc]

/-- A record put out of use covers nothing, and the other covers what it did. -/
theorem freeOverlay_covers {s : State} {r q : Nat} (hq : q < s.lights.overlays.length) (c : Nat) :
    (freeOverlay r s).lights.Covers q c ↔ q ≠ r ∧ s.lights.Covers q c := by
  by_cases hr : q = r
  · subst hr
    simp [freeOverlay, Lights.Covers, hq]
  · simp [freeOverlay, Lights.Covers, hr, Ne.symm hr]

/-- A channel of a record put out of use goes to the other record if that covers it, else it loses its link. -/
theorem freeOverlay_linkAt {s : State} {r c : Nat} (hc : c < 8) :
    (s.lights.linkAt c ≠ some r → (freeOverlay r s).lights.linkAt c = s.lights.linkAt c) ∧
      (s.lights.linkAt c = some r → s.lights.Covers (1 - r) c → (freeOverlay r s).lights.linkAt c = some (1 - r)) ∧
      (s.lights.linkAt c = some r → ¬ s.lights.Covers (1 - r) c → (freeOverlay r s).lights.linkAt c = none) := by
  simp only [freeOverlay, Lights.linkAt, Lights.Covers, State.modLights_lights, getD_map_range _ _ hc]
  refine ⟨fun h => ?_, fun h hcov => ?_, fun h hcov => ?_⟩
  · rw [if_neg h]
  · rw [if_pos h]
    exact if_pos (by simp only [hcov, Bool.and_self])
  · rw [if_pos h]
    simpa using hcov

theorem freeOverlay_lengths (r : Nat) (s : State) :
    (freeOverlay r s).lights.channels.length = 8 ∧
      (freeOverlay r s).lights.overlays.length = s.lights.overlays.length := by
  simp [freeOverlay]

/-- A record put out of use leaves the links right (R156). -/
theorem freeOverlay_linksOk {s : State} {r : Nat} (hr : r < 2) (h : s.lights.LinksOk) : (freeOverlay r s).lights.LinksOk := by
  obtain ⟨-, hlen, hlinks⟩ := s.lights.linksOk_iff.mp h
  obtain ⟨hchannels, hoverlays⟩ := freeOverlay_lengths r s
  refine (Lights.linksOk_iff _).mpr ⟨hchannels, hoverlays.trans hlen, fun c hc => ?_⟩
  have hcovers {q : Nat} (hq : q < 2) := freeOverlay_covers (s := s) (r := r) (q := q) (hlen ▸ hq) c
  obtain ⟨hother, hmoved, hlost⟩ := freeOverlay_linkAt (s := s) (r := r) hc
  obtain ⟨hsome, hnone⟩ := hlinks c hc
  by_cases hlink : s.lights.linkAt c = some r
  · by_cases hcov : s.lights.Covers (1 - r) c
    · rw [hmoved hlink hcov]
      refine ⟨fun q hq => ?_, by simp⟩
      obtain rfl := Option.some.inj hq
      exact ⟨by omega, (hcovers (by omega)).mpr ⟨by omega, hcov⟩⟩
    · rw [hlost hlink hcov]
      refine ⟨by simp, fun _ q hq hq' => ?_⟩
      obtain ⟨hne, hold⟩ := (hcovers hq).mp hq'
      exact hcov ((by omega : q = 1 - r) ▸ hold)
  · rw [hother hlink]
    refine ⟨fun q hq => ?_, fun hq p hp hp' => ?_⟩
    · obtain ⟨hlt, hold⟩ := hsome q hq
      exact ⟨hlt, (hcovers hlt).mpr ⟨fun hqr => hlink (hqr ▸ hq), hold⟩⟩
    · exact hnone hq p hp ((hcovers hp).mp hp').2

/-- The record that an overlay start takes (R154). -/
def State.recordFor (s : State) (o : Overlay) : Nat :=
  match s.overlayOf o.kind o.index with
  | some r => r
  | none => if !(s.overlay 0).inUse then 0 else if !(s.overlay 1).inUse then 1 else 1 - s.lights.newer

/-- An overlay put into a record, with the channels of its mask linked to it (R154). -/
def State.overlayPut (s : State) (r : Nat) (o : Overlay) : State :=
  s.modLights fun l =>
    { l with
      overlays := l.overlays.set r { o with inUse := true, phase := .unshown, count := 0 }
      newer := r
      channels := (List.range 8).map fun c =>
        let ch := l.channels.getD c Channel.init
        if bitAt o.mask c then { ch with link := some r } else ch }

theorem overlayStart_eq (o : Overlay) (s : State) :
    overlayStart o s =
      (if (s.overlay (s.recordFor o)).inUse then freeOverlay (s.recordFor o) s else s).overlayPut (s.recordFor o) o := rfl

theorem State.overlayOf_lt {s : State} {kind index r : Nat} (h : s.overlayOf kind index = some r) : r < 2 := by
  have hmem := List.mem_of_find?_eq_some h
  simp only [List.mem_cons, List.not_mem_nil, or_false] at hmem
  omega

theorem State.recordFor_lt (s : State) (o : Overlay) : s.recordFor o < 2 := by
  unfold State.recordFor
  split
  next h => exact State.overlayOf_lt h
  next =>
    repeat' split
    all_goals omega

theorem State.overlayPut_covers {s : State} {r q : Nat} (o : Overlay) (hq : q < s.lights.overlays.length) (c : Nat) :
    (s.overlayPut r o).lights.Covers q c ↔ if q = r then bitAt o.mask c = true else s.lights.Covers q c := by
  by_cases hr : q = r
  · subst hr
    simp [State.overlayPut, Lights.Covers, hq]
  · simp [State.overlayPut, Lights.Covers, hr, Ne.symm hr]

theorem State.overlayPut_linkAt (s : State) (r : Nat) (o : Overlay) {c : Nat} (hc : c < 8) :
    (s.overlayPut r o).lights.linkAt c = if bitAt o.mask c then some r else s.lights.linkAt c := by
  simp only [State.overlayPut, Lights.linkAt, State.modLights_lights, getD_map_range _ _ hc]
  split <;> rfl

/-- An overlay put into a record that is out of use leaves the links right (R154). -/
theorem State.overlayPut_linksOk {s : State} {r : Nat} (hr : r < 2) (hfree : (s.overlay r).inUse = false) (o : Overlay)
    (h : s.lights.LinksOk) : (s.overlayPut r o).lights.LinksOk := by
  obtain ⟨-, hlen, hlinks⟩ := s.lights.linksOk_iff.mp h
  refine (Lights.linksOk_iff _).mpr ⟨by simp [State.overlayPut], by simpa [State.overlayPut] using hlen, fun c hc => ?_⟩
  have hcovers {q : Nat} (hq : q < 2) := State.overlayPut_covers (s := s) (r := r) (q := q) o (hlen ▸ hq) c
  have hunused : ¬ s.lights.Covers r c := fun hcov => Bool.false_ne_true (hfree.symm.trans hcov.1)
  obtain ⟨hsome, hnone⟩ := hlinks c hc
  rw [State.overlayPut_linkAt s r o hc]
  by_cases hmask : bitAt o.mask c = true
  · rw [if_pos hmask]
    refine ⟨fun q hq => ?_, by simp⟩
    obtain rfl := Option.some.inj hq
    exact ⟨hr, (hcovers hr).mpr (by simpa using hmask)⟩
  · rw [if_neg hmask]
    refine ⟨fun q hq => ?_, fun hq p hp hp' => ?_⟩
    · obtain ⟨hlt, hold⟩ := hsome q hq
      have hne : q ≠ r := fun hqr => hunused (hqr ▸ hold)
      exact ⟨hlt, (hcovers hlt).mpr (by simpa [hne] using hold)⟩
    · have hput := (hcovers hp).mp hp'
      split at hput
      · exact hmask hput
      · exact hnone hq p hp hput

theorem freeOverlay_out (s : State) {r : Nat} (hr : r < s.lights.overlays.length) :
    ((freeOverlay r s).overlay r).inUse = false := by
  simp [freeOverlay, State.overlay, hr]

/-- An overlay start leaves the links right: a record in use is put out of use first (R154, assumption 56). -/
theorem overlayStart_linksOk (o : Overlay) {s : State} (h : s.lights.LinksOk) : (overlayStart o s).lights.LinksOk := by
  have hr := s.recordFor_lt o
  have hlen : s.lights.overlays.length = 2 := h.2.1
  rw [overlayStart_eq]
  split
  · exact State.overlayPut_linksOk hr (freeOverlay_out s (hlen ▸ hr)) o (freeOverlay_linksOk hr h)
  next hfree => exact State.overlayPut_linksOk hr (Bool.not_eq_true _ ▸ hfree) o h

theorem overlayEnd_linksOk (kind index : Nat) {s : State} (h : s.lights.LinksOk) :
    (overlayEnd kind index s).lights.LinksOk := by
  unfold overlayEnd
  split
  next hr => exact freeOverlay_linksOk (State.overlayOf_lt hr) h
  next => exact h

end Sys2Proof.Machine
end

section
/-! PROOF. The rest clock, the actions and the signals keep the links of the overlays right (chapters 1, 3 and 9; O14). -/

namespace Sys2Proof.Machine

set_option Elab.async false -- one theorem after another: each would otherwise take a thread with its own large stack

/-- Where the links of the overlays are right in `s`, they are right in `t`. -/
def LinksKept (s t : State) : Prop := s.lights.LinksOk → t.lights.LinksOk

namespace LinksKept

variable {s t u : State}

theorem of_links (h : t.lights.links = s.lights.links) : LinksKept s t := fun hs => hs.congr h

theorem same (h : t.lights = s.lights) : LinksKept s t := of_links (congrArg Lights.links h)

theorem refl : LinksKept s s := id

theorem trans (h : LinksKept s t) (k : LinksKept t u) : LinksKept s u := fun hs => k (h hs)

/-- Then an operation that leaves the lights. -/
theorem keep (h : LinksKept s t) (g : State → State) (hg : (g t).lights = t.lights := by simp) : LinksKept s (g t) :=
  h.trans (same hg)

/-- An operation that keeps the links, done after a change that leaves the lights. -/
theorem after (h : LinksKept u t) (hu : u.lights = s.lights := by simp) : LinksKept s t := (same hu).trans h

theorem ite {c : Prop} [Decidable c] (h : c → LinksKept s t) (k : ¬ c → LinksKept s u) : LinksKept s (if c then t else u) := by
  split
  next hc => exact h hc
  next hc => exact k hc

theorem forEach (h : LinksKept s t) (is : List Nat) {f : Nat → State → State} (hf : ∀ i u, LinksKept u (f i u)) :
    LinksKept s (t.forEach is f) := by
  unfold State.forEach
  induction is generalizing t with
  | nil => exact h
  | cons i is ih => exact ih (h.trans (hf i t))

/-- Then the standby conditions looked at. -/
theorem qualify (h : LinksKept s t) : LinksKept s (qualify t) := h.keep Machine.qualify

theorem modSetup (h : LinksKept s t) (f : Setup → Setup) : LinksKept s (t.modSetup f) := h

end LinksKept

/-! ### The active warning (R171, R179 to R181) -/

theorem endActive_keepsLinks (s : State) : LinksKept s (endActive s) := by
  unfold endActive
  split
  next a _ => exact LinksKept.after (s := s) (fun hu => overlayEnd_linksOk a.kind.code a.index hu)
  next => exact .refl

theorem endKinds_keepsLinks (ks : List WarnKind) (s : State) : LinksKept s (endKinds ks s) := by
  unfold endKinds
  split
  · exact .ite (fun _ => endActive_keepsLinks s) fun _ => .refl
  · exact .refl

theorem displace_keepsLinks (s : State) : LinksKept s (displace s) := by
  unfold displace
  split
  · exact (endActive_keepsLinks s).keep (enqueue _)
  · exact .refl

theorem leaveDrive_keepsLinks (s : State) : LinksKept s (leaveDrive s) :=
  (endKinds_keepsLinks _ _).after

/-- A warning's activation starts its overlay; all else that it does leaves the lights (R179). -/
theorem activate_keepsLinks (w : Warning) (s : State) : LinksKept s (activate w s) := by
  refine LinksKept.keep (fun hs => overlayStart_linksOk _ ?_) (markServed w)
  simpa using hs

/-! ### The due sweep (R171) -/

theorem dealWith_keepsLinks (w : Warning) (s : State) : LinksKept s (dealWith w s) := by
  unfold dealWith
  split
  · exact .same (by simp)
  · exact .of_links (sunriseStart_links _ _)
  · exact (displace_keepsLinks s).trans (activate_keepsLinks w _)

theorem sweepN_keepsLinks (n : Nat) (s : State) : LinksKept s (sweepN n s) := by
  induction n generalizing s with
  | zero => exact .refl
  | succ n ih =>
    unfold sweepN
    split
    · exact ((dealWith_keepsLinks _ _).after).trans (ih _)
    · exact .refl

theorem restEnd_keepsLinks (s : State) : LinksKept s (restEnd s) :=
  LinksKept.keep (.ite (fun _ => sweepN_keepsLinks 32 s) fun _ => .refl) refreshIdle

/-- Then the end of a handling of the rest clock. -/
theorem LinksKept.restEnd {s t : State} (h : LinksKept s t) : LinksKept s (restEnd t) := h.trans (restEnd_keepsLinks t)

/-! ### The rest record (R165 to R169) -/

theorem lightRestChanged_keepsLinks (s : State) : LinksKept s (lightRestChanged s) := .of_links (lightRestChanged_links s)

theorem checkComplete_keepsLinks (s : State) : LinksKept s (checkComplete s) := by
  refine .ite (fun _ => LinksKept.keep ?_ workOutWake) fun _ => .ite (fun _ => ?_) fun _ => .refl
  · refine LinksKept.trans ?_ (endKinds_keepsLinks _ _)
    exact LinksKept.keep (LinksKept.keep (lightRestChanged_keepsLinks _).after (enqueue _)) (removeKind .restLead)
  · exact (lightRestChanged_keepsLinks _).after

theorem openRest_keepsLinks (s : State) : LinksKept s (openRest s) :=
  LinksKept.trans (LinksKept.same (by simp)) (.of_links (lightRestOpened_links _))

theorem confirmRest_keepsLinks (s : State) : LinksKept s (confirmRest s) := by
  refine .ite (fun _ => ?_) fun _ => .refl
  exact LinksKept.keep (LinksKept.keep ((checkComplete_keepsLinks _).after) formLeads) workOutWake

theorem closeRest_keepsLinks (s : State) : LinksKept s (closeRest s) := by
  refine LinksKept.keep (LinksKept.trans (LinksKept.keep (LinksKept.keep (LinksKept.keep ?_ (fun t => t.modRestRec _))
    raiseRestState) judgeStale) (lightRestChanged_keepsLinks _)) workOutWake
  exact LinksKept.trans (.same (by simp [State.ite_frame])) (endKinds_keepsLinks _ _)

theorem restMinute_keepsLinks (s : State) : LinksKept s (restMinute s) := by
  refine LinksKept.restEnd (LinksKept.keep (LinksKept.keep ?_ refreshIdle) formPreheat)
  exact (checkComplete_keepsLinks _).after

theorem restFollowed_keepsLinks (s : State) : LinksKept s s.restFollowed :=
  .ite (fun _ => .ite (fun _ => confirmRest_keepsLinks s) fun _ => openRest_keepsLinks s) fun _ =>
    .ite (fun _ => closeRest_keepsLinks s) fun _ => .refl

theorem activityStored_keepsLinks (s : State) : LinksKept s (activityStored s) := by
  have hleft : LinksKept s (if (s.rest.driving && !s.drive) = true then leaveDrive s else s) :=
    .ite (fun _ => leaveDrive_keepsLinks s) fun _ => .refl
  have hfollowed := hleft.trans (restFollowed_keepsLinks _)
  have hdriving := hfollowed.keep fun u => u.modRest fun r => { r with driving := true }
  exact LinksKept.restEnd (LinksKept.keep (.ite (fun _ => hdriving.keep formBreaks) fun _ => hfollowed) judgeStale)

theorem activityLost_keepsLinks (s : State) : LinksKept s (activityLost s) :=
  LinksKept.restEnd (LinksKept.keep (.ite (fun _ => leaveDrive_keepsLinks s) fun _ => .refl) judgeStale)

theorem remainingStored_keepsLinks (formsNow : Bool) (s : State) : LinksKept s (remainingStored formsNow s) :=
  LinksKept.restEnd (.ite (fun _ => LinksKept.refl.keep formBreaks) fun _ => .refl)

theorem timeStored_keepsLinks (s : State) : LinksKept s (timeStored s) := by
  refine LinksKept.restEnd ?_
  split
  · exact .ite (fun _ => .same rfl) fun _ => .refl
  · exact .refl

theorem ignitionStored_keepsLinks (s : State) : LinksKept s (ignitionStored s) :=
  LinksKept.restEnd (.ite (fun _ => endKinds_keepsLinks [.wake] s) fun _ => .refl)

theorem restProfile_keepsLinks (p : Nat) (s : State) : LinksKept s (restProfile p s) := by
  refine LinksKept.restEnd (LinksKept.keep (LinksKept.keep (LinksKept.keep (LinksKept.keep ?_ formLeads) formBreaks)
    workOutWake) formPreheat)
  exact .ite (fun _ => (checkComplete_keepsLinks _).after) fun _ => .same rfl

theorem alarmSet_keepsLinks (m : Nat) (s : State) : LinksKept s (alarmSet m s) := LinksKept.restEnd (.same (by simp))

theorem acknowledge_keepsLinks (s : State) : LinksKept s (acknowledge s) := (endActive_keepsLinks s).restEnd

theorem repeatExpires_keepsLinks (s : State) : LinksKept s (repeatExpires s) := by
  refine LinksKept.restEnd ?_
  split
  · exact .ite (fun _ => .same (by simp)) fun _ => (endActive_keepsLinks _).after
  · exact .refl

theorem firstSweep_keepsLinks (s : State) : LinksKept s (firstSweep s) :=
  .ite (fun _ => .refl) fun _ => LinksKept.restEnd (.same rfl)

theorem preheatResumed_lights (s : State) : s.preheatResumed.lights = s.lights := by
  unfold State.preheatResumed
  repeat' split
  all_goals simp

theorem requeued_lights (s : State) : s.requeued.lights = s.lights := by
  simp only [State.requeued]
  repeat' split
  all_goals simp

theorem restStartUp_keepsLinks (s : State) : LinksKept s (restStartUp s) := by
  rw [restStartUp_eq]
  have hresumed : LinksKept s (workOutWake s.requeued).preheatResumed :=
    .same ((preheatResumed_lights _).trans ((by simp : _ = s.requeued.lights).trans (requeued_lights s)))
  exact ((hresumed.trans (lightRestChanged_keepsLinks _)).keep judgeStale).keep refreshIdle

/-! ### The heater's window (R114, R174 to R176) -/

theorem windowClosed_keepsLinks (s : State) : LinksKept s (windowClosed s) := LinksKept.restEnd (.same rfl)

theorem preheatNews_keepsLinks (s : State) : LinksKept s (preheatNews s) := (LinksKept.refl.keep formPreheat).restEnd

theorem heaterInputs_keepsLinks (s : State) : LinksKept s (heaterInputs s) := by
  unfold heaterInputs
  exact LinksKept.keep (.ite (fun _ => .refl) fun _ => (preheatNews_keepsLinks _).after) heaterRefresh

/-- Then the heater's inputs read again. -/
theorem LinksKept.heaterInputs {s t : State} (h : LinksKept s t) : LinksKept s (heaterInputs t) :=
  h.trans (heaterInputs_keepsLinks t)

theorem heatModeAction_keepsLinks (n : Nat) (s : State) : LinksKept s (heatModeAction n s) :=
  .ite (fun _ => (windowClosed_keepsLinks _).after) fun _ => .same (by simp)

theorem windowExpires_keepsLinks (s : State) : LinksKept s (windowExpires s) :=
  (LinksKept.refl.keep closeWindow).trans (windowClosed_keepsLinks _)

/-! ### Actions and presses (R47 to R54) -/

theorem perform_keepsLinks (code : Nat) (a : Int) (s : State) : LinksKept s (perform code a s) := by
  unfold perform
  split
  · exact heatModeAction_keepsLinks _ s
  · exact .same (by simp)
  · exact .same (by simp)
  · exact .same (by simp)
  · exact .same (by simp)
  · exact .same (by simp)
  · exact .of_links (sceneAction_links _ s)
  · exact .of_links (lightsOff_links s)
  · exact .of_links (lightStep_links a s)
  · exact .same (by simp)
  · exact acknowledge_keepsLinks s
  · exact restProfile_keepsLinks _ s
  · exact alarmSet_keepsLinks _ s
  · exact .refl

theorem handAction_keepsLinks (src : ActionSource) (code : Nat) (a : Int) (s : State) :
    LinksKept s (handAction src code a s) := by
  unfold handAction
  split
  · exact (LinksKept.refl.keep (recordAction _ _ _ _)).trans (perform_keepsLinks _ _ _)
  · exact LinksKept.refl.keep (recordAction _ _ _ _)

theorem press_keepsLinks (entry : Nat) (s : State) : LinksKept s (press entry s) :=
  .ite (fun _ => .refl) fun _ => (handAction_keepsLinks _ _ _ s).qualify

theorem pressTimes_keepsLinks (entry n : Nat) (s : State) : LinksKept s (pressTimes entry n s) := by
  induction n generalizing s with
  | zero => exact .refl
  | succ n ih => exact (press_keepsLinks entry s).trans (ih _)

theorem dispatch_keepsLinks (n : Nat) (old new : List Nat) (s : State) : LinksKept s (dispatch n old new s) :=
  LinksKept.refl.forEach _ fun _ t => (pressTimes_keepsLinks _ _ t).trans (pressTimes_keepsLinks _ _ _)

theorem panelMessage_keepsLinks (p : Nat) (s : State) : LinksKept s (panelMessage p s) := by
  refine .ite (fun _ => ?_) fun _ => .refl
  split
  · exact (dispatch_keepsLinks _ _ _ s).keep (setBaseline _ _)
  · exact LinksKept.refl.keep (setBaseline _ _)

/-! ### Signals (R8, R12 to R14) -/

theorem tellStored_keepsLinks (n : Nat) (fresh : Bool) (s : State) : LinksKept s (tellStored n fresh s) := by
  refine LinksKept.trans (LinksKept.refl.keep (takeMark n)) ?_
  unfold tellStored
  dsimp only
  split
  · exact activityStored_keepsLinks _
  · exact remainingStored_keepsLinks _ _
  · exact timeStored_keepsLinks _
  · exact timeStored_keepsLinks _
  · exact heaterInputs_keepsLinks _
  · exact ignitionStored_keepsLinks _
  · exact heaterInputs_keepsLinks _
  · exact .refl

theorem tellLost_keepsLinks (n : Nat) (s : State) : LinksKept s (tellLost n s) := by
  refine LinksKept.trans (LinksKept.refl.keep (takeMark n)) ?_
  unfold tellLost
  dsimp only
  split
  · exact activityLost_keepsLinks _
  · exact restEnd_keepsLinks _
  · exact restEnd_keepsLinks _
  · exact restEnd_keepsLinks _
  · exact heaterInputs_keepsLinks _
  · exact restEnd_keepsLinks _
  · exact heaterInputs_keepsLinks _
  · exact .refl

theorem storeSignal_keepsLinks (n : Nat) (v : Int) (s : State) : LinksKept s (storeSignal n v s) := by
  refine .ite (fun _ => LinksKept.refl.keep countClamp) fun _ => ?_
  exact LinksKept.trans (.same (by simp [State.ite_frame])) (tellStored_keepsLinks _ _ _)

theorem turnStale_keepsLinks (n : Nat) (s : State) : LinksKept s (turnStale n s) :=
  .ite (fun _ => (tellLost_keepsLinks n _).after) fun _ => .refl

theorem redefine_keepsLinks (n : Nat) (s : State) : LinksKept s (redefine n s) :=
  (tellLost_keepsLinks n _).after

theorem useValue_keepsLinks (e : IngressEntry) (v : Int) (s : State) : LinksKept s (useValue e v s) := by
  have hstored : LinksKept s (if e.stores then storeSignal e.target v s else s) :=
    .ite (fun _ => storeSignal_keepsLinks _ _ _) fun _ => .refl
  exact .ite (fun _ => hstored.trans (handAction_keepsLinks _ _ _ _)) fun _ => hstored

theorem matchFrame_keepsLinks (f : RxFrame) (s : State) : LinksKept s (matchFrame f s) := by
  unfold matchFrame
  split
  · exact .same (by simp)
  · refine .ite (fun _ => ?_) fun _ => handAction_keepsLinks _ _ _ s
    split
    · exact .same (by simp)
    · exact .ite (fun _ => useValue_keepsLinks _ _ s) fun _ => .refl

theorem ingressTakes_keepsLinks (s : State) : LinksKept s (ingressTakes s) := by
  unfold ingressTakes
  split
  · exact .ite (fun _ => (LinksKept.refl.keep dropReceived).trans (matchFrame_keepsLinks _ _)) fun _ => .refl
  · exact .refl

end Sys2Proof.Machine
end

section
/-! PROOF. The berth loop, the power states and the setup channel keep the links of the overlays right, and so does every step (chapters 2,
10 and 11; O14). -/

namespace Sys2Proof.Machine

set_option Elab.async false -- one theorem after another: each would otherwise take a thread with its own large stack

/-! ### Nodes that come and go (R38 to R42, R79) -/

theorem tellStaleMark_keepsLinks (p : Nat) (s : State) : LinksKept s (tellStaleMark p s) := by
  unfold tellStaleMark
  split
  · exact heaterInputs_keepsLinks s
  · exact LinksKept.refl.keep fridgeNews
  · have hbaseline : LinksKept s (setBaseline (s.panelNumber p) none s) := LinksKept.refl.keep (setBaseline _ _)
    exact .ite (fun _ => hbaseline.heaterInputs) fun _ => hbaseline
  · exact .refl

theorem loseNode_keepsLinks (st : Presence) (p : Nat) (s : State) : LinksKept s (loseNode st p s) := by
  refine LinksKept.keep (LinksKept.trans ?_ (tellStaleMark_keepsLinks p _)) (raisePresence p)
  exact .ite (fun _ => .same (by simp)) fun _ => .same (by simp)

theorem loopFails_keepsLinks (s : State) : LinksKept s (loopFails s) := by
  have hlost : LinksKept s ((s.modTx fun t => { t with failed := true }).forEach positions fun p t =>
      if (t.node p).presence = .present then loseNode .lost p t else t) :=
    LinksKept.forEach (.same (by simp)) _ fun p t => .ite (fun _ => loseNode_keepsLinks _ p t) fun _ => .refl
  exact hlost.keep (raise _ _)

theorem foreignMessage_keepsLinks (p : Nat) (s : State) : LinksKept s (foreignMessage p s) :=
  .ite (fun _ => .same (by simp)) fun _ => (loseNode_keepsLinks _ p _).after

theorem markAllStale_keepsLinks (s : State) : LinksKept s (markAllStale s) :=
  LinksKept.forEach (.same (by simp)) _ tellStaleMark_keepsLinks

theorem resetPosition_keepsLinks (p : Nat) (k : NodeKind) (s : State) : LinksKept s (resetPosition p k s) := by
  have hleft : LinksKept s ((s.positionEmptied p k).leftTold ((s.node p).presence = .present) p) :=
    .ite (fun _ => .same (by simp [State.positionEmptied])) fun _ => .same (by simp [State.positionEmptied])
  rw [resetPosition_eq]
  exact .ite (fun _ => hleft) fun _ => hleft.trans (tellStaleMark_keepsLinks p _)

theorem loopWake_keepsLinks (s : State) : LinksKept s (loopWake s) := by
  refine LinksKept.forEach (LinksKept.forEach (LinksKept.forEach (.same (by simp)) _ fun p _ => ?_) _
    tellStaleMark_keepsLinks) _ fun n _ => ?_
  · exact LinksKept.refl.keep (tellLeft p)
  · exact LinksKept.refl.keep (setBaseline n none)

/-! ### Accepted messages (R34 to R43) -/

theorem tellAccepted_keepsLinks (p : Nat) (old : NodeRec) (s : State) : LinksKept s (tellAccepted p old s) := by
  unfold tellAccepted
  dsimp only
  split
  · split
    · exact .same (by simp)
    · exact .refl
  · exact LinksKept.heaterInputs (.ite (fun _ => LinksKept.refl.keep heaterPhase) fun _ => .refl)
  · exact LinksKept.keep (.ite (fun _ => LinksKept.refl.keep fridgeNews) fun _ => .refl) fridgeMessage
  · exact .ite (fun _ => .of_links (lightFaults_links p s)) fun _ => .refl
  · exact .ite (fun _ => (panelMessage_keepsLinks p s).heaterInputs) fun _ => panelMessage_keepsLinks p s
  · exact .same (by simp [State.ite_frame])
  · exact .refl

theorem acceptMessage_keepsLinks (p seq : Nat) (d : Decoded) (s : State) : LinksKept s (acceptMessage p seq d s) :=
  (tellAccepted_keepsLinks p _ _).after

theorem testMessage_keepsLinks (m : ReadyMsg) (s : State) : LinksKept s (testMessage m s) := by
  refine .ite (fun _ => .refl) fun _ => .ite (fun _ => foreignMessage_keepsLinks _ s) fun _ => ?_
  split
  · exact acceptMessage_keepsLinks _ _ _ s
  · exact .refl

theorem takeMessage_keepsLinks (s : State) : LinksKept s (takeMessage s) := by
  unfold takeMessage
  split
  · exact LinksKept.qualify (testMessage_keepsLinks _ _).after
  · exact .refl

theorem presenceDues_keepsLinks (s : State) : LinksKept s (presenceDues s) :=
  LinksKept.refl.forEach _ fun p t => .ite (fun _ => .same (by simp)) fun _ =>
    .ite (fun _ => (loseNode_keepsLinks .lost p t).qualify) fun _ => .refl

theorem drainReceived_keepsLinks (s : State) : LinksKept s (drainReceived s) := by
  have htaken : LinksKept s (s.forEach (List.range s.rx.ready.length) fun _ t => takeMessage t) :=
    LinksKept.refl.forEach _ fun _ t => takeMessage_keepsLinks t
  exact .ite (fun _ => (htaken.keep receivedCycleEnds).trans (presenceDues_keepsLinks _)) fun _ =>
    htaken.trans (presenceDues_keepsLinks _)

/-! ### The receive side (R24 to R33) -/

theorem loseSync_keepsLinks (toSearch : Bool) (s : State) : LinksKept s (loseSync toSearch s) :=
  LinksKept.trans (LinksKept.keep (drainReceived_keepsLinks s) fun t => t.modRx _) (markAllStale_keepsLinks _)

theorem markerBit_keepsLinks (b : Bool) (s : State) : LinksKept s (markerBit b s) := by
  rw [markerBit_eq]
  exact .ite (fun _ => (loseSync_keepsLinks _ _).after rfl) fun _ => .same rfl

theorem syncBit_keepsLinks (i : Nat) (b : Bool) (s : State) : LinksKept s (syncBit i b s) := by
  refine .ite (fun _ => markerBit_keepsLinks b s) fun _ => .ite (fun _ => ?_) fun _ => .refl
  exact .ite (fun _ => LinksKept.refl.keep (slotDone _)) fun _ => .same rfl

theorem receiveBit_keepsLinks (i : Nat) (b : Bool) (s : State) : LinksKept s (receiveBit i b s) := by
  refine .ite (fun _ => .refl) fun _ => ?_
  have hpushed : LinksKept s (s.modRx fun x => { x with hist := x.hist.modify i (Hist.push b) }) := .same rfl
  dsimp only
  split
  · exact hpushed.keep (searchBit i)
  · exact hpushed.keep (confirmBit i b _)
  · exact hpushed.trans (syncBit_keepsLinks i b _)
  · exact hpushed

theorem receivedRound_keepsLinks (bits : BitVec 121) (s : State) : LinksKept s (receivedRound bits s) := by
  refine .ite (fun _ => ?_) fun _ => LinksKept.refl.keep roundEnds
  exact LinksKept.keep (LinksKept.refl.forEach _ fun i t => receiveBit_keepsLinks i _ t) fun t => t.modTx _

theorem reframe_keepsLinks (s : State) : LinksKept s (reframe s) :=
  .ite (fun _ => loseSync_keepsLinks true s) fun _ => .same rfl

/-! ### Cycles, minutes and the power states (R22, R147, R161, R199 to R201) -/

theorem endCycle_keepsLinks (s : State) : LinksKept s (endCycle s) :=
  LinksKept.trans (LinksKept.trans (.same (by simp)) (.of_links (cycleStep_links _))) (firstSweep_keepsLinks _)

theorem transmitCycle_keepsLinks (s : State) : LinksKept s (transmitCycle s) :=
  .ite (fun _ => (endCycle_keepsLinks s).keep beginCycle) fun _ => LinksKept.refl.keep roundEnds

theorem wake_keepsLinks (st : PowerState) (s : State) : LinksKept s (wake st s) := by
  refine LinksKept.keep (LinksKept.keep (LinksKept.forEach ?_ _ turnStale_keepsLinks) startTransmit) noticeDueIfAny
  exact (loopWake_keepsLinks _).after rfl

theorem minutePasses_keepsLinks (s : State) : LinksKept s (minutePasses s) := by
  have hminute := ((restMinute_keepsLinks s).keep heaterMinute).keep energyMinute
  exact .ite (fun _ => hminute.trans (wake_keepsLinks .quiet _)) fun _ => hminute

theorem canWakes_keepsLinks (s : State) : LinksKept s (canWakes s) :=
  .ite (fun _ => wake_keepsLinks .run s) fun _ => .ite (fun _ => .refl) fun _ => LinksKept.refl.keep canActivity

theorem wakeLine_keepsLinks (e : WakeEdge) (s : State) : LinksKept s (wakeLine e s) :=
  .ite (fun _ => wake_keepsLinks .quiet s) fun _ => .refl

theorem enterStandby_keepsLinks (s : State) : LinksKept s (enterStandby s) := by
  rw [enterStandby_eq]
  exact LinksKept.trans (.same (by simp [State.fallingAsleep])) (.of_links (lightSleep_links _))

theorem standbyExpires_keepsLinks (s : State) : LinksKept s (standbyExpires s) :=
  .ite (fun _ => enterStandby_keepsLinks s) fun _ => .refl

/-! ### Commits (R186 to R189) -/

/-- Then a setting's own operation, where the commit changes the setting. -/
theorem LinksKept.iteElse {c : Prop} {_ : Decidable c} {s t : State} (h : LinksKept s t) {f : State → State}
    (hf : ∀ u, LinksKept u (f u)) : LinksKept s (if c then t else f t) := by
  split
  · exact h
  · exact h.trans (hf t)

theorem commitClimate_keepsLinks (e : Entry) (s : State) : LinksKept s (commitClimate e s) := by
  have hput : LinksKept s (putEntry 0 2 e s) := .same (by simp)
  refine LinksKept.keep (LinksKept.keep ?_ heaterRefresh) fridgeRefresh
  exact (((hput.iteElse (heatModeAction_keepsLinks _)).iteElse fun u => LinksKept.refl.keep (heatSet _)).iteElse
    fun u => LinksKept.refl.keep (setFridgeMode _)).iteElse fun u => LinksKept.refl.keep (fridgeSet _)

theorem commitNodeMap_keepsLinks (p : Nat) (e : Entry) (s : State) : LinksKept s (commitNodeMap p e s) := by
  refine LinksKept.keep (LinksKept.heaterInputs (LinksKept.forEach (LinksKept.forEach (LinksKept.keep ?_ fun t => t.modTables _)
    _ fun n t => ?_) _ fun c t => ?_)) fridgeRefresh
  · exact LinksKept.refl.forEach _ fun q t => resetPosition_keepsLinks q _ t
  · exact .ite (fun _ => .refl) fun _ => LinksKept.refl.keep (setBaseline n none)
  · exact .ite (fun _ => .refl) fun _ => .of_links (t.modChannel_links c fun _ => rfl)

theorem commitEntry_keepsLinks (n i : Nat) (e : Entry) (s : State) : LinksKept s (commitEntry n i e s) := by
  unfold commitEntry
  refine LinksKept.modSetup ?_ _
  split
  · exact .same (by simp)
  · exact .same (by simp)
  · exact commitClimate_keepsLinks e s
  · exact .same (by simp)
  · exact (redefine_keepsLinks _ _).after
  · exact commitNodeMap_keepsLinks _ e s
  · exact .same (by simp)
  · exact .ite (fun _ => (restProfile_keepsLinks _ _).after) fun _ => .same (by simp)
  · exact (preheatNews_keepsLinks _).after
  · exact .same (by simp)

/-! ### Setup requests (R184 to R195) -/

theorem tryCommit_keepsLinks (c : Cursor) (parts : List (List Byte)) (s : State) : LinksKept s (tryCommit c parts s).2 := by
  have hdropped : LinksKept s (dropStaging s) := LinksKept.refl.keep dropStaging
  simp only [tryCommit]
  split
  · exact hdropped
  · split
    · exact (hdropped.trans (commitEntry_keepsLinks _ _ _ _)).modSetup _
    · exact hdropped

theorem stagePart_keepsLinks (c : Cursor) (parts : List (List Byte)) (s : State) : LinksKept s (stagePart c parts s).2 := by
  unfold stagePart
  split
  · exact tryCommit_keepsLinks c parts s
  · exact LinksKept.refl.modSetup _

theorem wrpDecide_keepsLinks (c : Cursor) (part : Nat) (b : List Byte) (s : State) :
    LinksKept s (wrpDecide c part b s).2 := by
  have hdropped : LinksKept s (dropStaging s) := LinksKept.refl.keep dropStaging
  unfold wrpDecide
  split
  · exact .refl
  · split
    · exact hdropped
    · split
      · split
        · exact hdropped
        · exact stagePart_keepsLinks _ _ s
      · split
        · split
          · exact stagePart_keepsLinks _ _ s
          · exact hdropped
        · exact hdropped

theorem wrpRequest_keepsLinks (d : List Byte) (s : State) : LinksKept s (wrpRequest d s).state := by
  unfold wrpRequest
  split
  · exact .refl
  · exact wrpDecide_keepsLinks _ _ _ s

theorem actRequest_keepsLinks (d : List Byte) (s : State) : LinksKept s (actRequest d s).state := by
  simp only [actRequest]
  split
  · exact .refl
  · split <;> exact handAction_keepsLinks _ _ _ s

theorem whenIdle_keepsLinks {s : State} {a : Answer} (h : LinksKept s a.state) : LinksKept s (whenIdle s a).state := by
  unfold whenIdle
  split
  · exact .refl
  · exact h

theorem selRequest_keepsLinks (d : List Byte) (s : State) : LinksKept s (selRequest d s).state := by
  simp only [selRequest]
  split <;> exact .same rfl

theorem rdpRequest_keepsLinks (d : List Byte) (s : State) : LinksKept s (rdpRequest d s).state := by
  simp only [rdpRequest]
  repeat' split
  all_goals exact .same (by simp)

theorem savRequest_keepsLinks (s : State) : LinksKept s (savRequest s).state := whenIdle_keepsLinks (.same rfl)

theorem defRequest_keepsLinks (s : State) : LinksKept s (defRequest s).state := whenIdle_keepsLinks (.same (by simp))

theorem lckRequest_keepsLinks (s : State) : LinksKept s (lckRequest s).state := by
  refine whenIdle_keepsLinks ?_
  repeat' split
  all_goals exact .same rfl

theorem staRequest_keepsLinks (d : List Byte) (s : State) : LinksKept s (staRequest d s).state := by
  simp only [staRequest]
  repeat' split
  all_goals exact .same rfl

theorem answer_keepsLinks (r : Bool) (d : List Byte) {f : State → Answer} (hf : ∀ t, LinksKept t (f t).state) (s : State) :
    LinksKept s (answer r d f s) := by
  have hdropped : LinksKept s (dropReceived s) := LinksKept.refl.keep dropReceived
  refine LinksKept.keep ?_ (offerResponse _)
  split
  · split
    · exact hdropped
    · exact hdropped.trans (hf _)
  · exact hdropped

theorem onRequest_keepsLinks (code : Nat) (r : Bool) {f : List Byte → State → Answer} (hf : ∀ d t, LinksKept t (f d t).state)
    (s : State) : LinksKept s (onRequest code r f s) := by
  unfold onRequest
  split
  · exact .ite (fun _ => answer_keepsLinks r _ (hf _) s) fun _ => .refl
  · exact .refl

theorem answerUnknown_keepsLinks (s : State) : LinksKept s (answerUnknown s) := by
  unfold answerUnknown
  split
  · exact .ite (fun _ => answer_keepsLinks false _ (fun _ => .refl) s) fun _ => .refl
  · exact .refl

/-! ### Resets, settling and passing seconds (R202, assumptions 2 and 3) -/

/-- After a reset no overlay is in use and no channel is linked (R202). -/
theorem resetWith_keepsLinks (c : ResetCause) (s : State) : LinksKept s (resetWith c s) := by
  intro _
  have hlink : ∀ c < 8, Lights.init.linkAt c = none := by decide
  have hunused : ∀ r < 2, (Lights.init.overlays.getD r Overlay.init).inUse = false := by decide
  refine (Lights.linksOk_iff Lights.init).mpr ⟨rfl, rfl, fun c hc => ⟨fun r hr => ?_, fun _ r hr hcov => ?_⟩⟩
  · simp [hlink c hc] at hr
  · exact Bool.false_ne_true ((hunused r hr).symm.trans hcov.1)

theorem restartNow_keepsLinks (s : State) : LinksKept s (restartNow s) := by
  unfold restartNow
  split
  · exact resetWith_keepsLinks _ s
  · exact .refl

theorem signalStaleStep_keepsLinks (n : Nat) (s : State) : LinksKept s (signalStaleStep n s) :=
  .ite (fun _ => (turnStale_keepsLinks n s).qualify) fun _ => .refl

theorem loopFailedStep_keepsLinks (s : State) : LinksKept s (loopFailedStep s) :=
  .ite (fun _ => (loopFails_keepsLinks s).qualify) fun _ => .refl

theorem preheatCloseStep_keepsLinks (s : State) : LinksKept s (preheatCloseStep s) :=
  .ite (fun _ => (windowExpires_keepsLinks s).qualify) fun _ => .refl

theorem nodeLostStep_keepsLinks (p : Nat) (s : State) : LinksKept s (nodeLostStep p s) :=
  .ite (fun _ => loseNode_keepsLinks .lost p s) fun _ => .refl

theorem dueSteps_keepsLinks (s : State) : LinksKept s (dueSteps s) := by
  have hsignals : LinksKept s (s.forEach (List.range 32) signalStaleStep) := LinksKept.refl.forEach _ signalStaleStep_keepsLinks
  have hdrained := hsignals.trans (drainReceived_keepsLinks _)
  have hlevels := (((hdrained.keep (levelAssertStep .cutoff)).keep (levelClearStep .cutoff)).keep (levelAssertStep .low)).keep
    (levelClearStep .low)
  have hcharge := ((hlevels.keep fullChargeStep).keep blindStep).keep estimateCloseStep
  have hstalled := hcharge.forEach positions fun p t => LinksKept.refl.keep (commandStallStep p)
  have hloop := (hstalled.keep windowEndStep).trans (loopFailedStep_keepsLinks _)
  exact (hloop.keep manualLimitStep).trans (preheatCloseStep_keepsLinks _)

theorem settle_keepsLinks (s : State) : LinksKept s (settle s) := by
  refine .ite (fun _ => .refl) fun _ => .ite (fun _ => restartNow_keepsLinks s) fun _ => ?_
  exact LinksKept.keep (LinksKept.keep (dueSteps_keepsLinks _).after admissionStep) admissionStep

theorem external_keepsLinks {f : State → State} (hf : ∀ t, LinksKept t (f t)) (s : State) : LinksKept s (external f s) :=
  .ite (fun _ => settle_keepsLinks s) fun _ => ((settle_keepsLinks s).trans (hf _)).qualify

theorem internal_keepsLinks {f : State → State} (hf : ∀ t, LinksKept t (f t)) (s : State) : LinksKept s (internal f s) :=
  .ite (fun _ => .refl) fun _ => (hf s).qualify

/-- Then an expiry, where its timer is found at its limit. -/
theorem LinksKept.expireIf {s t : State} (h : LinksKept s t) {c : State → Bool} {f : State → State}
    (hf : ∀ u, LinksKept u (f u)) : LinksKept s (expireIf c f t) :=
  .ite (fun _ => h.trans (hf t)) fun _ => h

theorem timersExpire_keepsLinks (protecting : Bool) (s : State) : LinksKept s (timersExpire protecting s) := by
  have owner {f : State → State} (hf : ∀ t, (f t).lights = t.lights) (t : State) : LinksKept t (qualify (f t)) :=
    (LinksKept.same (hf t)).qualify
  have hwarning (t : State) : LinksKept t (qualify (repeatExpires t)) := (repeatExpires_keepsLinks t).qualify
  have hnotice (t : State) : LinksKept t (noticeRepeatExpires t) := LinksKept.refl.keep noticeRepeatExpires
  have hquiet (t : State) : LinksKept t (quietExpires t) := LinksKept.refl.keep quietExpires
  unfold timersExpire
  refine (LinksKept.expireIf ?_ hwarning).expireIf hnotice |>.expireIf hquiet
  refine (LinksKept.expireIf ?_ (owner fun t => by simp)).expireIf (owner fun t => by simp)
  refine (LinksKept.expireIf ?_ (owner fun t => by simp)).expireIf (owner fun t => by simp)
  refine (LinksKept.expireIf ?_ (owner fun t => by simp)).expireIf (owner fun t => by simp)
  exact (LinksKept.refl.expireIf (owner fun t => by simp)).expireIf (owner fun t => by simp)

theorem secondPasses_keepsLinks (s : State) : LinksKept s (secondPasses s) := by
  have hcounted : LinksKept s (secondCounted s) :=
    LinksKept.expireIf (.same (by simp)) fun t => LinksKept.refl.keep rejoinBus
  have hexpired := (hcounted.trans (timersExpire_keepsLinks s.protectRuns _)).qualify
  rw [secondPasses_eq, secondExpired]
  exact (hexpired.expireIf enterStandby_keepsLinks).expireIf restartNow_keepsLinks

/-! ### START_UP (R203) -/

theorem imageLoaded_lights (d : StoreDamage) (s : State) : (s.imageLoaded d).lights = s.lights := by
  unfold State.imageLoaded
  dsimp only
  split <;> rfl

theorem startUpWith_keepsLinks (d : StoreDamage) (s : State) : LinksKept s (startUpWith d s) := by
  rw [startUpWith_eq]
  refine LinksKept.keep (LinksKept.keep ((restStartUp_keepsLinks _).after ?_) heaterRefresh) openReception
  simp [State.accountantStarted, State.entriesSetUp, imageLoaded_lights]

/-! ### Every step -/

theorem whenRuns_keepsLinks (timer : State → Option Nat) {f : State → State} (hf : ∀ t, LinksKept t (f t)) (s : State) :
    LinksKept s (whenRuns (timer s) f s) :=
  .ite (fun _ => hf s) fun _ => .refl

theorem exec_keepsLinks {c : Instr} {s t : State} (ht : exec c s = .next t) : LinksKept s t := by
  have request (code : Nat) (r : Bool) (f : List Byte → State → Answer) (hf : ∀ d t, LinksKept t (f d t).state) :=
    external_keepsLinks (onRequest_keepsLinks code r hf) s
  cases c with
  | frameReceived f =>
    by_cases hf : f.wellFormed
    · simp only [exec, execFrameReceived, hf, if_true] at ht
      exact holds_of_next (external_keepsLinks (fun t => LinksKept.refl.keep (frameReceived f)) s) ht
    · simp [exec, execFrameReceived, hf] at ht
  | ingressMatch => exact holds_of_next (external_keepsLinks ingressTakes_keepsLinks s) ht
  | unknownRequest => exact holds_of_next (external_keepsLinks answerUnknown_keepsLinks s) ht
  | idReq => exact holds_of_next (request _ _ _ fun _ _ => .refl) ht
  | selReq => exact holds_of_next (request _ _ _ selRequest_keepsLinks) ht
  | wrpReq => exact holds_of_next (request _ _ _ wrpRequest_keepsLinks) ht
  | rdpReq => exact holds_of_next (request _ _ _ rdpRequest_keepsLinks) ht
  | savReq => exact holds_of_next (request _ _ _ fun _ => savRequest_keepsLinks) ht
  | defReq => exact holds_of_next (request _ _ _ fun _ => defRequest_keepsLinks) ht
  | lckReq => exact holds_of_next (request _ _ _ fun _ => lckRequest_keepsLinks) ht
  | clrReq => exact holds_of_next (request _ _ _ fun _ t => .same (by simp [clrRequest])) ht
  | actReq => exact holds_of_next (request _ _ _ actRequest_keepsLinks) ht
  | rfrReq => exact holds_of_next (request _ _ _ fun _ t => reframe_keepsLinks t) ht
  | rstReq => exact holds_of_next (request _ _ _ fun _ t => LinksKept.refl.keep (arrangeRestart .restart)) ht
  | staReq => exact holds_of_next (request _ _ _ staRequest_keepsLinks) ht
  | restartTrigger => exact holds_of_next (internal_keepsLinks restartNow_keepsLinks s) ht
  | signalStale n => exact holds_of_next (internal_keepsLinks (signalStaleStep_keepsLinks n.val) s) ht
  | loopFailedAssert => exact holds_of_next (internal_keepsLinks loopFailedStep_keepsLinks s) ht
  | statusMessage => exact holds_of_next (internal_keepsLinks takeMessage_keepsLinks s) ht
  | nodeLost p => exact holds_of_next (internal_keepsLinks (nodeLostStep_keepsLinks p.val) s) ht
  | preheatWindowClose => exact holds_of_next (internal_keepsLinks preheatCloseStep_keepsLinks s) ht
  | transmitCycle => exact holds_of_next (external_keepsLinks transmitCycle_keepsLinks s) ht
  | receivedRound bits => exact holds_of_next (external_keepsLinks (receivedRound_keepsLinks bits) s) ht
  | minuteTick => exact holds_of_next (external_keepsLinks minutePasses_keepsLinks s) ht
  | repeatTimerExpiry =>
    exact holds_of_next (external_keepsLinks (whenRuns_keepsLinks (fun t => t.rest.repeatTimer) repeatExpires_keepsLinks) s) ht
  | standbyEntry => exact holds_of_next (external_keepsLinks standbyExpires_keepsLinks s) ht
  | canWake => exact holds_of_next (external_keepsLinks canWakes_keepsLinks s) ht
  | wakeLineEdge e => exact holds_of_next (external_keepsLinks (wakeLine_keepsLinks e) s) ht
  | reset c => exact holds_of_next (resetWith_keepsLinks c s) ht
  | startUp d => exact holds_of_next (.ite (fun _ => (startUpWith_keepsLinks d s).qualify) fun _ => .refl) ht
  | protectTimerExpiry =>
    exact holds_of_next (external_keepsLinks (fun t => .ite (fun _ => LinksKept.refl.keep protectExpires) fun _ => .refl) s) ht
  | setupNoTag | saveComplete | lockWriteComplete | budgetTick | surgeLimitExpiry | ignitionTimeout | purgeLimit
  | levelHoldExpiry | minimumOnExpiry | minimumOffExpiry | surgeHoldExpiry | signalAgeTick | egressPass | frameTransmitted
  | transmitError | busOffRecovery | noticeRepeat | quietTimerExpiry =>
    exact holds_of_next (external_keepsLinks (fun t => .same (by simp)) s) ht
  | batteryBlindSet | receivedCycleEnd | nodePresent | levelAssert | levelClear | fullChargeEvent | manualLimitExpiry
  | estimateWindowClose | egressCountdownExpiry | busOff | priorityFrameAdmitted | errorWindowEnd | commandStall =>
    exact holds_of_next (internal_keepsLinks (fun t => .same (by simp)) s) ht

/-- Settles O14: every state a step leads to is reached by operations that leave the links or start and end overlays. -/
theorem overlayLinksStayRight : Obligations.OverlayLinksStayRight := by
  intro s t hs ht
  unfold step at ht
  split at ht
  · exact exec_keepsLinks ht hs
  · exact holds_of_next (P := LinksKept s) (external_keepsLinks secondPasses_keepsLinks s) ht hs

end Sys2Proof.Machine
end

section
/-! PROOF. The shed cap at a cycle step (R151, R152; O40). -/

namespace Sys2Proof.Machine

set_option Elab.async false -- one theorem after another: each would otherwise take a thread with its own large stack

/-! ### What a cycle step composes from (R147, R155) -/

theorem lightsAdvanced_channel (s : State) {c : Nat} (hc : c < s.lights.channels.length) :
    s.lightsAdvanced.channel c = (s.channel c).step := by
  simp [State.lightsAdvanced, State.channel, hc]

theorem lightsAdvanced_lightCapped (s : State) (c : Nat) : s.lightsAdvanced.lightCapped c = s.lightCapped c := rfl

/-- Each channel of a list changed once, by the operation of its number. -/
theorem State.forEach_modChannel_channel {s : State} {cs : List Nat} (hcs : cs.Nodup) (f : Nat → Channel → Channel) {c : Nat}
    (hc : c < s.lights.channels.length) :
    (s.forEach cs fun e t => t.modChannel e (f e)).channel c = if c ∈ cs then f c (s.channel c) else s.channel c := by
  unfold State.forEach
  induction cs generalizing s with
  | nil => rfl
  | cons e cs ih =>
    obtain ⟨hnot, hcs⟩ := List.nodup_cons.mp hcs
    rw [List.foldl_cons, ih hcs (by simpa using hc), State.channel_modChannel]
    by_cases he : e = c
    · subst he
      simp [hnot, hc]
    · simp [he, Ne.symm he]

/-- A cycle step leaves each of the eight channels with the output composed for it. -/
theorem cycleStep_out {s : State} {c : Nat} (hc : c < 8) (hlen : s.lights.channels.length = 8) :
    ((cycleStep s).channel c).out = s.lightsAdvanced.outputOf c := by
  have hc' : c < s.lightsAdvanced.lights.channels.length := by simpa [State.lightsAdvanced, hlen] using hc
  have hcomposed := State.forEach_modChannel_channel (cs := channels) List.nodup_range
    (fun e ch => { ch with out := (channels.map s.lightsAdvanced.outputOf).getD e Output.init }) hc'
  have hmem : c ∈ channels := List.mem_range.mpr hc
  rw [if_pos hmem] at hcomposed
  calc ((cycleStep s).channel c).out = (s.lightsAdvanced.outputsComposed.channel c).out := by
        rw [State.channel, cycleStep_lights, State.channel]
    _ = (channels.map s.lightsAdvanced.outputOf).getD c Output.init := congrArg Channel.out hcomposed
    _ = s.lightsAdvanced.outputOf c := getD_map_range _ _ hc

/-! ### The cap (R151) -/

theorem lightCapped_of_entry {s : State} {c i : Nat} (hentry : s.lightEntryOf c = some i)
    (hgrant : (s.live i).grant = .waiting ∨ (s.live i).grant = .shedding ∨ (s.live i).grant = .shed) :
    s.lightCapped c = true := by
  simpa [State.lightCapped, hentry, or_assoc] using hgrant

/-- By night or by day, a capped channel without an overlay is composed at the shed cap or below. -/
theorem composed_le_shedCap {s : State} {c : Nat} (hlink : (s.channel c).link = none) (hcap : s.lightCapped c = true) :
    (s.composed c).2.1 ≤ s.lightSettings.shedCap := by
  simp only [State.composed, hlink, hcap, if_true]
  split
  · exact Nat.min_le_right _ _
  · exact Nat.min_le_right _ _

/-- Settles O40: the composed level is a minimum with the shed cap, and the output scales its tint by that level. -/
theorem cappedLightsStayBelowTheShedCap : Obligations.CappedLightsStayBelowTheShedCap := by
  intro s c i hc hlen hlink hentry hgrant
  dsimp only
  rw [cycleStep_out hc hlen]
  have hstep : (s.lightsAdvanced.channel c).link = none := by
    rw [lightsAdvanced_channel s (hlen ▸ hc), Channel.step_link, hlink]
  have hcap := (lightsAdvanced_lightCapped s c).trans (lightCapped_of_entry hentry hgrant)
  exact ⟨composed_le_shedCap hstep hcap, rfl, rfl, rfl⟩

end Sys2Proof.Machine
end

section
/-! PROOF. Fades: the straight line and its end (R146, R147; O41). -/

namespace Sys2Proof.Machine

set_option Elab.async false -- one theorem after another: each would otherwise take a thread with its own large stack

/-- The level of a fade after `k` of its steps (R147). -/
def Fade.levelAt (f : Fade) (k : Nat) : Int := f.start + Int.tdiv (((f.target : Int) - f.start) * k) f.n

theorem Fade.levelAt_zero (f : Fade) : f.levelAt 0 = f.start := by simp [Fade.levelAt]

theorem Fade.levelAt_n {f : Fade} (hn : 1 ≤ f.n) : f.levelAt f.n = f.target := by
  rw [Fade.levelAt, Int.mul_tdiv_cancel _ (by omega)]
  omega

/-- A fade falls at most to its target. -/
theorem Fade.levelAt_nonneg {f : Fade} {k : Nat} (hk : k ≤ f.n) : 0 ≤ f.levelAt k := by
  rw [Fade.levelAt]
  rcases le_total (0 : Int) ((f.target : Int) - f.start) with hup | hdown
  · have := Int.tdiv_nonneg (Int.mul_nonneg hup (Int.natCast_nonneg k)) (Int.natCast_nonneg f.n)
    omega
  · have hpart : ((f.start : Int) - f.target) * k / f.n ≤ (f.start : Int) - f.target := by
      rcases Nat.eq_zero_or_pos f.n with hn | hn
      · simp only [hn, Nat.cast_zero, Int.ediv_zero]
        omega
      · exact Int.ediv_le_of_le_mul (by omega) (Int.mul_le_mul_of_nonneg_left (by omega) (by omega))
    have hflip : Int.tdiv (((f.target : Int) - f.start) * k) f.n = -(((f.start : Int) - f.target) * k / f.n) := by
      rw [← Int.tdiv_eq_ediv_of_nonneg (Int.mul_nonneg (by omega) (Int.natCast_nonneg k)), ← Int.neg_tdiv, ← Int.neg_mul, neg_sub]
    omega

/-! ### The steps of a fade (R146, R147) -/

/-- The channel has taken `k` steps of a fade: its level lies on the line, and the fade is in flight until the last of them. -/
def Channel.FadedBy (f : Fade) (k : Nat) (c : Channel) : Prop :=
  (c.level : Int) = f.levelAt k ∧ c.fade = if k = f.n then none else some { f with k := k }

theorem Channel.startFade_fadedBy {c : Channel} {target n : Nat} (ht : target ≠ c.level) (hn : 1 ≤ n) :
    (c.startFade target n).FadedBy { start := c.level, target := target, n := n, k := 0 } 0 := by
  have hn0 : 0 ≠ n := by omega
  simp [Channel.FadedBy, Channel.startFade, ht, Fade.levelAt_zero, hn0]

/-- One step more, while the fade is in flight. -/
theorem Channel.FadedBy.step {f : Fade} {k : Nat} {c : Channel} (h : c.FadedBy f k) (hk : k < f.n) :
    c.step.FadedBy f (k + 1) := by
  obtain ⟨-, hfade⟩ := h
  rw [if_neg (by omega)] at hfade
  have hlevel : c.step.level = (f.levelAt (k + 1)).toNat := by
    cases hp : c.pending <;> simp [Channel.step, hfade, hp, Fade.levelAt]
  have hleft : c.step.fade = if f.n ≤ k + 1 then none else some { f with k := k + 1 } := by
    cases hp : c.pending <;> simp [Channel.step, hfade, hp]
  refine ⟨?_, ?_⟩
  · rw [hlevel, Int.toNat_of_nonneg (Fade.levelAt_nonneg hk)]
  · rw [hleft]
    exact if_congr (by omega) rfl rfl

theorem Channel.FadedBy.iterate {f : Fade} {c : Channel} (h : c.FadedBy f 0) {k : Nat} (hk : k ≤ f.n) :
    (Nat.iterate Channel.step k c).FadedBy f k := by
  induction k with
  | zero => exact h
  | succ k ih =>
    rw [Function.iterate_succ_apply']
    exact (ih (by omega)).step hk

/-- Settles O41: by induction on the steps taken, the level is on the line, which ends at the target. -/
theorem fadesReachTheirTarget : Obligations.FadesReachTheirTarget := by
  intro c target n k _ _ htarget hn _ hkn
  set f : Fade := { start := c.level, target := target, n := n, k := 0 } with hf
  obtain ⟨hlevel, hfade⟩ := (Channel.startFade_fadedBy htarget hn).iterate (f := f) hkn
  refine ⟨hlevel, ?_, fun hk => ?_⟩
  · rw [hfade]
    by_cases hk : k = n <;> simp [hf, hk]
  · have hend := Fade.levelAt_n (f := f) hn
    rw [hk] at hlevel ⊢
    exact Int.ofNat_inj.mp (hlevel.trans hend)

end Sys2Proof.Machine
end
